-- ==== Sys2Proof/Word.lean ====
section
/-!
DEFINITION. The word types of the block and its sparse tables.
-/

namespace Sys2Proof

/-- A byte. -/
abbrev Byte := BitVec 8

/-- A 32-bit word: a register of the block, a register of an Eloa core. -/
abbrev Word := BitVec 32

/-- A sparse table by number: pairs of a key and a value, in rising order of the key. -/
abbrev Tbl (α : Type) := List (Nat × α)

end Sys2Proof
end

