-- ==== Sys2Proof/Syntax.lean ====
section
/-!
DEFINITION. The commands the block takes: the operand types, then the one inductive Instr.
-/

namespace Sys2Proof

/-- A doorbell page (02 R39): page q of PF0's BAR0, or page j of VF n's BAR0. -/
inductive DbPage where
  | pf0 (q : Nat)
  | vf (n j : Nat)
  deriving DecidableEq, Repr

/-- The PCI Express extended capabilities that 02 R33 speaks of; the last one is the page request interface. -/
inductive ExtCap where
  | sriov
  | pasid
  | ats
  | aer
  | ari
  | pri
  deriving DecidableEq, Repr

/-- A field of a function's configuration space that 02 R2, R33, R34, R37, R38 names. The PCI Express standard, not the spec,
places it: a field is named here and has no offset (log 79). -/
inductive CfgReg where
  | vendorId
  | deviceId
  | revisionId
  | classCode
  | maxPayloadSupported
  | maxPayload
  | maxReadRequest
  | tagBits
  | busMaster
  | atsEnable
  | totalVfs
  | vfStride
  | firstVfOffset
  | numVfs
  | capability (c : ExtCap)
  deriving DecidableEq, Repr

/-- Where an access of the host goes (02 R33, R39, R40): an offset in a doorbell page, in BAR2 of PF0, in the MSI-X BAR4 of a
function (0 for PF0, n for VF n), or a field of a function's configuration space. -/
inductive RegAddr where
  | bar0 (pg : DbPage) (off : Nat)
  | bar2 (off : Nat)
  | bar4 (func off : Nat)
  | config (func : Nat) (r : CfgReg)
  deriving DecidableEq, Repr

/-- What a register read reads (02 R40, R46, R53; 03 R101; 06 R194, R209): bytes of a host window, of which HIF_ADM_STRAY_DB
and HIF_DB_ERRCNT have RC fields, or one of the block's own registers with RC fields. -/
inductive RcReg where
  | host (a : RegAddr) (width : Nat)
  | svcLock (core : Nat)
  | tilePairSts (t : Nat)
  | pkeCoreSts (t k : Nat)
  deriving DecidableEq, Repr

/-- A path to the dictionary (10 R330): the PF0 tunnel, or a session of the management bus. -/
inductive Path where
  | tunnel
  | session (sid : Nat)
  deriving DecidableEq, Repr

/-- How a partition command comes (08 R255): HIF_ADM_PCMD with its DRAIN_MS, or the object PART_CMD. -/
inductive Via where
  | pcmd (drainMs : Nat)
  | dict (path : Path)
  deriving DecidableEq, Repr

/-- What a descriptor read brings (02 R43, R50): an error or failed translation, or 128 bytes. -/
inductive FetchResult where
  | error
  | bytes (b : List Byte)
  deriving DecidableEq, Repr

/-- An entry of a segment list (02 R60). -/
structure Seg where
  addr : Nat
  len  : Nat
  rsvd : Nat
  deriving DecidableEq, Repr

/-- What the reads of a descriptor's segment lists and input data bring (02 R62 check 6). -/
inductive ReadResult where
  | error (seg : Nat)
  | lists (ins outs : List Seg) (data : List Byte)
  deriving DecidableEq, Repr

/-- The engines of a tile that take steps (03 R85). -/
inductive Engine where
  | pair (n : Nat)
  | pke (k : Nat)
  | hash
  | fixed
  deriving DecidableEq, Repr

/-- How an op-list run on a public-key core ends (06 R200, R207, R208): by itself, at a failed check, or at a parity error of its
memory. -/
inductive OplistEnd where
  | ends
  | checkFailed
  | parity
  deriving DecidableEq, Repr

/-- One reading of a tamper detector (12 R379): beyond its threshold, plausible, and the raw sample. -/
structure Reading where
  beyond    : Bool
  plausible : Bool
  sample    : Nat
  deriving DecidableEq, Repr

/-- One source's pair of readings in a burst on backup power (12 R390). -/
structure BurstReading where
  src : Nat
  a   : Reading
  b   : Reading
  deriving DecidableEq, Repr

/-- The groups with an inverted shadow (12 R388). -/
inductive ShadowGroup where
  | config (src : Nat) (window : Bool)
  | response (src : Nat)
  | latch
  | restore
  | lifeCycle (reg : Nat) (value shadow : BitVec 3)
  | bounds (unit p : Nat)
  | keyTag (t i : Nat)
  deriving DecidableEq, Repr

/-- What start-up finds outside its own state (11 R355, R356; 07 R231): working journal and recorder devices,
the physical slots whose tags fail in both images, and the journal records whose CRC is bad on a device: true for the second
device, and the ISN (04 R116); the same of the lines of the key-update area whose named slot's tag fails (07 R228). -/
structure StartInfo where
  devA : Bool
  devB : Bool
  recA : Bool
  recB : Bool
  lost : List Nat
  bad  : List (Bool × Nat)
  badLines : List (Bool × Nat)
  deriving DecidableEq, Repr

/-- One piece of a written value (10 R332). -/
structure Piece where
  first  : Bool
  last   : Bool
  offset : Nat
  total  : Nat
  value  : List Byte
  deriving DecidableEq, Repr

/-- How a start-up test of the noise source ends (13 R402): passed, or failed on a sampler by a test. -/
inductive StartupResult where
  | passed
  | failed (sampler : Nat) (apt : Bool)
  deriving DecidableEq, Repr

/-- The estimates of one sampler (13 R400). -/
structure Estimates where
  bias   : BitVec 16
  corr1  : BitVec 16
  corr2  : BitVec 16
  corr3  : BitVec 16
  corr4  : BitVec 16
  rctMax : BitVec 16
  aptMax : BitVec 16
  deriving DecidableEq, Repr

/-- A memory that the debugger addresses beside a core's data map: a core's instruction memory, the DDR5, an MRAM device, the BBRAM (11
R372). -/
inductive DbgSpace where
  | code (core : Nat)
  | ddr
  | mram (dev : Nat)
  | bbram
  deriving DecidableEq, Repr

/-- What the TAP's AVB_DBG instruction asks of a core (11 R372): halt, resume, one word stepped, a word of its data memory
or a register read or written. -/
inductive DbgOp where
  | readOther (sp : DbgSpace) (addr : Nat)
  | writeOther (sp : DbgSpace) (addr : Nat) (v : Word)
  | halt (core : Nat)
  | resume (core : Nat)
  | step (core : Nat)
  | readMem (core : Nat) (addr : Word)
  | writeMem (core : Nat) (addr v : Word)
  | readReg (core : Nat) (r : Nat)
  | writeReg (core : Nat) (r : Nat) (v : Word)
  deriving DecidableEq, Repr

/-- A register field of an Eloaquel instruction (09 R279). -/
abbrev Reg := BitVec 5

/-- One short operation of a pair (09 R287): sop, rd, and ra or imm5. -/
structure Short where
  sop : BitVec 5
  rd  : BitVec 5
  x   : BitVec 5
  deriving DecidableEq, Repr

/-- The short form of an operation (09 R287): slot A of a pair with what stands in slot B, or the other way round. -/
inductive ShortForm where
  | slotA (rd x : BitVec 5) (b : Short)
  | slotB (a : Short) (rd x : BitVec 5)
  deriving DecidableEq, Repr

/-- NOP: the long word or a slot of a pair. -/
inductive NopForm where
  | long
  | short (f : ShortForm)
  deriving DecidableEq, Repr

/-- Format LR or a slot of a pair. -/
inductive RForm where
  | long (rd ra rb : Reg)
  | short (f : ShortForm)
  deriving DecidableEq, Repr

/-- Format LR with rd zero (CMP, TST) or a slot of a pair. -/
inductive CForm where
  | long (ra rb : Reg)
  | short (f : ShortForm)
  deriving DecidableEq, Repr

/-- Format LI or a slot of a pair. -/
inductive IForm where
  | long (rd ra : Reg) (imm : BitVec 14)
  | short (f : ShortForm)
  deriving DecidableEq, Repr

/-- Format LU with imm19 (MOVI) or a slot of a pair. -/
inductive UForm where
  | long (rd : Reg) (imm : BitVec 19)
  | short (f : ShortForm)
  deriving DecidableEq, Repr


/-- The commands of the block: one constructor per row of spec/opcode_table.json, in the table's order.
Each docstring gives the row's mnemonic and rule. -/
inductive Instr where
  /-- POWER_GOOD_START (R355): Main power becomes good and the module runs its start-up sequence from ROM through opening the data plane. -/
  | powerGoodStart (found : StartInfo)
  /-- MAIN_POWER_LOSS (R132): Loss of main power is detected and the hold-up flush runs to its end. -/
  | mainPowerLoss (returned : List (Nat × Option Nat))
  /-- PERST_ASSERT (R459): PERST# asserted while main power stays good, treated as a PF0 function-level reset. -/
  | perstAssert
  /-- PF0_FUNCTION_LEVEL_RESET (R38): A function-level reset of PF0 abandons quarter and tile state and restores doorbell pages for re-fetch. -/
  | pf0FunctionLevelReset
  /-- VF_FUNCTION_LEVEL_RESET (R38): A function-level reset of a VF stops fetching for its queue pairs and holds completions until Bus Master Enable returns. -/
  | vfFunctionLevelReset (vf : Nat)
  /-- BUS_MASTER_ENABLE_SET (R38): A VF's Bus Master Enable is set again and its held completions may be written. -/
  | busMasterEnableSet (vf : Nat)
  /-- ATS_INVALIDATION (R37): An ATS invalidation request is received and completed after the requests using the translations have been issued. -/
  | atsInvalidation (func : Nat) (page : Nat)
  /-- HIF_DB_SQ_TAIL (R47): Write of the submission tail on a doorbell page, validated against the published head and depth. -/
  | hifDbSqTail (pg : DbPage) (width : Nat) (v : Word)
  /-- HIF_DB_CQ_HEAD (R48): Write of the completion head on a doorbell page, including the first write after power loss that starts replay. -/
  | hifDbCqHead (pg : DbPage) (width : Nat) (v : Word)
  /-- HIF_DB_IRQ_CTL (R73): Write of IRQ_MASK; clearing it with completions pending sends one message. -/
  | hifDbIrqCtl (pg : DbPage) (width : Nat) (v : Word)
  /-- HIF_QP_CTL_EN (R51): Write setting EN of a queue pair, refused with CFG_ERR under the listed conditions. -/
  | hifQpCtlEn (qp : Nat) (v : Word) (hw : Nat)
  /-- CPL_ERR_CLEAR (R66): Software clears CPL_ERR and the Q4 reissues the held completion write and continues in ASN order. -/
  | cplErrClear (qp : Nat) (translated : Bool)
  /-- RC_REGISTER_READ (R11): A read of an RC register field returns its value and clears it, with a concurrent hardware set winning. -/
  | rcRegisterRead (r : RcReg) (hw : Nat) (hw2 : Nat)
  /-- REGISTER_WRITE (R40): A write to any register that has no row of its own, applied or discarded by width and access code. -/
  | registerWrite (a : RegAddr) (width : Nat) (v : BitVec 64) (hw : Nat)
  /-- SUSPEND (R255): Partition command SUSPEND through HIF_ADM_PCMD or PART_CMD. -/
  | suspend (via : Via) (p : Nat)
  /-- RESUME (R255): Partition command RESUME through HIF_ADM_PCMD or PART_CMD. -/
  | resume (via : Via) (p : Nat)
  /-- DRAIN (R127): Partition command DRAIN stops fetching and lets accepted work run until done or the deadline. -/
  | drain (via : Via) (p : Nat)
  /-- SQUASH (R128): Partition command SQUASH cancels unfired work and closes the rings of every queue pair. -/
  | squash (via : Via) (p : Nat)
  /-- CREATE (R246): Partition CREATE checks the configuration and allocates the partition's reservations. -/
  | create (path : Path) (p : Nat)
  /-- PART_REMOVE (R260): Removal of a partition under module quorum, erasing its state and returning its resources. -/
  | partRemove (path : Path) (p : Nat)
  /-- DRAIN_DEADLINE_EXPIRY (R127): A drain deadline expires in a home quarter and the remaining work is squashed. -/
  | drainDeadlineExpiry (q : Nat) (p : Nat)
  /-- PART_DISAGREE (R254): ADMIN and OPER of a partition have differed for more than 100 ms and the disagreement is flagged. -/
  | partDisagree (p : Nat)
  /-- TILE_DISAGREE (R22): A tile's administrative enable and operational fence have disagreed for more than 100 ms and an event is raised. -/
  | tileDisagree (t : Nat)
  /-- MBX_SUBMIT (R56): SUBMIT sends the mailbox request buffer as a dictionary request. -/
  | mbxSubmit
  /-- MBX_ABORT (R56): ABORT while BUSY withdraws or finishes the current mailbox request and writes its response. -/
  | mbxAbort
  /-- DESCRIPTOR_FETCH (R43): The dispatcher issues a read of up to 32 descriptors while the fetch conditions hold. -/
  | descriptorFetch (qp : Nat) (n : Nat)
  /-- DESCRIPTOR_ARRIVAL (R77): A fetched descriptor enters the dispatcher pipeline and is accepted or discarded. -/
  | descriptorArrival (qp : Nat) (r : FetchResult)
  /-- DESCRIPTOR_HOME (R80): A waiting accepted descriptor is homed on a tile once its fence, matching-store, journal, line and nonce needs are met. -/
  | descriptorHome (qp : Nat) (asn : Nat)
  /-- NONCE_BLOCK_RESERVE (R183): The journal controller reserves a new counter block for a partition in a quarter. -/
  | nonceBlockReserve (q : Nat) (p : Nat)
  /-- KEY_CACHE_PIN_GRANT (R234): A descriptor waiting for key-cache space obtains and pins all its entries when a pin is released. -/
  | keyCachePinGrant (qp : Nat) (asn : Nat)
  /-- VAULT_FILL (R235): The vault fill path serves a key-cache miss, checks the record and emits a key-ready token. -/
  | vaultFill (qp : Nat) (asn : Nat)
  /-- VAULT_GRANT (R139): A descriptor waiting on a mutable vault record receives its grant in request order. -/
  | vaultGrant (qp : Nat) (asn : Nat)
  /-- STEP_FIRE (R85): A step whose operands are all matched is taken by a free engine. -/
  | stepFire (qp : Nat) (asn : Nat) (e : Engine)
  /-- LANE_STEP_DONE (R95): A twin-pair step reaches its umpire cycle and either emits its result or handles a mismatch. -/
  | laneStepDone (t : Nat) (pair : Nat) (agree : Bool)
  /-- PKE_OPLIST_DONE (R196): An op-list run on a PKE core ends with its result, a fault, or a failed check retried on the other core. -/
  | pkeOplistDone (t : Nat) (k : Nat) (r : OplistEnd)
  /-- HASH_BLOCK_DONE (R190): The hash unit finishes a block and takes the next requester's block. -/
  | hashBlockDone (t : Nat) (parityOk : Bool)
  /-- TOKEN_ARRIVAL (R301): A token arrives for a ticket and a script core waiting in WAITT, RDT or END resumes. -/
  | tokenArrival (c : Nat) (ticket : Nat)
  /-- SCRIPT_BUDGET_EXCEEDED (R270): A tenant script's cycle count reaches its budget and the descriptor completes. -/
  | scriptBudgetExceeded (c : Nat)
  /-- SCRIPT_CORE_ASSIGN (R471): A descriptor waiting for a standard script core receives a freed core by round robin. -/
  | scriptCoreAssign (t : Nat)
  /-- TENANT_SCRIPT_LOAD (R269): S3 is prepared for the next tenant invocation, loading and checking its image if needed. -/
  | tenantScriptLoad (t : Nat) (qp : Nat) (asn : Nat)
  /-- DEADLINE_EXPIRY (R93): A deadline entry on L0-L3 expires and an unfired descriptor completes with DEADLINE_EXPIRED. -/
  | deadlineExpiry (qp : Nat) (asn : Nat)
  /-- RETRY_BACKOFF_EXPIRY (R96): An L4 back-off expires and the descriptor is re-dispatched to another tile. -/
  | retryBackoffExpiry (qp : Nat) (asn : Nat)
  /-- BUCKET_REFILL_EXPIRY (R79): An L5 refill entry expires and fetching resumes for the partition in the quarter. -/
  | bucketRefillExpiry (q : Nat) (p : Nat)
  /-- GATE_DEFERRAL_EXPIRY (R82): An L6 entry expires and the SE descriptor is homed or parked again. -/
  | gateDeferralExpiry (qp : Nat) (asn : Nat)
  /-- RNG_DEFERRAL_TICK (R407): At each tick the parked RANDOM descriptors on L7 are served by round robin from the buffer. -/
  | rngDeferralTick (q : Nat)
  /-- RANDOM_SERVE (R407): A RANDOM descriptor whose journal reservation is made is served from the quarter buffer or parked. -/
  | randomServe (qp : Nat) (asn : Nat)
  /-- KEY_CACHE_ECC_ERROR (R99): An uncorrectable key-cache ECC error fences the tile. -/
  | keyCacheEccError (t : Nat)
  /-- WATCHDOG_EXPIRY (R99): 100 us pass without a heartbeat in a busy tile and the tile is fenced. -/
  | watchdogExpiry (t : Nat)
  /-- QUARTER_STATE_ERROR (R100): An uncorrectable error in a quarter's in-flight table or dispatcher state fails the quarter. -/
  | quarterStateError (q : Nat)
  /-- HOST_FABRIC_SILENCE (R100): A quarter with releasable work sends nothing to the host fabric for 1 ms and fails. -/
  | hostFabricSilence (q : Nat)
  /-- QUEUE_PAIR_REHOME (R125): A queue pair of a failed quarter is re-homed on the surviving quarter with fewest queue pairs. -/
  | queuePairRehome (qp : Nat)
  /-- TILE_MATCHING_PARITY (R85): A parity error on a token fails that descriptor with DATA_INTEGRITY_ERROR. -/
  | tileMatchingParity (qp : Nat) (asn : Nat) (core : Option Nat)
  /-- RESEQ_RELEASE (R102): The re-sequencer writes the next completion of a queue pair once all release conditions hold. -/
  | reseqRelease (qp : Nat) (translated : Bool) (outFail : Option Nat)
  /-- COAL_TIME_EXPIRY (R71): The oldest pending completion reaches COAL_TIME and the message is sent. -/
  | coalTimeExpiry (qp : Nat)
  /-- FLUSHING_READ_RETURN (R112): A zero-length flushing read returns and the completions before it count as written. -/
  | flushingReadReturn (func : Nat) (pasid : Option Nat)
  /-- WATERMARK_BATCH (R113): A watermark batch starts and commits new watermarks to both MRAM devices. -/
  | watermarkBatch
  /-- COMMIT_UNIT (R117): The journal controller runs a commit unit through its records and commit word. -/
  | commitUnit
  /-- JOURNAL_DEVICE_FAIL (R119): An MRAM journal device fails in service; loss of the second is a module failure. -/
  | journalDeviceFail (dev : Nat)
  /-- CHECKPOINT (R230): The vault controller checkpoints one logical page to both NAND images and frees its lines. -/
  | checkpoint (page : Nat)
  /-- KEY_OP_ACTION (R243): Write starting revocation or destruction of a partition key. -/
  | keyOpAction (path : Path) (action : Nat)
  /-- MOD_KEY_OP_ACTION (R243): Quorum write starting revocation or destruction of a module record. -/
  | modKeyOpAction (path : Path) (action : Nat)
  /-- KEY_DESTROY_FREE (R241): The last pin on a destroyed key is released and its slots are committed FREE. -/
  | keyDestroyFree
  /-- SVC_ACQUIRE (R195): SVC_LOCK_CTL ACQUIRE sets the writing core's request bit for the service engine lock. -/
  | svcAcquire (c : Nat)
  /-- SVC_RELEASE (R195): SVC_LOCK_CTL RELEASE by the owner releases the lock. -/
  | svcRelease (c : Nat)
  /-- SVC_FORCE (R195): SVC_LOCK_CTL FORCE from M0 aborts the engine's operation and releases the lock. -/
  | svcForce (c : Nat)
  /-- SVC_CANCEL (R195): SVC_LOCK_CTL CANCEL clears the writing core's request bit. -/
  | svcCancel (c : Nat)
  /-- SVC_GRANT (R195): With the lock free and requests pending, the lock is granted in rotating order. -/
  | svcGrant
  /-- SVC_LOCK_TIMEOUT (R195): A core has held the service-engine lock for more than 50 ms and the trusted kernel forces release. -/
  | svcLockTimeout
  /-- MASK_RESEED (R178): After 2^32 TCLK a tile mask generator reseeds from the quarter DRBG. -/
  | maskReseed (t : Nat)
  /-- AES_ECB_ENC (R180): AES ECB encryption. -/
  | aesEcbEnc (qp : Nat) (asn : Nat)
  /-- AES_ECB_DEC (R180): AES ECB decryption. -/
  | aesEcbDec (qp : Nat) (asn : Nat)
  /-- AES_CBC_ENC (R180): AES CBC encryption. -/
  | aesCbcEnc (qp : Nat) (asn : Nat)
  /-- AES_CBC_DEC (R180): AES CBC decryption. -/
  | aesCbcDec (qp : Nat) (asn : Nat)
  /-- AES_CTR (R180): AES CTR with a host-supplied counter block. -/
  | aesCtr (qp : Nat) (asn : Nat)
  /-- AES_CTR_HW (R182): AES CTR under a hardware nonce, journalled. -/
  | aesCtrHw (qp : Nat) (asn : Nat)
  /-- AES_GCM_ENC (R182): AES-GCM encryption under a hardware nonce, journalled. -/
  | aesGcmEnc (qp : Nat) (asn : Nat)
  /-- AES_GCM_DEC (R187): AES-GCM decryption with zero-fill of the output on tag failure. -/
  | aesGcmDec (qp : Nat) (asn : Nat)
  /-- TDES_ECB_ENC (R180): TDES ECB encryption. -/
  | tdesEcbEnc (qp : Nat) (asn : Nat)
  /-- TDES_ECB_DEC (R180): TDES ECB decryption. -/
  | tdesEcbDec (qp : Nat) (asn : Nat)
  /-- TDES_CBC_ENC (R180): TDES CBC encryption. -/
  | tdesCbcEnc (qp : Nat) (asn : Nat)
  /-- TDES_CBC_DEC (R180): TDES CBC decryption. -/
  | tdesCbcDec (qp : Nat) (asn : Nat)
  /-- PIN_TRANSLATE (R147): Translate a PIN block between formats and keys, with keys by handle, key block or reference. -/
  | pinTranslate (qp : Nat) (asn : Nat)
  /-- PIN_VERIFY_OFFSET (R149): Verify a PIN by the decimalisation-table offset method, with an optional try counter. -/
  | pinVerifyOffset (qp : Nat) (asn : Nat)
  /-- PIN_VERIFY_PVV (R151): Verify a PIN by the PVV method, with an optional try counter. -/
  | pinVerifyPvv (qp : Nat) (asn : Nat)
  /-- PIN_OFFSET_GENERATE (R149): Generate a PIN offset. -/
  | pinOffsetGenerate (qp : Nat) (asn : Nat)
  /-- PVV_GENERATE (R151): Generate a PVV. -/
  | pvvGenerate (qp : Nat) (asn : Nat)
  /-- DUKPT_PIN_TRANSLATE (R157): Translate a PIN block enciphered under a DUKPT-derived key. -/
  | dukptPinTranslate (qp : Nat) (asn : Nat)
  /-- DUKPT_MAC_GENERATE (R158): Generate a MAC under a DUKPT-derived key. -/
  | dukptMacGenerate (qp : Nat) (asn : Nat)
  /-- DUKPT_MAC_VERIFY (R158): Verify a MAC under a DUKPT-derived key. -/
  | dukptMacVerify (qp : Nat) (asn : Nat)
  /-- DUKPT_ENCRYPT (R158): CBC encryption under a DUKPT-derived data key. -/
  | dukptEncrypt (qp : Nat) (asn : Nat)
  /-- DUKPT_DECRYPT (R158): CBC decryption under a DUKPT-derived data key. -/
  | dukptDecrypt (qp : Nat) (asn : Nat)
  /-- DUKPT_IK_EXPORT (R158): Export a DUKPT initial key in a key block. -/
  | dukptIkExport (qp : Nat) (asn : Nat)
  /-- MAC_ALG1_GEN (R159): Generate an ISO 9797-1 algorithm 1 MAC. -/
  | macAlg1Gen (qp : Nat) (asn : Nat)
  /-- MAC_ALG1_VER (R159): Verify an ISO 9797-1 algorithm 1 MAC. -/
  | macAlg1Ver (qp : Nat) (asn : Nat)
  /-- MAC_ALG3_GEN (R159): Generate an ISO 9797-1 algorithm 3 MAC. -/
  | macAlg3Gen (qp : Nat) (asn : Nat)
  /-- MAC_ALG3_VER (R159): Verify an ISO 9797-1 algorithm 3 MAC. -/
  | macAlg3Ver (qp : Nat) (asn : Nat)
  /-- CMAC_GEN (R159): Generate a CMAC. -/
  | cmacGen (qp : Nat) (asn : Nat)
  /-- CMAC_VER (R159): Verify a CMAC. -/
  | cmacVer (qp : Nat) (asn : Nat)
  /-- HMAC_GEN (R159): Generate an HMAC. -/
  | hmacGen (qp : Nat) (asn : Nat)
  /-- HMAC_VER (R159): Verify an HMAC. -/
  | hmacVer (qp : Nat) (asn : Nat)
  /-- ARQC_VERIFY (R163): Verify an EMV ARQC and optionally return an ARPC. -/
  | arqcVerify (qp : Nat) (asn : Nat)
  /-- SM_MAC_GENERATE (R164): Generate an EMV secure-messaging MAC. -/
  | smMacGenerate (qp : Nat) (asn : Nat)
  /-- SM_PIN_CHANGE (R164): Build an enciphered EMV PIN change block. -/
  | smPinChange (qp : Nat) (asn : Nat)
  /-- SM_DATA_ENCIPHER (R164): Encipher data under the EMV confidentiality session key. -/
  | smDataEncipher (qp : Nat) (asn : Nat)
  /-- CVC_GENERATE (R154): Generate a card verification code. -/
  | cvcGenerate (qp : Nat) (asn : Nat)
  /-- CVC_VERIFY (R154): Verify a card verification code. -/
  | cvcVerify (qp : Nat) (asn : Nat)
  /-- KB_IMPORT (R167): Import a key block into a new key record. -/
  | kbImport (qp : Nat) (asn : Nat)
  /-- KB_EXPORT (R169): Export a key as a key block with random padding. -/
  | kbExport (qp : Nat) (asn : Nat)
  /-- KB_GENERATE (R169): Generate a key from the DRBG, commit it and optionally export it. -/
  | kbGenerate (qp : Nat) (asn : Nat)
  /-- RKL_BUILD (R170): Build a signed remote key loading message for a terminal. -/
  | rklBuild (qp : Nat) (asn : Nat)
  /-- RKL_ACCEPT (R172): Accept an ML-KEM remote key loading message and import its key. -/
  | rklAccept (qp : Nat) (asn : Nat)
  /-- HOTP_GENERATE (R174): Generate a HOTP code and advance the counter. -/
  | hotpGenerate (qp : Nat) (asn : Nat)
  /-- HOTP_VERIFY (R174): Verify a HOTP code over a window and advance the counter on a match. -/
  | hotpVerify (qp : Nat) (asn : Nat)
  /-- TOTP_GENERATE (R174): Generate a TOTP code for the given time. -/
  | totpGenerate (qp : Nat) (asn : Nat)
  /-- TOTP_VERIFY (R174): Verify a TOTP code and record the accepted step. -/
  | totpVerify (qp : Nat) (asn : Nat)
  /-- LOCKER_TOKEN_ISSUE (R176): Issue and sign a locker open-token with a new serial. -/
  | lockerTokenIssue (qp : Nat) (asn : Nat)
  /-- LOCKER_TOKEN_VERIFY (R176): Verify a locker open-token. -/
  | lockerTokenVerify (qp : Nat) (asn : Nat)
  /-- RSA_SIGN (R201): RSA signature. -/
  | rsaSign (qp : Nat) (asn : Nat)
  /-- RSA_VERIFY (R201): RSA signature verification. -/
  | rsaVerify (qp : Nat) (asn : Nat)
  /-- RSA_OAEP_ENCRYPT (R201): RSA-OAEP encryption. -/
  | rsaOaepEncrypt (qp : Nat) (asn : Nat)
  /-- RSA_OAEP_DECRYPT (R201): RSA-OAEP decryption. -/
  | rsaOaepDecrypt (qp : Nat) (asn : Nat)
  /-- ECDSA_SIGN (R201): ECDSA signature, deterministic or hedged. -/
  | ecdsaSign (qp : Nat) (asn : Nat)
  /-- ECDSA_VERIFY (R201): ECDSA signature verification. -/
  | ecdsaVerify (qp : Nat) (asn : Nat)
  /-- ECDH_DERIVE (R203): ECDH key agreement creating a derived key record. -/
  | ecdhDerive (qp : Nat) (asn : Nat)
  /-- ED25519_SIGN (R201): Ed25519 signature. -/
  | ed25519Sign (qp : Nat) (asn : Nat)
  /-- ED25519_VERIFY (R201): Ed25519 signature verification. -/
  | ed25519Verify (qp : Nat) (asn : Nat)
  /-- PK_GENERATE (R203): Generate a classical key pair. -/
  | pkGenerate (qp : Nat) (asn : Nat)
  /-- PK_PUBLIC_EXPORT (R203): Export a classical public key. -/
  | pkPublicExport (qp : Nat) (asn : Nat)
  /-- PK_PUBLIC_IMPORT (R203): Import a classical public key. -/
  | pkPublicImport (qp : Nat) (asn : Nat)
  /-- MLKEM_ENCAPS (R203): ML-KEM encapsulation creating a derived key record. -/
  | mlkemEncaps (qp : Nat) (asn : Nat)
  /-- MLKEM_DECAPS (R203): ML-KEM decapsulation creating a derived key record. -/
  | mlkemDecaps (qp : Nat) (asn : Nat)
  /-- MLDSA_SIGN (R201): ML-DSA signature, deterministic or hedged. -/
  | mldsaSign (qp : Nat) (asn : Nat)
  /-- MLDSA_VERIFY (R201): ML-DSA signature verification. -/
  | mldsaVerify (qp : Nat) (asn : Nat)
  /-- SLHDSA_VERIFY (R201): SLH-DSA signature verification. -/
  | slhdsaVerify (qp : Nat) (asn : Nat)
  /-- PQ_GENERATE (R201): Generate a post-quantum key pair. -/
  | pqGenerate (qp : Nat) (asn : Nat)
  /-- PQ_PUBLIC_EXPORT (R201): Export a post-quantum public key. -/
  | pqPublicExport (qp : Nat) (asn : Nat)
  /-- PQ_PUBLIC_IMPORT (R201): Import a post-quantum public key. -/
  | pqPublicImport (qp : Nat) (asn : Nat)
  /-- SHA_256 (R192): SHA-256 hash command. -/
  | sha256 (qp : Nat) (asn : Nat)
  /-- SHA_384 (R192): SHA-384 hash command. -/
  | sha384 (qp : Nat) (asn : Nat)
  /-- SHA_512 (R192): SHA-512 hash command. -/
  | sha512 (qp : Nat) (asn : Nat)
  /-- SHA3_256 (R192): SHA3-256 hash command. -/
  | sha3_256 (qp : Nat) (asn : Nat)
  /-- SHA3_384 (R192): SHA3-384 hash command. -/
  | sha3_384 (qp : Nat) (asn : Nat)
  /-- SHA3_512 (R192): SHA3-512 hash command. -/
  | sha3_512 (qp : Nat) (asn : Nat)
  /-- SHAKE128 (R192): SHAKE128 command. -/
  | shake128 (qp : Nat) (asn : Nat)
  /-- SHAKE256 (R192): SHAKE256 command. -/
  | shake256 (qp : Nat) (asn : Nat)
  /-- RANDOM (R406): Return COUNT random bytes from the quarter DRBG, journalled. -/
  | random (qp : Nat) (asn : Nat)
  /-- TENANT_SCRIPT_INVOKE (R265): Invoke the tenant script in a slot of the partition on S3. -/
  | tenantScriptInvoke (qp : Nat) (asn : Nat)
  /-- ATTEST_MODULE (R375): Return a signed module attestation statement. -/
  | attestModule (qp : Nat) (asn : Nat)
  /-- ATTEST_PARTITION (R375): Return a signed partition attestation statement. -/
  | attestPartition (qp : Nat) (asn : Nat)
  /-- PART_INFO (R274): Return the partition's quota figures. -/
  | partInfo (qp : Nat) (asn : Nat)
  /-- KEY_INFO (R275): Return the attributes of a key record. -/
  | keyInfo (qp : Nat) (asn : Nat)
  /-- TRY_COUNTER_CREATE (R276): Create a PIN try counter record. -/
  | tryCounterCreate (qp : Nat) (asn : Nat)
  /-- TRY_COUNTER_RESET (R276): Reset a PIN try counter to its limit. -/
  | tryCounterReset (qp : Nat) (asn : Nat)
  /-- TRY_COUNTER_READ (R276): Read a PIN try counter. -/
  | tryCounterRead (qp : Nat) (asn : Nat)
  /-- NOP (R291): No operation, long or short form. -/
  | nop (c : Nat) (f : NopForm)
  /-- ADD (R291): Add, long or short form. -/
  | add (c : Nat) (f : RForm)
  /-- ADC (R291): Add with carry. -/
  | adc (c : Nat) (rd : Reg) (ra : Reg) (rb : Reg)
  /-- SUB (R291): Subtract, long or short form. -/
  | sub (c : Nat) (f : RForm)
  /-- SBC (R291): Subtract with carry. -/
  | sbc (c : Nat) (rd : Reg) (ra : Reg) (rb : Reg)
  /-- AND (R291): Bitwise AND, long or short form. -/
  | and (c : Nat) (f : RForm)
  /-- OR (R291): Bitwise OR, long or short form. -/
  | or (c : Nat) (f : RForm)
  /-- XOR (R291): Bitwise XOR, long or short form. -/
  | xor (c : Nat) (f : RForm)
  /-- ANDN (R291): AND with complement. -/
  | andn (c : Nat) (rd : Reg) (ra : Reg) (rb : Reg)
  /-- SHL (R291): Shift left by register. -/
  | shl (c : Nat) (rd : Reg) (ra : Reg) (rb : Reg)
  /-- SHR (R291): Logical shift right by register. -/
  | shr (c : Nat) (rd : Reg) (ra : Reg) (rb : Reg)
  /-- SAR (R291): Arithmetic shift right by register. -/
  | sar (c : Nat) (rd : Reg) (ra : Reg) (rb : Reg)
  /-- ROR (R291): Rotate right by register. -/
  | ror (c : Nat) (rd : Reg) (ra : Reg) (rb : Reg)
  /-- ROL (R291): Rotate left by register. -/
  | rol (c : Nat) (rd : Reg) (ra : Reg) (rb : Reg)
  /-- MUL (R291): Multiply, low 32 bits. -/
  | mul (c : Nat) (rd : Reg) (ra : Reg) (rb : Reg)
  /-- MULHU (R291): Multiply high unsigned. -/
  | mulhu (c : Nat) (rd : Reg) (ra : Reg) (rb : Reg)
  /-- MULHS (R291): Multiply high signed. -/
  | mulhs (c : Nat) (rd : Reg) (ra : Reg) (rb : Reg)
  /-- DIVU (R291): Unsigned divide. -/
  | divu (c : Nat) (rd : Reg) (ra : Reg) (rb : Reg)
  /-- DIVS (R291): Signed divide. -/
  | divs (c : Nat) (rd : Reg) (ra : Reg) (rb : Reg)
  /-- REMU (R291): Unsigned remainder. -/
  | remu (c : Nat) (rd : Reg) (ra : Reg) (rb : Reg)
  /-- REMS (R291): Signed remainder. -/
  | rems (c : Nat) (rd : Reg) (ra : Reg) (rb : Reg)
  /-- CMP (R291): Compare, long or short form. -/
  | cmp (c : Nat) (f : CForm)
  /-- TST (R291): Test bits, long or short form. -/
  | tst (c : Nat) (f : CForm)
  /-- SEL (R291): Select on Z. -/
  | sel (c : Nat) (rd : Reg) (ra : Reg) (rb : Reg)
  /-- CRCW (R296): Four CRC steps over a word. -/
  | crcw (c : Nat) (rd : Reg) (ra : Reg)
  /-- ADDI (R291): Add immediate, long or short form. -/
  | addi (c : Nat) (f : IForm)
  /-- ANDI (R291): AND immediate. -/
  | andi (c : Nat) (rd : Reg) (ra : Reg) (imm : BitVec 14)
  /-- ORI (R291): OR immediate. -/
  | ori (c : Nat) (rd : Reg) (ra : Reg) (imm : BitVec 14)
  /-- XORI (R291): XOR immediate. -/
  | xori (c : Nat) (rd : Reg) (ra : Reg) (imm : BitVec 14)
  /-- SHLI (R291): Shift left by immediate, long or short form. -/
  | shli (c : Nat) (f : IForm)
  /-- SHRI (R291): Logical shift right by immediate, long or short form. -/
  | shri (c : Nat) (f : IForm)
  /-- SARI (R291): Arithmetic shift right by immediate, long or short form. -/
  | sari (c : Nat) (f : IForm)
  /-- RORI (R291): Rotate right by immediate, long or short form. -/
  | rori (c : Nat) (f : IForm)
  /-- CMPI (R291): Compare with immediate. -/
  | cmpi (c : Nat) (ra : Reg) (imm : BitVec 14)
  /-- MOVI (R291): Move immediate, long or short form. -/
  | movi (c : Nat) (f : UForm)
  /-- MOVHI (R291): Move immediate to the high half. -/
  | movhi (c : Nat) (rd : Reg) (imm : BitVec 16)
  /-- LDW (R291): Load word, long or short form. -/
  | ldw (c : Nat) (f : IForm)
  /-- LDH (R291): Load halfword zero-extended. -/
  | ldh (c : Nat) (rd : Reg) (ra : Reg) (imm : BitVec 14)
  /-- LDHS (R291): Load halfword sign-extended. -/
  | ldhs (c : Nat) (rd : Reg) (ra : Reg) (imm : BitVec 14)
  /-- LDB (R291): Load byte zero-extended, long or short form. -/
  | ldb (c : Nat) (f : IForm)
  /-- LDBS (R291): Load byte sign-extended. -/
  | ldbs (c : Nat) (rd : Reg) (ra : Reg) (imm : BitVec 14)
  /-- STW (R291): Store word, long or short form. -/
  | stw (c : Nat) (f : IForm)
  /-- STH (R291): Store halfword. -/
  | sth (c : Nat) (rd : Reg) (ra : Reg) (imm : BitVec 14)
  /-- STB (R291): Store byte, long or short form. -/
  | stb (c : Nat) (f : IForm)
  /-- B (R293): Conditional branch. -/
  | b (c : Nat) (cond : BitVec 4) (disp : BitVec 20)
  /-- CALL (R283): Call with window slide and return push. -/
  | call (c : Nat) (disp : BitVec 20)
  /-- CALLR (R283): Call to register address. -/
  | callr (c : Nat) (ra : Reg)
  /-- JMPR (R291): Jump to register address. -/
  | jmpr (c : Nat) (ra : Reg)
  /-- RET (R285): Return with window slide back. -/
  | ret (c : Nat)
  /-- IRET (R313): End an interrupt or fault handler and return or take a pending source. -/
  | iret (c : Nat)
  /-- WFI (R314): Wait for a deliverable interrupt. -/
  | wfi (c : Nat)
  /-- MFC (R280): Read a control register. -/
  | mfc (c : Nat) (rd : Reg) (cr : Reg)
  /-- MTC (R280): Write a control register. -/
  | mtc (c : Nat) (cr : Reg) (ra : Reg)
  /-- KOP (R299): Issue a key-use step and receive a ticket. -/
  | kop (c : Nat) (rd : Reg) (ra : Reg) (rb : Reg) (func : BitVec 9)
  /-- WAITT (R301): Wait for a ticket's token and read its header. -/
  | waitt (c : Nat) (rd : Reg) (ra : Reg)
  /-- RDT (R301): Copy a ticket's token value to data memory. -/
  | rdt (c : Nat) (rd : Reg) (ra : Reg) (rb : Reg)
  /-- RND (R302): Read 32 random bits from the DRBG. -/
  | rnd (c : Nat) (rd : Reg)
  /-- END (R303): End the descriptor with a result block once all steps delivered. -/
  | endOp (c : Nat) (ra : Reg)
  /-- ABORT (R291): End the descriptor with SCRIPT_ABORTED. -/
  | abort (c : Nat) (imm : BitVec 16)
  /-- MOV (R292): Short register move. -/
  | mov (c : Nat) (f : ShortForm)
  /-- NOT (R292): Short bitwise complement. -/
  | not (c : Nat) (f : ShortForm)
  /-- NEG (R292): Short negate. -/
  | neg (c : Nat) (f : ShortForm)
  /-- PUSH (R286): Push a word onto the data stack. -/
  | push (c : Nat) (f : ShortForm)
  /-- POP (R286): Pop a word from the data stack. -/
  | pop (c : Nat) (f : ShortForm)
  /-- PAR (R292): Word parity. -/
  | par (c : Nat) (f : ShortForm)
  /-- PARB (R292): Byte parities. -/
  | parb (c : Nat) (f : ShortForm)
  /-- BREV (R292): Reverse bit order. -/
  | brev (c : Nat) (f : ShortForm)
  /-- BREVB (R292): Reverse bit order within bytes. -/
  | brevb (c : Nat) (f : ShortForm)
  /-- BSWAP (R292): Reverse byte order. -/
  | bswap (c : Nat) (f : ShortForm)
  /-- LUHN (R297): One Luhn step. -/
  | luhn (c : Nat) (f : ShortForm)
  /-- DECT (R298): Decimalise a nibble through the table. -/
  | dect (c : Nat) (f : ShortForm)
  /-- CRCB (R296): One CRC step over a byte. -/
  | crcb (c : Nat) (f : ShortForm)
  /-- KOP_ENC_BLOCK (R300): KOP function encrypting one block. -/
  | kopEncBlock (c : Nat) (ticket : Nat)
  /-- KOP_DEC_BLOCK (R300): KOP function decrypting one block. -/
  | kopDecBlock (c : Nat) (ticket : Nat)
  /-- KOP_CMAC_GEN (R300): KOP function generating a CMAC. -/
  | kopCmacGen (c : Nat) (ticket : Nat)
  /-- KOP_CMAC_VER (R300): KOP function verifying a CMAC. -/
  | kopCmacVer (c : Nat) (ticket : Nat)
  /-- KOP_HMAC_GEN (R300): KOP function generating an HMAC. -/
  | kopHmacGen (c : Nat) (ticket : Nat)
  /-- KOP_HMAC_VER (R300): KOP function verifying an HMAC. -/
  | kopHmacVer (c : Nat) (ticket : Nat)
  /-- PIN_OPEN (R300): KOP function deciphering and checking a PIN block into the sensitive store. -/
  | pinOpen (c : Nat) (ticket : Nat)
  /-- PIN_SEAL (R300): KOP function enciphering a clear PIN field into a PIN block. -/
  | pinSeal (c : Nat) (ticket : Nat)
  /-- KDF_CMAC (R300): KOP function deriving a transient key. -/
  | kdfCmac (c : Nat) (ticket : Nat)
  /-- KB_OPEN (R300): KOP function opening a key block from the input list. -/
  | kbOpen (c : Nat) (ticket : Nat)
  /-- KOP_HASH (R300): KOP function hashing data. -/
  | kopHash (c : Nat) (ticket : Nat)
  /-- PKE_RUN (R300): KOP function running a PKE op-list. -/
  | pkeRun (c : Nat) (ticket : Nat)
  /-- IN_READ (R300): KOP function reading bytes from the input list. -/
  | inRead (c : Nat) (ticket : Nat)
  /-- EVU_EVENT (R312): A source event is sampled and delivered to its target core when selected. -/
  | evuEvent (u : Nat) (src : Nat) (level : Bool)
  /-- EVU_PEND_SET (R309): Software write making sources pending. -/
  | evuPendSet (c : Nat) (k : Nat) (v : Word)
  /-- FMP_HELLO (R324): A console HELLO starts a session handshake and is answered with REPLY. -/
  | fmpHello (node : Nat) (role : Nat) (scope : Nat) (index : Nat) (body : List Byte)
  /-- FMP_FINISH (R324): A console FINISH completes session set-up and keys are derived. -/
  | fmpFinish (node : Nat) (sigEc : List Byte) (sigPq : List Byte)
  /-- FMP_ACK (R322): A transfer flow-control ACK is received. -/
  | fmpAck (node : Nat) (xfer : Nat) (next : Nat) (status : Nat)
  /-- FMP_ACK_TIMEOUT (R322): No ACK within 50 ms and the sender resends or abandons. -/
  | fmpAckTimeout (node : Nat)
  /-- FMP_PARTIAL_TIMEOUT (R322): A partial message is discarded after 1 s without a segment. -/
  | fmpPartialTimeout (node : Nat) (segs : Nat)
  /-- FMP_HEARTBEAT (R320): The 1 s heartbeat frame is sent. -/
  | fmpHeartbeat
  /-- FMP_BUS_OFF (R319): The port goes bus-off and recovers automatically. -/
  | fmpBusOff (tec : Nat) (rec : Nat)
  /-- FMP_DUP_NODE (R319): A frame carrying the Q4's node ID not sent by the Q4 is received. -/
  | fmpDupNode
  /-- FMP_HANDSHAKE_TIMEOUT (R324): A session attempt not finished within 10 s is dropped. -/
  | fmpHandshakeTimeout (node : Nat)
  /-- FMP_LOCKOUT_END (R324): The 60 s ignore period of a node after failed attempts ends. -/
  | fmpLockoutEnd (node : Nat)
  /-- FMP_IDLE_EXPIRY (R326): A session receives nothing for FMP_IDLE_S and ends. -/
  | fmpIdleExpiry (sid : Nat)
  /-- FMP_PORT_RESTART (R348): Restart of the management port ending every session. -/
  | fmpPortRestart (path : Path) (v : Nat)
  /-- READ (R331): Dictionary READ request. -/
  | read (path : Path) (index : Nat) (sub : Nat) (first : Bool) (offset : Nat)
  /-- WRITE (R334): Dictionary WRITE request of an object with no row of its own, including RWQ proposals. -/
  | write (path : Path) (index : Nat) (sub : Nat) (pc : Piece)
  /-- INFO (R331): Dictionary INFO request. -/
  | info (path : Path) (index : Nat) (sub : Nat)
  /-- CANCEL (R332): Dictionary CANCEL request ending a transfer or waiting write. -/
  | cancel (path : Path)
  /-- CLOSE (R326): Session close request. -/
  | close (path : Path)
  /-- SEGMENT_TIMEOUT (R332): A segmented read or write left 5 s without a piece is discarded. -/
  | segmentTimeout (path : Path)
  /-- QRM_APPROVE (R340): A custodian approval of a pending quorum request, applying it when M is reached. -/
  | qrmApprove (path : Path) (reqNo : Nat) (index : Nat) (sigEc : List Byte) (sigPq : List Byte)
  /-- QRQ_WITHDRAW (R341): Withdrawal of a pending quorum request by its proposer. -/
  | qrqWithdraw (path : Path) (slot : Nat)
  /-- QUORUM_EXPIRY (R339): A pending quorum request reaches EXPIRES. -/
  | quorumExpiry (slot : Nat)
  /-- CER_OPEN (R342): Quorum-applied opening of a component key ceremony. -/
  | cerOpen (path : Path) (value : List Byte)
  /-- CER_COMPONENT (R343): A custodian writes a key component; the last one combines the key. -/
  | cerComponent (path : Path) (value : List Byte)
  /-- CER_CONFIRM (R342): A custodian confirms the combined KCV and the record commits. -/
  | cerConfirm (path : Path) (kcv : List Byte)
  /-- CER_ABORT (R345): Write aborting the ceremony and erasing components. -/
  | cerAbort (path : Path)
  /-- CER_TIMEOUT (R345): CER_TIMEOUT_S expires and the ceremony aborts. -/
  | cerTimeout
  /-- SCRIPT_IMAGE (R267): Write of a tenant script image into a slot, verified and loaded. -/
  | scriptImage (path : Path) (p : Nat) (slot : Nat) (image : List Byte)
  /-- SCRIPT_REMOVE (R272): Write emptying a script slot. -/
  | scriptRemove (path : Path) (p : Nat) (slot : Nat)
  /-- FW_UPD_START (R359): Start of a firmware update, erasing the inactive bank. -/
  | fwUpdStart (path : Path) (total : Nat)
  /-- FW_UPD_DATA (R359): A firmware update chunk; the last one triggers verification. -/
  | fwUpdData (path : Path) (data : List Byte)
  /-- FW_UPD_ACTIVATE (R360): Activation of a verified firmware bank. -/
  | fwUpdActivate (path : Path)
  /-- FW_READY_TIMEOUT (R360): New open firmware fails to report ready within 10 s and the previous bank is reloaded. -/
  | fwReadyTimeout
  /-- FW_SECVER_RAISE (R360): After 10 minutes on a new bank the anti-rollback floors are raised. -/
  | fwSecverRaise
  /-- LC_TARGET (R361): Quorum write requesting a life-cycle transition. -/
  | lcTarget (path : Path) (k : Nat)
  /-- LC_TRANSITION (R363): A life-cycle transition records, burns, erases and burns its state. -/
  | lcTransition
  /-- DBG_REQUEST (R370): Write building a debug challenge. -/
  | dbgRequest (path : Path) (scope : Nat)
  /-- DBG_RESPONSE (R371): Write of a signed debug response granting a scope or transition. -/
  | dbgResponse (path : Path) (value : List Byte)
  /-- DBG_CLOSE (R371): Write ending the debug scope. -/
  | dbgClose (path : Path)
  /-- DBG_CHALLENGE_EXPIRY (R370): An outstanding debug challenge expires after 10 minutes. -/
  | dbgChallengeExpiry
  /-- ATT_STATEMENT (R375): Read of ATT_STATEMENT, which M0 builds and signs. -/
  | attStatement (path : Path)
  /-- TAMPER_SAMPLE (R380): A tamper detector pair is sampled, events counted and a rank run on entering alarm. -/
  | tamperSample (src : Nat) (a : Reading) (b : Reading)
  /-- NIGHTSIDE_BURST (R390): On backup power the sequencer runs a 20 us sampling burst every 2 ms. -/
  | nightsideBurst (rs : List BurstReading)
  /-- BACKUP_UNDERVOLTAGE (R391): Backup input below 2.0 V without main power executes ZEROIZE. -/
  | backupUndervoltage (mv : Nat)
  /-- SHADOW_MISMATCH (R388): A register and its inverted shadow disagree, giving a LOGIC_INTEGRITY event. -/
  | shadowMismatch (g : ShadowGroup)
  /-- TMP_HALT_RELEASE (R386): Quorum write releasing HALT after restoring the vault if needed. -/
  | tmpHaltRelease (path : Path)
  /-- RNG_HEALTH_FAIL (R403): A sample fails a health test and DRBGs are uninstantiated and readers released. -/
  | rngHealthFail (sampler : Nat) (apt : Bool)
  /-- CONDITIONER_BLOCK (R397): The conditioner releases a full-entropy block to a waiting DRBG. -/
  | conditionerBlock
  /-- RNG_STARTUP_TEST_DONE (R402): A start-up test ends, passing into instantiation or counting toward STUCK. -/
  | rngStartupTestDone (r : StartupResult)
  /-- DRBG_RESEED (R405): A DRBG's reseed completes with two conditioner blocks. -/
  | drbgReseed (n : Nat)
  /-- RNG_RESEED_STALL (R405): A DRBG reaches 1 GiB unseeded and stops generating. -/
  | rngReseedStall (n : Nat)
  /-- RNG_RESTART (R404): Write restarting the source from STUCK. -/
  | rngRestart (path : Path)
  /-- RNG_RAW_MODE (R408): Write entering or leaving raw mode. -/
  | rngRawMode (path : Path) (on : Bool)
  /-- RNG_RAW_DATA (R408): Read capturing raw sampler bytes. -/
  | rngRawData (path : Path)
  /-- EVR_FLUSH (R415): The recorder buffer is written to MRAM in a flush. -/
  | evrFlush
  /-- EVR_CARRIER (R420): After 1 s without an event of a code with pending count, a carrier record is written. -/
  | evrCarrier (code : Nat)
  /-- EVR_ANCHOR (R422): A periodic 24-hour wall-clock anchor record is written. -/
  | evrAnchor
  /-- EVR_WALL_CLOCK (R422): Write setting the wall clock and recording an anchor. -/
  | evrWallClock (path : Path) (ms : Nat)
  /-- EVR_RECORDS (R421): Read of up to 64 records from the cursor, as a snapshot. -/
  | evrRecords (path : Path)
  /-- RECORDER_MEM_FAIL (R423): A recorder MRAM copy fails; both failing sets VOLATILE_ONLY. -/
  | recorderMemFail (dev : Nat)
  /-- OP_TIME_SAVE (R413): Every 1 s the operating time count is saved to persistent state. -/
  | opTimeSave
  /-- GATE_COMPUTE (R131): Every 100 us the usable energy is computed and the gate level changed. -/
  | gateCompute (mv : Nat)
  /-- CAPACITANCE_MEASURE (R430): A power-up capacitance measurement ends and the thresholds are re-planned. -/
  | capacitanceMeasure (charge : Nat) (rise : Nat) (clean : Bool)
  /-- ESR_PULSE (R430): The 24-hour ESR load pulse is applied and measured. -/
  | esrPulse (stepUv : Nat)
  /-- POWER_CAP_CHECK (R427): Every 1 ms the average power is compared with PWR_CAP_W and a throttle step taken. -/
  | powerCapCheck (dw : Nat)
  /-- THERMAL_PREDICT (R434): Every 10 ms the core temperature is predicted and the throttle stepped. -/
  | thermalPredict (diodes : List Int) (dw : Nat)
  /-- CLOCK_STEP (R21): A tile clock moves one 25 MHz step toward its target every 2 us. -/
  | clockStep (t : Nat) (pke : Bool)
  /-- WEAR_MEASURE (R439): Every 10 minutes each running tile's slack and oscillators are measured. -/
  | wearMeasure (t : Nat) (slack : List Int) (ro : List Nat)
  /-- WEAR_PLAN (R440): Every 24 hours the planner computes each tile's operating point. -/
  | wearPlan
  /-- WEAR_PLAN_NOW (R440): Write requesting an immediate wear plan. -/
  | wearPlanNow (path : Path)
  /-- BACKUP_LOAD_TEST (R443): The backup source is load-tested and the sag limit and remaining time planned. -/
  | backupLoadTest (rest : Nat) (load : Nat)
  /-- BAT_REPLACED (R444): Write starting a new external battery. -/
  | batReplaced (path : Path)
  /-- TILE_POWER (R436): Write of TILE_POWER requesting sleep or a manual wake. -/
  | tilePower (path : Path) (t : Nat) (v : Nat)
  /-- ECLIPSE_DECISION (R436): An ENTERING tile holds no descriptor and the power controller decides ECLIPSE. -/
  | eclipseDecision (t : Nat) (wake : BitVec 3)
  /-- TILE_WAKE (R437): An enabled wake source asserts and the tile wakes back into service. -/
  | tileWake (t : Nat) (src : BitVec 3)
  /-- TILE_ENABLE (R447): Write of a tile's administrative enable. -/
  | tileEnable (path : Path) (t : Nat) (v : Nat)
  /-- TILE_RESET (R447): Write clearing a tile's fence and quarantines. -/
  | tileReset (path : Path) (t : Nat)
  /-- ATB_RAW (R470): Read of the analogue reading selected by ATB_SEL, taken at the read. -/
  | atbRaw (path : Path) (reading : Nat)
  /-- MEASURE_DRIFT (R470): Bank cell readings and HUB_VOLT_MV differ by over 20 mV and an event is recorded. -/
  | measureDrift (top : Nat) (bot : Nat)
  /-- BYPASS (R468): TAP BYPASS instruction. -/
  | bypass
  /-- IDCODE (R468): TAP IDCODE instruction. -/
  | idcode
  /-- SAMPLE_PRELOAD (R468): TAP SAMPLE/PRELOAD instruction. -/
  | samplePreload (cells : BitVec 32)
  /-- EXTEST (R468): TAP EXTEST instruction. -/
  | extest (cells : BitVec 32)
  /-- AVB_DBG (R468): TAP access to core debug within the debug scope. -/
  | avbDbg (op : DbgOp)
  /-- AVB_ATB (R468): TAP selection and reading of analogue nodes under FULL. -/
  | avbAtb (sel : Nat) (reading : Nat)
  /-- PERST_DEASSERT (R459): PERST# is deasserted, the link trains and configuration space answers within 20 ms. -/
  | perstDeassert (speed : Nat) (width : Nat)
  /-- LINK_RETRAINING (R32): The PCIe link trains or retrains to a new rate and width, updating HIF_LINK_STS and DEGRADED and raising LINK_CHANGE. -/
  | linkRetraining (speed : Nat) (width : Nat)
  /-- ADMIN_FOLLOWS_OPER (R256): On the next management tick after the data plane changes OPER on its own, ADMIN takes the new value and a drain or squash reports DONE. -/
  | adminFollowsOper (p : Nat)
  /-- SVC_OPERATION_DONE (R193): A service cipher engine operation ends, repeating once on an umpire mismatch or ending with INTEGRITY and raising SVC_DONE. -/
  | svcOperationDone (agree : Bool) (slot : Nat)
  /-- RNG_ESTIMATE_PUBLISH (R400): At the end of each block of 2^16 samples, the sampler bias, correlation and run estimates are published. -/
  | rngEstimatePublish (sampler : Nat) (e : Estimates)
  /-- INPUT_READ_RETURN (R62): A host read of a segment list or input data returns, giving operands or failing with DMA_READ_ERROR, LENGTH_ERROR or FORMAT_ERROR at check 6. -/
  | inputReadReturn (qp : Nat) (asn : Nat) (r : ReadResult)
  deriving DecidableEq, Repr

end Sys2Proof
end

