-- ==== Sys2Proof/Decode.lean ====
section
/-!
DEFINITION. Reading a command from a word. spec/opcode_table.json gives no row any bits: the commands of the block are
register accesses, bus events and engine events and no words spell them, so every word is refused.
-/

namespace Sys2Proof

/-- The command that the word w of nbits bits spells by the table's bits: none, as the table gives no row bits. -/
def decodeTableWord (nbits w : Nat) : Option Instr :=
  match nbits, w with
  | _, _ => none

end Sys2Proof
end

