-- ==== Sys2Proof/Config.lean ====
section
/-!
DEFINITION. What an implementation fixes and what the spec leaves open. An opaque constant has no body: no proof can
see a value of it, and a claim holds whatever it is. The others are the spec's own module totals (00 R8, 08 R244).
-/

namespace Sys2Proof.Config

open Sys2Proof

/-- Avbor's PCI vendor ID, which the spec does not state (02 R33; log 79). -/
opaque vendorId : Nat

/-- Free values by number: State.free counts those taken (log 5). -/
opaque freeValue : Nat → Nat

/-- Byte n drawn from DRBG i (13 R398): 0 to 3 the quarters', 4 the management complex's. Instances that were
instantiated anew continue the count (log 13). -/
opaque randomByte : Nat → Nat → Byte

/-- Raw sampler byte n (13 R408; log 13). -/
opaque rawByte : Nat → Byte

/-- The bytes an Avbor algorithm outside this manual yields, by the operation and its inputs (log 12). -/
opaque pkBytes : String → List (List Byte) → List Byte

/-- Whether a check made by such an algorithm passes (log 12). -/
opaque pkCheck : String → List (List Byte) → Bool

/-- The body of the image of a kind that manufacture leaves in bank 0 (11 R358; log 9). -/
opaque factoryBody : Nat → List Byte

/-- The bytes of the trusted kernel's ROM of about 32 KiB, which the spec does not state (01 R26; log 82). -/
opaque kernelRom : List Byte

/-- M0's instruction memory: the ROM with the patch area, from the body of a patch image, whose layout the spec does not give (01 R26;
log 82). -/
opaque patchedRom : List Byte → List Byte

/-- The public keys held in the ROM, which the spec does not state: 0 and 1 the firmware keys, 2 and 3 the debug authority keys, ECDSA
P-384 and ML-DSA-87 (11 R358, R371; log 12). -/
opaque romKey : Nat → List Byte

/-- n bytes that a mask or blinding generator gives in a state (06 R178, R196; log 82). -/
opaque maskOut : List Byte → Nat → List Byte

/-- A generator's next state (06 R178; log 82). -/
opaque maskNext : List Byte → List Byte

/-- A generator's state from a seed of 32 bytes (06 R178; log 82). -/
opaque maskSeed : List Byte → List Byte

/-- The code that an image's body gives a core: kind, body, core. The spec does not lay out the bodies of kinds 2 and 4 (11 R358; log
82). -/
opaque imageCode : Nat → List Byte → Nat → List Byte

/-- The 512-byte table of the Nightside sequencer in the body of an image of kind 1, whose layout the spec does not give (01 R26; log
82). -/
opaque nightsideTable : List Byte → List Byte

/-- The analogue trim that manufacture leaves in OTP (01 R29; log 9). -/
opaque analogueTrim : List Byte

/-- The declared matching-store count of a template or standard script by command code (03 R87; log 14). -/
opaque declaredCount : Nat → Nat

/-- The blocks that an op-list of a library has the tile's hash unit run for it (06 R189; log 82): library, op-list. -/
opaque oplistBlocks : List Byte → Nat → Nat

/-- The CMS encoding of a TR-34 key token, which the spec names and does not lay out (05 R170, R172; log 12): the content that is signed,
from the nonce, the content key under RSA-OAEP and the key block; what it carries again; the token of a content and its signature; and the
two again. -/
opaque tr34Content : List (List Byte) → List Byte
opaque tr34Inner : List Byte → Option (List Byte × List Byte × List Byte)
opaque tr34Token : List Byte → List Byte → List Byte
opaque tr34Split : List Byte → Option (List Byte × List Byte)

/-- The length of a TR-34 key token: the length of the signer's key, the terminal's certificate, the length of the key block (log 12). -/
opaque tr34Length : Nat → List Byte → Nat → Nat

/-- How many prime candidates a search from random bytes tests for an RSA modulus of a number of bits, and the mean of that number, neither
of which the spec states (06 R198; log 12). -/
opaque primeTries : Nat → List Byte → Nat
opaque primeMean : Nat → Nat

/-- The key usages, a bit each, one of which an op-list that a tenant script runs requires, any key with none (09 R300; log 14). -/
opaque oplistUsages : Nat → BitVec 12

/-- Whether the op-list of a tenant script's PKE_RUN leaves a secret result (06 R206; log 14). -/
opaque oplistOut : Nat → Bool

/-- Which of the rows of 05 R166 that express a usage set an exported block's header takes, by the set (log 19). -/
opaque usageRow : Nat → Nat

/-- The size that KB_GENERATE gives a key of an algorithm letter, which the spec does not state (log 20). -/
opaque generatedSize : Nat → Nat

/-- The bytes of a CONST object whose value manufacture fixes and the spec does not state, by index × 256 + sub (10 R329;
log 42). -/
opaque constByte : Nat → Nat → Byte

/-- The worst replica slack in ps of a tile at a rail voltage in mV and a TCLK in MHz, from the slack measured at another
point, by the sensitivity that OTP holds (15 R440; log 48): tile, measured slack, its voltage, its TCLK, voltage, TCLK. -/
opaque slackAt : Nat → Int → Nat → Nat → Nat → Nat → Int

/-- V_plan of a tile at manufacture, in mV (15 R440; log 48). -/
opaque planVoltMade : Nat → Nat

/-- Where the straight line through 30 plans reaches 0.850 V, as operating time; none while it does not rise (15 R440; log
48). -/
opaque wearLine : List (Nat × Nat) → Option Nat

/-- Queue pairs of the module (08 R244). -/
def numQps : Nat := 16384

/-- Partitions of the module (00 R8). -/
def numParts : Nat := 4096

/-- Tiles of the module (00 R8). -/
def numTiles : Nat := 16

/-- Quarters of the module (00 R8). -/
def numQuarters : Nat := 4

/-- In-flight entries of a quarter (03 R74). -/
def inflight : Nat := 16384

/-- Vault lines (07 R225). -/
def numLines : Nat := 11776

/-- Lines that may be granted as quota (07 R229). -/
def grantLines : Nat := 3520

/-- Journal extents (04 R115). -/
def journalExtents : Nat := 14208

end Sys2Proof.Config
end

