-- ==== Sys2Proof/Machine/State.lean ====
section
/-!
DEFINITION. The state of the block as plain data: every register, table, buffer, mode and pin the spec gives it,
and the queue of waiting commands. State.reset is the machine after power good, before start-up step 1 (11 R355).
A sparse table (Tbl) lists what differs from the default its reader names.
-/

namespace Sys2Proof.Machine

open Sys2Proof

/-- Why the block stops. -/
inductive Fault where
  /-- The command names a unit, page, queue pair, partition or core number the module does not have (01 R14, 02 R39,
  R50, 08 R244). Raised by every meaning that takes such a number. Safe: nothing the spec describes is cut off. -/
  | noSuchUnit (n : Nat)
  deriving DecidableEq, Repr

/-- Why a command has no meaning. -/
inductive Refusal where
  /-- The command has no meaning yet. Raised by exec's refused arms only. Safe. -/
  | notModelled (mnemonic : String)
  deriving DecidableEq, Repr

/-- The mailbox of PF0 (02 R56). reqBuf and rspBuf are its two buffers; applied marks a write that took effect. -/
structure Mailbox where
  reqLen  : Nat
  busy    : Bool
  done    : Bool
  seqErr  : Bool
  result  : Nat
  rspLen  : Nat
  reqBuf  : List Host.Cell
  rspBuf  : List Byte
  applied : Bool
  deriving DecidableEq, Repr

/-- One translation in the address translation cache (02 R37): of a page of a function's address space, or of one of its
PASIDs' (R36). -/
structure AtcEntry where
  func  : Nat
  pasid : Option Nat
  page  : Nat
  deriving DecidableEq, Repr

/-- The header of a memory request (02 R33, R35 to R37): the function under whose requester ID it goes, its PASID, the address,
the relaxed-ordering and no-snoop attributes, whether the address is translated, and a read's tag. -/
structure DmaHdr where
  func       : Nat
  pasid      : Option Nat
  addr       : Nat
  relaxed    : Bool
  noSnoop    : Bool
  translated : Bool
  tag        : Nat
  deriving DecidableEq, Repr

/-- A read request (02 R33): the queue pair it serves and the ASN, if it reads for an accepted descriptor. -/
structure HostRead where
  qp   : Nat
  asn  : Option Nat
  hdr  : DmaHdr
  len  : Nat
  deriving DecidableEq, Repr

/-- One MSI-X table entry with its pending bit (02 R39, R70). -/
structure MsixEntry where
  addr    : BitVec 64
  data    : Word
  masked  : Bool
  pending : Bool
  deriving DecidableEq, Repr

/-- The host interface: link, global registers, partition command, mailbox (02 R53 to R56), what the host has programmed in
configuration space: Bus Master Enable of each VF, ATS enables by function, Max_Payload_Size and Max_Read_Request_Size in
bytes (R33, R37, R38) and NumVFs (10 R351); the reads sent and not returned, and those that wait for one of the 512 places (R33); the
invalidations (function, page) not yet completed (R37). failed marks a
module failure that has stopped acceptance (01 R18). -/
structure Hif where
  failed      : Bool
  speed       : Nat
  width       : Nat
  degraded    : Bool
  retrains    : Nat
  linkUp      : Bool
  perst       : Bool
  fetchEn     : Bool
  atsUse      : Bool
  dpOpen      : Bool
  replayActive : Bool
  isr         : BitVec 8
  ier         : BitVec 8
  strayDb     : Nat
  strayTotal  : Nat
  fetchErrors : Nat
  aerCorr     : Nat
  aerUncorr   : Nat
  pcmdWord    : Word
  pcmdBusy    : Bool
  pcmdDone    : Bool
  pcmdRefused : Bool
  pcmdOverrun : Bool
  pcmdReason  : Nat
  pcmdPart    : Nat
  mbx         : Mailbox
  bme         : Tbl Bool
  ats         : Tbl Bool
  maxPayload  : Nat
  maxRead     : Nat
  numVfs      : Nat
  reads       : List HostRead
  readWait    : List HostRead
  invals      : List (Nat × Nat)
  atc         : List AtcEntry
  msix        : Tbl MsixEntry
  deriving DecidableEq, Repr

/-- A queue pair: its context (02 R50), its doorbell page (02 R46) and its counters (02 R44, R48; 04 R112). slotsA and
slotsB are its watermark slots A and B on each MRAM device: a watermark and the number of its batch (04 R115). replayTop is one more than
the highest journalled ASN noted for its replay (04 R121, R123). -/
structure Qp where
  sqBase     : Nat
  cqBase     : Nat
  depthLog2  : Nat
  func       : Nat
  vfPage     : Nat
  pasidEn    : Bool
  pasid      : Nat
  vector     : Nat
  coalCount  : Nat
  coalTime   : Nat
  en         : Bool
  fetchErr   : Bool
  dbErr      : Bool
  cfgErr     : Bool
  cplErr     : Bool
  partition  : Nat
  assigned   : Bool
  home       : Nat
  tail       : Nat
  cqHead     : Nat
  wm         : Nat
  next       : Nat
  w          : Nat
  flushed    : Nat
  slotsA     : List (Nat × Nat)
  slotsB     : List (Nat × Nat)
  irqMask    : Bool
  badDb      : Nat
  badFetch   : Nat
  replaying  : Bool
  replayTop  : Nat
  tailWritten : Bool
  headWritten : Bool
  headWait   : Bool
  fetching   : Nat
  fetchAsn   : Nat
  paused     : Bool
  allowance  : Nat
  pendCount  : Nat
  pendSince  : Nat
  deriving DecidableEq, Repr

/-- A completion as its in-flight entry holds it (03 R74): what R64 writes but for the ASN, the head and the phase.
out is the output that goes to the output list. -/
structure Cpl where
  status : Nat
  detail : Nat
  result : List Byte
  out    : List Byte
  outLen : Nat
  cflags : Nat
  deriving DecidableEq, Repr

/-- The delay list on which an entry is parked, with its tick of expiry and its place in the order of insertion (03 R91, R92). -/
inductive Park where
  | none
  | l4 (tick seq : Nat)
  | l6 (tick seq : Nat)
  | l7 (tick seq : Nat)
  deriving DecidableEq, Repr

/-- The kinds of step of a step graph (03 R83). -/
inductive StepKind where
  | lane
  | pke
  | hash
  | lookup
  | check
  | build
  deriving DecidableEq, Repr

/-- A step that an engine runs or that waits for one: its descriptor and its number, in the graph, or the ticket of one that a script has
issued where kop is true (09 R299). core is the public-key core whose hash stream it is, if it is one (06 R189); left counts the blocks it
has still to run (06 R190) and ops its matched operands (03 R96); on a lane pair shares are its keys as the two shares that the odd
lane has (06 R178). -/
structure StepRun where
  qp      : Nat
  asn     : Nat
  step    : Nat
  kop     : Bool := false
  core    : Option Nat := none
  left    : Nat := 1
  ops     : List (List Byte) := []
  shares  : List (List Byte × List Byte) := []
  deriving DecidableEq, Repr

/-- A step of a descriptor's graph (03 R83, R85). state: 0 waits, 1 in an engine or about to be issued again, 2 done. -/
structure Step where
  kind  : StepKind
  state : Nat
  deriving DecidableEq, Repr

/-- A descriptor's hold on a script core (03 R471). -/
inductive ScriptHold where
  | none
  | waiting
  | core (c : Nat)
  deriving DecidableEq, Repr

/-- The operands of a descriptor once its reads have returned (02 R62 check 6). -/
structure Operands where
  ins  : List Seg
  outs : List Seg
  data : List Byte
  deriving DecidableEq, Repr

/-- A key record (07 R217). handle, parent and mut are the 64-bit words; anc lists slot index and LGEN of each ancestor,
nearest first; mat is the key material over KEY_AREA and the extensions, or an extension slot's part of it; index is an
extension slot's INDEX. -/
structure KeyRec where
  handle    : Nat
  ver       : Nat
  ownerPart : Nat
  ownerInc  : Nat
  state     : Nat
  alg       : Nat
  keyLen    : Nat
  usage     : Nat
  exportRule : Nat
  worlds    : Nat
  masters   : Nat
  lcSet     : Nat
  extCount  : Nat
  extFirst  : Nat
  lgen      : Nat
  kvn       : Nat
  parent    : Nat
  anc       : List (Nat × Nat)
  revSeq    : Nat
  mutv      : Nat
  kcv       : List Byte
  mat       : List Byte
  index     : Nat
  deriving DecidableEq, Repr

/-- What a commit unit does at its commit point (04 R116, R117): nothing, a key record into a physical slot through a
line, or a nonce use word. -/
inductive Effect where
  | none
  | record (phys : Nat) (r : KeyRec) (line : Nat)
  | nonceUse (word : Nat) (asn isn : Nat)
  deriving DecidableEq, Repr

/-- A loaded tenant script (08 R266, R268): its image as the NAND holds it, the fields of its header, and its entry of the tile script
table, addr, len and meas. -/
structure Script where
  image    : List Byte
  addr     : Nat
  len      : Nat
  id       : List Byte
  version  : Nat
  budget   : Nat
  maxOut   : Nat
  flags    : Nat
  keys     : Nat
  sigAlgs  : Nat
  meas     : List Byte
  code     : List Byte
  data     : List Byte
  deriving DecidableEq, Repr

/-- An accepted descriptor in a quarter's in-flight table (03 R74), with what it holds while it waits and runs. slot is the
number of its in-flight entry and dseq the place of its deadline in the order of insertion (R91, R92); steps is its step graph,
by step number (R83). image and budget are those of the script it was accepted under (08 R270, R272); rngWait marks a step that
waits for the DRBG (13 R403); retryOn is the engine, pair 0 or 1 or public-key core 2 or 3, that a discarded step
waits for (R96, R105; 06 R200); stored is what its op-lists have handed to the vault fill path (06 R206); freshTile that its re-dispatch goes only to a tile that has not run it (R96). -/
structure Entry where
  qp       : Nat
  asn      : Nat
  quarter  : Nat
  desc     : List Byte
  se       : Bool
  tile     : Option Nat
  ctx      : Nat
  tilesRun : List Nat
  fired    : Bool
  capture  : Option Nat
  slot     : Nat
  deadline : Option Nat
  dseq     : Nat
  park     : Park
  mism     : Nat
  redispatched : Bool
  freshTile : Bool
  keysReady : List Nat
  input    : Option Operands
  records  : Nat
  line     : Option Nat
  nonce    : Option Nat
  script   : ScriptHold
  matching : Nat
  fromShared : Bool
  grant    : Bool
  steps    : List Step
  image    : Option Script
  budget   : Nat
  rngWait  : Bool
  retryOn  : Option (Nat × StepRun)
  stored   : List Byte
  cpl      : Option Cpl
  committed : Bool
  journalled : Bool
  deriving DecidableEq, Repr

/-- A token bucket in tenths of 1,024ths: signed fixed point with 10 fractional bits, and the tick of its last refill
(03 R79). -/
structure Bucket where
  tokens : Int
  last   : Nat
  deriving DecidableEq, Repr

/-- A quarter's hold on nonce counters of a partition (06 R184): the block in use, counters used of it, a further block. -/
structure NonceHold where
  block   : Option Nat
  used    : Nat
  further : Option Nat
  deriving DecidableEq, Repr

/-- A quarter (03 R74 to R100, 07 R237). matchQ lists the descriptors that wait for matching-store entries, in the order
in which they began to wait (R87); rrL7 is the partition last served from L7 (13 R407). l5 holds the bucket refills by 2 × partition
for an OPS bucket and 2 × partition + 1 for a PKE one, each with its tick and its place in the order of insertion, of which ins
is the next (R79, R91, R92); workSince is the time since which the quarter has held work to send without a break (R100). -/
structure Quarter where
  failed    : Bool
  failCause : Nat
  rvs       : Nat
  ops       : Tbl Bucket
  pke       : Tbl Bucket
  l5        : Tbl (Nat × Nat)
  ins       : Nat
  drain     : Tbl Nat
  useNext   : Nat
  nonce     : Tbl NonceHold
  matchQ    : List (Nat × Nat)
  rrL7      : Nat
  lastSend  : Nat
  workSince : Option Nat
  deriving DecidableEq, Repr

/-- The registers of a public-key core, each with its SECRET tag: 32 of 4,096 bits and 48 polynomials; what is not listed is zero and
clear (06 R196, R207). -/
structure OpFile where
  ints  : Tbl (Nat × Bool)
  polys : Tbl (List Nat × Bool)
  deriving DecidableEq, Repr

/-- PKE_CORE_STS (06 R209), the step the core runs, its registers, its op-list memory and its blinding generator (06 R196). -/
structure PkeCore where
  busy       : Bool
  loaded     : Bool
  lastFault  : Nat
  checkErr   : Nat
  faultCount : Nat
  run        : Option StepRun
  checked    : Bool
  file       : OpFile
  lib        : List Byte
  blind      : List Byte
  deriving DecidableEq, Repr

/-- A core that abandons what it runs: its registers are zero (06 R196, R207). -/
def PkeCore.stop (c : PkeCore) : PkeCore := { c with busy := false, run := none, checked := false, file := { ints := [], polys := [] } }

/-- What a key-cache entry is named by (07 R232): a handle, a key block's digest under a protection key, or a transient
key of a descriptor. -/
inductive CacheName where
  | key (handle : Nat)
  | block (digest : List Byte) (prot : Nat)
  | transient (qp asn id : Nat)
  deriving DecidableEq, Repr

/-- A key-cache entry (07 R232). pins lists the descriptors that pin it; pending is the revocation it waits out (R238).
filled is false until the fill has written the entry; hashes are
those whose states an HMAC entry holds. The cache lists the most recently used entry first. -/
structure CacheEnt where
  colour  : Nat
  name    : CacheName
  blocks  : Nat
  pins    : List (Nat × Nat)
  pending : Option Nat
  filled  : Bool
  hashes  : List Nat
  key     : KeyRec
  deriving DecidableEq, Repr

/-- An operand token (03 R84): the fields of its header but LEN, which is its value's length; the status that a status token
carries and the key-cache entry that a key-ready token names. KIND: 0 data, 1 key-ready, 2 status, 3 hit, 4 miss. -/
structure Token where
  ctx    : Nat
  step   : Nat
  opnd   : Nat
  sens   : Bool
  kind   : Nat
  colour : Nat
  status : Nat
  value  : List Byte
  name   : Option CacheName
  deriving DecidableEq, Repr

/-- A sensitive-store entry (03 R88): the descriptor and step it belongs to, and its value. -/
structure SensEnt where
  qp    : Nat
  asn   : Nat
  step  : Nat
  value : List Byte
  deriving DecidableEq, Repr

/-- A tile (01 R15, 03 R83 to R101, 06 R178 to R191, 15 R447). -/
structure Tile where
  enable     : Bool
  fenced     : Bool
  fenceCause : Nat
  quar0      : Bool
  quar1      : Bool
  mism0      : Nat
  mism1      : Nat
  hist0      : List Nat
  hist1      : List Nat
  power      : Nat
  powerResult : Nat
  wakeEn     : BitVec 3
  pke0       : PkeCore
  pke1       : PkeCore
  tclk       : Nat
  pclk       : Nat
  planTclk   : Nat
  volt       : Nat
  planVolt   : Nat
  slack      : List Int
  ro         : List Nat
  wearReserve : Nat
  wearDate   : Nat
  deriving DecidableEq, Repr

/-- The module area of a tile's key cache (07 R211, R212): HCB and VRK. -/
structure ModuleArea where
  hcb : List Byte
  vrk : List Byte
  deriving DecidableEq, Repr

/-- What a tile holds that a fence erases, and its scheduling positions (03 R84 to R90, R471; 07 R232; 08 R269). pkeAt and pkeLeft
are the partition whose turn it is on the public-key cores and the turns it has left (03 R85); differSince is the tick since
which enable and fence are seen to differ (01 R22). -/
structure TileMem where
  cache      : List CacheEnt
  pinQ       : List (Nat × Nat)
  moduleArea : Option ModuleArea
  maskSeeded : Bool
  mask       : List Byte
  maskAt     : Nat
  tokens     : List Token
  sens       : List SensEnt
  pair0      : Option StepRun
  pair1      : Option StepRun
  hashRun    : Option StepRun
  hashWait   : List StepRun
  hashRetry  : Bool
  heart      : Nat
  rvs        : Nat
  held       : Bool
  scriptImage : Option (List Byte)
  rrScript   : Nat
  rrTenant   : Nat
  rrPair     : Nat
  rrHash      : Nat
  rrFill     : Nat
  pkeAt      : Nat
  pkeLeft    : Nat
  slowSince  : Option Nat
  demandSince : Option Nat
  differSince : Option Nat
  disagreed  : Bool
  deriving DecidableEq, Repr

/-- A partition command in progress (08 R255, R257): its number, whether it came by HIF_ADM_PCMD, and whether a drain
ended by its deadline. -/
structure PartCmd where
  action   : Nat
  viaPcmd  : Bool
  drainMs  : Nat
  deadlined : Bool
  deriving DecidableEq, Repr

/-- A partition as the management plane and its home quarters hold it (08 R253 to R277). -/
structure Part where
  created     : Bool
  admin       : Nat
  oper        : Tbl Nat
  incarnation : Nat
  cmd         : Option PartCmd
  reason      : Nat
  outcome     : Nat
  lastCancelled : Nat
  differSince : Option Nat
  disagree    : Bool
  disagreeCount : Nat
  qps         : List Nat
  extents     : List Nat
  journalExtents : List Nat
  quota       : Tbl Nat
  recordsUsed : Nat
  recordsReserved : Nat
  logTail     : Nat
  scripts     : Tbl Script
  versions    : List (List Byte × Nat)
  deriving DecidableEq, Repr

/-- A head record of the intent journal with its output (04 R116). state is the STATE in force: 0 free, 1 PREPARED, 2 DONE, 3
ABANDONED; stA and stB are the STATE that each device holds (R119); pos is its place in the partition's circular log (R115). -/
structure JRec where
  isn    : Nat
  qp     : Nat
  asn    : Nat
  cmd    : Nat
  cpl    : Cpl
  tag    : List Byte
  effect : Effect
  state  : Nat
  stA    : Nat
  stB    : Nat
  pos    : Nat
  deriving DecidableEq, Repr

/-- A commit unit that waits for its first write (04 R117), with the records and the line that its descriptor reserved for it
(04 R118; 07 R229). extDone counts the extension slots that its batches have written (07 R229). -/
structure CUnit where
  part   : Nat
  rcd    : JRec
  quarter : Nat
  held   : Nat
  line   : Option Nat
  extDone : Nat
  deriving DecidableEq, Repr

/-- The journal controller and its region (04 R112 to R125, 06 R183). batchA and batchB are the batch commit words that the devices
hold (R115); useA and useB are the use rings that they hold (06 R183, R186); mirrorSeq is the header's mirror sequence and layout its layout version (01 R30). -/
structure Journal where
  devA     : Bool
  devB     : Bool
  layout   : Nat
  mirrorSeq : Nat
  isn      : Nat
  batch    : Nat
  batchA   : Nat
  batchB   : Nat
  records  : List JRec
  units    : List CUnit
  useA     : Tbl Nat
  useB     : Tbl Nat
  nextA    : Tbl Nat
  nextB    : Tbl Nat
  lastBatch : Nat
  rr       : Nat
  cleanMark : Bool
  deriving DecidableEq, Repr

/-- A sealed key record (07 R217, R223): the clear head that is authenticated, the enciphered rest, and the tag. -/
structure Sealed where
  head : List Byte
  ct   : List Byte
  tag  : List Byte
  deriving DecidableEq, Repr

/-- An MRAM line (07 R226). kind is HOLDER's: 0 free, 1 partition, 2 trusted kernel. -/
structure Line where
  commit : Nat
  ckpt   : Nat
  isnA   : Nat
  isnB   : Nat
  slot   : Nat
  kind   : Nat
  part   : Nat
  slotA  : Option Sealed
  slotB  : Option Sealed
  deriving DecidableEq, Repr

/-- A key operation of R238, R241, R243: in progress or waiting. retire tells that its key's LGEN stood at its last value, so that
its end retires the slot (R214). path is the request that awaits its end, if one does. -/
structure KeyOp where
  handle : Nat
  action : Nat
  r      : Nat
  module : Bool
  retire : Bool
  path   : Option Path
  deriving DecidableEq, Repr

/-- A vault grant (05 R139): the physical slot, its holder, and the waiting descriptors in order. -/
structure Grant where
  phys    : Nat
  holder  : Nat × Nat
  waiters : List (Nat × Nat)
  deriving DecidableEq, Repr

/-- The vault (07). slots is the working copy; under what a slot that holds an extension keeps of its own, which the extension's layout
has no place for: GEN, LGEN and REV_SEQ (R214; log 18). img0 and img1 are the sealed images by slot, map0 and map1 their page maps, an
absent entry mapping a logical page to its own number, and next0 and next1 the physical pages after those programmed last (R225, R230; log
83). lines is the lines in force, linesA and linesB what the two devices hold of them (R225, R228). rs and kek are the secrets of
BBRAM. -/
structure Vault where
  slots      : Tbl KeyRec
  under      : Tbl (Nat × Nat × Nat)
  img0       : Tbl Sealed
  img1       : Tbl Sealed
  map0       : Tbl Nat
  map1       : Tbl Nat
  next0      : Nat
  next1      : Nat
  lines      : Tbl Line
  linesA     : Tbl Line
  linesB     : Tbl Line
  rs         : Option (List Byte)
  kek        : Option (List Byte)
  rvs        : Nat
  op         : Option KeyOp
  waiting    : List KeyOp
  keyOpResult : Nat
  modKeyOpResult : Nat
  grants     : List Grant
  nandErrors : Nat
  lost       : List Nat
  restored   : Bool
  rrCkpt     : Nat
  deriving DecidableEq, Repr

/-- A key slot of the service engine: its world, the session it holds the keys of, 0 for the vault record key, and the keys (06 R193;
07 R211; 10 R323). -/
structure SvcSlot where
  trusted : Bool
  sid     : Nat
  key     : List Byte
  deriving DecidableEq, Repr

/-- What the owner's operation is at (06 R193): the core, whether a mismatch has had it repeated, and on which slot that was. -/
structure SvcOp where
  core  : Nat
  again : Bool
  slot  : Option Nat
  deriving DecidableEq, Repr

/-- The service engine and SVC_LOCK (06 R193 to R195). -/
structure Svc where
  owner  : Nat
  held   : Bool
  forced : Bool
  req    : BitVec 4
  op     : Option SvcOp
  status : Tbl Nat
  slots  : Tbl SvcSlot
  since  : Nat
  ignoredForces : Nat
  deriving DecidableEq, Repr

/-- What an Eloa core waits for (09 R291, R301 to R303, R314). -/
inductive CoreWait where
  | none
  | wfi
  | waitt (rd : Nat) (ticket : Nat)
  | rdt (rd : Nat) (ticket addr : Nat)
  | rnd (rd : Nat)
  | endAt (addr : Nat)
  deriving DecidableEq, Repr

/-- A step issued by KOP (09 R299): the function, the key reference, the operand block, the token once the step has
emitted it, and whether it has arrived at the core. stage: 0 waits to fire, 1 in an engine, 2 a key block whose digest the lookup missed
and that waits for the lanes (05 R141); held is the token that its engine withholds until it is done (03 R95). -/
structure Ticket where
  func    : Nat
  key     : Nat
  inA     : Option Nat
  inB     : Option Nat
  inline  : List Byte
  sensOut : Bool
  param   : Nat
  stage   : Nat
  held    : Option Token
  tok     : Option Token
  arrived : Bool
  deriving DecidableEq, Repr

/-- A context on the interrupt context stack (09 R306, R312): return address, flags, F, the previous running priority,
and the source, 256 for a fault. -/
structure ICtx where
  pc     : Word
  flags  : Word
  f      : Nat
  runpri : Nat
  source : Nat
  deriving DecidableEq, Repr

/-- The fields of R280's control registers that a core holds. -/
structure CoreCtl where
  z       : Bool
  n       : Bool
  c       : Bool
  v       : Bool
  dz      : Bool
  crcCfg  : Word
  crcPoly : Word
  decLo   : Word
  decHi   : Word
  cycle   : Word
  budget  : Nat
  tcmp    : Word
  fvbase  : Word
  fault   : Nat
  faultPc : Word
  dwin    : Word
  deriving DecidableEq, Repr

/-- An Eloa core (09 R278 to R286). dbg: 0 runs, 1 halted by a debugger, 2 halted but for one word that it steps (11 R372).
g holds the globals, win the window registers by logical number 8·frame + i; ret and ictx are the two stacks, top first. seenCycle and
seenBudget are ELQ_CYCLE and the budget when the core's timers were last looked at (R315). -/
structure EloaCore where
  g       : Tbl Word
  win     : Tbl Word
  ds      : Word
  pc      : Word
  ctl     : CoreCtl
  f       : Nat
  b       : Nat
  ret     : List Word
  ictx    : List ICtx
  mem     : List Host.Cell
  code    : List Host.Cell
  wait    : CoreWait
  stopped : Bool
  desc    : Option (Nat × Nat)
  tickets : List Ticket
  drew    : Bool
  dbg     : Nat
  seenCycle  : Word := 0
  seenBudget : Nat := 0
  deriving DecidableEq, Repr

/-- A source of an event vector unit (09 R308). -/
structure EvuSrc where
  sense  : Nat
  mask   : Bool
  prio   : Nat
  target : Nat
  level  : Bool
  deriving DecidableEq, Repr

/-- The per-core registers of an event vector unit (09 R309). -/
structure EvuCore where
  thresh : Nat
  vbase  : Word
  runpri : Nat
  cur    : Nat
  deriving DecidableEq, Repr

/-- An event vector unit (09 R307 to R311). -/
structure Evu where
  cfg    : Tbl EvuSrc
  pend   : List Nat
  active : List Nat
  cores  : Tbl EvuCore
  deriving DecidableEq, Repr

/-- A session of the management bus (10 R323 to R326). role: 1 manager, 2 custodian; keys: k_cs, k_sc, iv_cs and iv_sc joined (10
R325). -/
structure Session where
  sid    : Nat
  node   : Nat
  role   : Nat
  scope  : Nat
  index  : Nat
  opened : Nat
  last   : Nat
  ctrIn  : Nat
  ctrOut : Nat
  keys   : List Byte
  deriving DecidableEq, Repr

/-- A session set-up in progress (10 R324), with the TH2 that its FINISH signs and the keys that it will have. -/
structure Attempt where
  node  : Nat
  sid   : Nat
  role  : Nat
  scope : Nat
  index : Nat
  since : Nat
  th2   : List Byte
  keys  : List Byte
  deriving DecidableEq, Repr

/-- A HELLO whose REPLY waits for the management DRBG (10 R324; 13 R409): its fields, and when it was received. -/
structure Hello where
  node  : Nat
  role  : Nat
  scope : Nat
  index : Nat
  body  : List Byte
  since : Nat
  deriving DecidableEq, Repr

/-- A transfer the Q4 sends (10 R322): segments in all, the first not acknowledged, the next one to send, resends, when it
last sent, the FUNC of its frames and the message. -/
structure FmpTx where
  node    : Nat
  xfer    : Nat
  segs    : Nat
  acked   : Nat
  sent    : Nat
  resends : Nat
  since   : Nat
  func    : Nat
  data    : List Byte
  deriving DecidableEq, Repr

/-- A partial message the Q4 holds: the segments it has of the transfer, and when the last one came (10 R321, R322). -/
structure FmpRx where
  node  : Nat
  xfer  : Nat
  next  : Nat
  since : Nat
  deriving DecidableEq, Repr

/-- The management port (10 R317 to R326, R348). offAt is when it last went bus-off; rxXfer the number of each node's next
transfer to it (log 46); alerts are the ALERT frames that its start sends (12 R392). -/
structure Fmp where
  busState : Nat
  tec      : Nat
  rxErr    : Nat
  busOff   : Nat
  dupNode  : Nat
  framesRx : Nat
  framesTx : Nat
  serving  : Bool
  node     : Nat
  rate     : Nat
  term     : Nat
  xfer     : Tbl Nat
  sessions : List Session
  attempts : List Attempt
  hellos   : List Hello
  fails    : List (Nat × Nat)
  ignored  : List (Nat × Nat)
  tx       : List FmpTx
  rx       : List FmpRx
  beat     : Nat
  alerts   : List (List Byte)
  offAt    : Nat
  rxXfer   : Tbl Nat
  deriving DecidableEq, Repr

/-- Pieces held of a segmented write, or the snapshot of a segmented read (10 R332). -/
structure DictXfer where
  path  : Path
  write : Bool
  index : Nat
  sub   : Nat
  data  : List Byte
  pos   : Nat
  last  : Nat
  deriving DecidableEq, Repr

/-- A quorum request (10 R339, R349). state: 1 pending, 2 applied, 3 refused, 4 expired, 5 withdrawn. live: the session that
proposed it is open (true for the tunnel). due: the tick that applies it, once its approvals reach M (10 R341, R345). -/
structure QReq where
  reqNo     : Nat
  scope     : Nat
  index     : Nat
  sub       : Nat
  value     : List Byte
  digest    : List Byte
  expires   : Nat
  incarnation : Nat
  need      : Nat
  state     : Nat
  approvals : List Nat
  result    : Nat
  origin    : Path
  live      : Bool
  due       : Option Nat
  deriving DecidableEq, Repr

/-- The key ceremony (10 R342 to R345, R349). values pairs each accepted component with its index; writers lists the
sessions and custodians that wrote one. -/
structure Ceremony where
  state    : Nat
  scope    : Nat
  alg      : Nat
  count    : Nat
  template : List Byte
  values   : List (Nat × List Byte)
  writers  : List (Nat × Nat)
  key      : List Byte
  kcv      : List Byte
  result   : Nat
  opened   : Nat
  deriving DecidableEq, Repr

/-- The object dictionary (10 R327 to R351). store holds the values of the objects that keep one, by index × 256 + sub;
cur the OP, INDEX and SUB of each path's latest request, which its response repeats (R331). -/
structure Dict where
  store    : Tbl (List Byte)
  xfers    : List DictXfer
  reqNo    : Nat
  reqs     : Tbl QReq
  cer      : Ceremony
  cursors  : List (Path × Nat)
  limitSel : List (Path × Nat)
  cur      : List (Path × List Byte)
  deriving DecidableEq, Repr

/-- A firmware image (11 R358): its kind, versions, whether both signatures verify under the keys in the ROM, and its body. -/
structure FwImage where
  kind       : Nat
  version    : Nat
  secVersion : Nat
  minRom     : Nat
  sigsOk     : Bool
  body       : List Byte
  deriving DecidableEq, Repr

/-- A firmware bank (11 R358). -/
structure FwBank where
  present : Bool
  images  : List FwImage
  deriving DecidableEq, Repr

/-- A debug challenge outstanding (11 R370): scope, its digest, when it was made and in which life-cycle state. -/
structure Challenge where
  scope  : Nat
  digest : List Byte
  since  : Nat
  lc     : Nat
  deriving DecidableEq, Repr

/-- Firmware, life cycle, identity and debug (11). dbgWait holds the debug requests whose challenge waits for the management DRBG, with
their scopes (13 R405); barred that a transition made in service keeps the data plane closed until the next start (R363). -/
structure Life where
  otpA      : Word
  otpB      : Word
  otpC      : Word
  regA      : BitVec 3
  regB      : BitVec 3
  regC      : BitVec 3
  shA       : BitVec 3
  shB       : BitVec 3
  shC       : BitVec 3
  mirror    : Nat
  mirrorErr : Bool
  request   : Option Nat
  bbram     : Bool
  zeroised  : Bool
  identity  : Nat
  scope     : Nat
  challenge : Option Challenge
  dbgWait   : List (Path × Nat)
  voteEvents : Nat
  barred    : Bool
  deriving DecidableEq, Repr

/-- The firmware banks and the update in progress, with the bytes of it received (11 R356 to R360, R377). -/
structure Fw where
  bank0     : FwBank
  bank1     : FwBank
  boot      : Nat
  state     : Nat
  result    : Nat
  total     : Nat
  recv      : List Byte
  floors    : List Nat
  meas      : List (List Byte)
  running   : Bool
  newSince  : Option Nat
  recovery  : Bool
  previous  : Option Nat
  patch     : List Byte
  deriving DecidableEq, Repr

/-- The start-up of the module (11 R355, R356). held is what a start found that a pending transition holds at step 5, and whether it found
the clean-shutdown mark (R365). -/
structure Boot where
  booted   : Bool
  step     : Nat
  held     : Option (StartInfo × Bool)
  bootMs   : Nat
  bootDpMs : Nat
  startUs  : Nat
  failed   : Bool
  deriving DecidableEq, Repr

/-- A tamper source (12 R379, R380, R393, R395, R472). kOk, wOk and respOk tell that K, W and the response agree with their shadows; dis
that its pair disagrees now, gave that this disagreement has given a SENSOR_FAULT event. sampledAt is when detector A was last sampled,
comparedAt when the pair was last compared, bBeyond the latest reading of detector B beyond its threshold. -/
structure TamperSrc where
  k        : Nat
  w        : Nat
  resp     : Nat
  kOk      : Bool
  wOk      : Bool
  respOk   : Bool
  events   : Nat
  history  : List Nat
  runs     : Nat
  disagree : Nat
  sampleA  : Nat
  sampleB  : Nat
  dis      : Bool
  gave     : Bool
  alarm    : Bool
  sampledAt : Nat
  comparedAt : Nat
  bBeyond  : Bool
  deriving DecidableEq, Repr

/-- A record of the Nightside log (12 R392). -/
structure NsRec where
  seq     : Nat
  source  : Nat
  asked   : Nat
  done    : Nat
  events  : Nat
  sampleA : Nat
  sampleB : Nat
  lfTime  : Nat
  powerCycles : Nat
  backup  : Bool
  zeroised : Bool
  capped  : Bool
  suppressed : Nat
  deriving DecidableEq, Repr

/-- The tamper logic and the Nightside log (12). lfBase is the model's time at which LF_TIME was last zero. latchOk and restoreOk tell that
the HALT latch and RESTORE_PENDING agree with their shadows; boundsBad names the units and partitions whose copy of the bounds does not:
0 to 3 the quarters, 4 to 19 the tiles (12 R388). -/
structure Tamper where
  src       : Tbl TamperSrc
  latch     : Bool
  restorePending : Bool
  halt      : Bool
  lastRank  : Nat
  seen      : List Nat
  alarms    : Nat
  log       : List NsRec
  logSeq    : Nat
  logCopied : Nat
  logOvf    : Nat
  lfBase    : Nat
  shadowEvents : Nat
  zeroedOn  : List Nat
  zeroedBackup : Bool
  logicAlarm : Bool
  table     : List Byte
  burstAt   : Nat
  latchOk   : Bool
  restoreOk : Bool
  boundsBad : List (Nat × Nat)
  deriving DecidableEq, Repr

/-- A CTR_DRBG: 0 to 3 of the quarters, 4 of the management complex (13 R398, R405, R410). state: 0 uninstantiated,
1 ready, 2 stalled. buf is what the output buffer of a quarter's instance holds, filling whether it is being refilled. -/
structure Drbg where
  state  : Nat
  blocks : Nat
  out    : Nat
  drawn  : Nat
  wants  : Bool
  buf    : Nat
  filling : Bool
  deriving DecidableEq, Repr

/-- The random source (13). -/
structure Rng where
  state    : Nat
  failures : Nat
  lastFail : Nat
  reseeds  : Nat
  stalls   : Nat
  fails    : Nat
  testing  : Bool
  testAt   : Nat
  blockAt  : Nat
  drbg     : Tbl Drbg
  est      : Tbl Estimates
  estAt    : Tbl Nat
  raw      : Nat
  rr       : Nat
  deriving DecidableEq, Repr

/-- An event record (14 R411). -/
structure EvRec where
  seq        : Nat
  code       : Nat
  severity   : Nat
  carrier    : Bool
  nightside  : Bool
  isVolatile : Bool
  kind       : Nat
  source     : Nat
  opTime     : Nat
  powerCycles : Nat
  suppressed : Nat
  data       : List Byte
  deriving DecidableEq, Repr

/-- A record that the management plane writes at its next tick (01 R21): code, source kind, source, data. -/
structure TickRec where
  code : Nat
  kind : Nat
  src  : Nat
  data : List Byte
  deriving DecidableEq, Repr

/-- The limits and the bucket of an event code (14 R420): tokens in thousandths. -/
structure EvLimit where
  rate    : Nat
  burst   : Nat
  tokens  : Nat
  last    : Nat
  pending : Nat
  lastEvent : Nat
  deriving DecidableEq, Repr

/-- The event recorder (14). wall is the wall clock and the operating time it was set at. -/
structure Evr where
  mode      : Nat
  devA      : Bool
  devB      : Bool
  seq       : Nat
  buffer    : List EvRec
  held      : List EvRec
  horizon   : Tbl Nat
  overwrites : Nat
  dropped   : Nat
  opMs      : Nat
  opUs      : Nat
  saved     : Nat
  powerCycles : Nat
  wall      : Option (Nat × Nat)
  limits    : Tbl EvLimit
  lastFlush : Nat
  lastAnchor : Nat
  atTick    : List TickRec
  deriving DecidableEq, Repr

/-- The hold-up bank, the gate and the supplies (15 R427 to R432, R443 to R446; 17 R458). upCount and upOpen count the
computations in a row at or above the RESTRICTED and the OPEN threshold (04 R131); tCeil and pCeil are the ceilings that
the throttle leaves TCLK and PCLK (15 R433); gateAt is when the gate was last computed (01 R21) and capAt the power cap last
checked (15 R427), esrAt the operating time of this power-up's last ESR pulse (15 R430); lostAt is when main power was last lost. -/
structure Power where
  main      : Bool
  backupMv  : Nat
  bankMv    : Nat
  capMf     : Nat
  esrUohm   : Nat
  energyMj  : Nat
  eol       : Nat
  gate      : Nat
  upCount   : Nat
  upOpen    : Nat
  gateAt    : Nat
  capAt     : Nat
  esrAt     : Option Nat
  tCeil     : Nat
  pCeil     : Nat
  tRestr    : Nat
  tOpen     : Nat
  pulseHold : Option Nat
  inputDw   : Nat
  throttle  : Nat
  throttleCount : Nat
  lostAt    : Nat
  deriving DecidableEq, Repr

/-- Thermal, wear and backup planning (15 R433 to R446). slow is p_slow in millionths of 0.1 W; plans lists each tile's last
30 plans, oldest first, as operating time and V_plan at 1.2 GHz; batDrawn is the time on backup in µs since the first test
of the present source, batAge the operating time of that test, batFirst its sag. -/
structure Therm where
  diodes   : List Int
  core     : Int
  pred     : Int
  inlet    : Int
  slow     : Int
  hard     : Bool
  wearLast : Nat
  plans    : Tbl (List (Nat × Nat))
  predAt   : Nat
  measured : Tbl Nat
  testAt   : Option Nat
  reserveMin : Nat
  batRest  : Nat
  batLoad  : Nat
  batLimit : Nat
  batLow   : Bool
  batEnd   : Nat
  batFirst : Option Nat
  batDrawn : Nat
  batAge   : Nat
  drift    : Bool
  deriving DecidableEq, Repr

/-- Test access (17 R467 to R470): the instruction register, the boundary cells driven, and the node that
AVB_ATB selects. -/
structure TestAcc where
  ir   : Nat
  cells : BitVec 32
  sel  : Nat
  deriving DecidableEq, Repr

/-- What silicon and manufacture fix (10 R347): the ordering code, the serial number, the ROM version, and the
analogue trim in OTP (01 R29). -/
structure Ident where
  external : Bool
  serial   : Nat
  rom      : Nat
  trim     : List Byte
  deriving DecidableEq, Repr

/-- What an LED shows (17 R466): dark, steady, or blinking at a rate in Hz with a 50% duty cycle. -/
inductive LedMode where
  | dark
  | steady
  | blink (hz : Nat)
  deriving DecidableEq, Repr

/-- The LEDs' colours (17 R466). -/
inductive LedColour where
  | green
  | amber
  | red
  | blue
  deriving DecidableEq, Repr

/-- What the block has sent out, newest first: reads and writes of host memory, interrupt messages, bus frames, and
what a test port shows. The model's own record of the block's outputs. -/
inductive BusMsg where
  | read (h : DmaHdr) (len : Nat)
  | write (h : DmaHdr) (data : List Byte)
  | flushRead (func : Nat) (pasid : Option Nat)
  | translate (func : Nat) (pasid : Option Nat) (page : Nat)
  | msix (func vector : Nat)
  | atsDone (func page : Nat)
  | value (v : List Byte)
  | response (path : Path) (result : Nat) (value : List Byte)
  | frame (id dst : Nat) (payload : List Byte)
  | tdo (v : List Byte)
  deriving DecidableEq, Repr

/-- The whole machine. now counts microseconds of the model; free numbers the free values taken (log 5); ddr holds the
DDR5 that management cores write by address; reqArea the kernel request area (11 R353). -/
structure State where
  pending  : List Instr
  now      : Nat
  free     : Nat
  bus      : List BusMsg
  hif      : Hif
  qps      : Tbl Qp
  entries  : List Entry
  quarters : Tbl Quarter
  tiles    : Tbl Tile
  tmem     : Tbl TileMem
  parts    : Tbl Part
  journal  : Journal
  vault    : Vault
  svc      : Svc
  cores    : Tbl EloaCore
  ddr      : List Host.Cell
  reqArea  : List Host.Cell
  evus     : Tbl Evu
  fmp      : Fmp
  dict     : Dict
  life     : Life
  fw       : Fw
  boot     : Boot
  tamper   : Tamper
  rng      : Rng
  evr      : Evr
  power    : Power
  therm    : Therm
  test     : TestAcc
  ident    : Ident
  deriving DecidableEq, Repr

/-- The mailbox after reset (02 R56). -/
def Mailbox.reset : Mailbox :=
  { reqLen := 0, busy := false, done := false, seqErr := false, result := 0, rspLen := 0, reqBuf := [], rspBuf := [],
    applied := false }

/-- The host interface after power-up (02 R53): PERST# is still asserted; the sizes as PCI Express resets them (log 79). -/
def Hif.reset : Hif :=
  { failed := false, speed := 0, width := 0, degraded := false, retrains := 0, linkUp := false, perst := true, fetchEn := false,
    atsUse := false, dpOpen := false, replayActive := false, isr := 0, ier := 0, strayDb := 0, strayTotal := 0,
    fetchErrors := 0, aerCorr := 0, aerUncorr := 0,
    pcmdWord := 0, pcmdBusy := false, pcmdDone := false,
    pcmdRefused := false, pcmdOverrun := false, pcmdReason := 0, pcmdPart := 0, mbx := Mailbox.reset, bme := [],
    ats := [], maxPayload := 128, maxRead := 512, numVfs := 0, reads := [], readWait := [], invals := [], atc := [], msix := [] }

/-- A queue pair never yet assigned (02 R50; cfg fields zero, log 3). -/
def Qp.reset : Qp :=
  { sqBase := 0, cqBase := 0, depthLog2 := 0, func := 0, vfPage := 0, pasidEn := false, pasid := 0, vector := 0,
    coalCount := 0, coalTime := 0, en := false, fetchErr := false, dbErr := false, cfgErr := false, cplErr := false,
    partition := 0, assigned := false, home := 0, tail := 0, cqHead := 0, wm := 0, next := 0, w := 0, flushed := 0,
    slotsA := [], slotsB := [], irqMask := false, badDb := 0, badFetch := 0, replaying := false, replayTop := 0,
    tailWritten := false, headWritten := false, headWait := false, fetching := 0, fetchAsn := 0, paused := false,
    allowance := 0, pendCount := 0, pendSince := 0 }

/-- A free slot never written (07 R214, R217). -/
def KeyRec.reset : KeyRec :=
  { handle := 0, ver := 0, ownerPart := 0, ownerInc := 0, state := 0, alg := 0, keyLen := 0, usage := 0,
    exportRule := 0, worlds := 0, masters := 0, lcSet := 0, extCount := 0, extFirst := 0, lgen := 0, kvn := 0,
    parent := 0, anc := [], revSeq := 0, mutv := 0, kcv := [], mat := [], index := 0 }

/-- A quarter after power-up. -/
def Quarter.reset : Quarter :=
  { failed := false, failCause := 0, rvs := 0, ops := [], pke := [], l5 := [], ins := 0, drain := [], useNext := 0, nonce := [],
    matchQ := [], rrL7 := 4096, lastSend := 0, workSince := none }

/-- PKE_CORE_STS after reset (06 R209). -/
def PkeCore.reset : PkeCore :=
  { busy := false, loaded := false, lastFault := 0, checkErr := 0, faultCount := 0, run := none, checked := false,
    file := { ints := [], polys := [] }, lib := [], blind := [] }

/-- A tile after power-up (03 R101, 06 R209, 15 R447; the voltage and the clocks as log 8 says). -/
def Tile.reset : Tile :=
  { enable := true, fenced := false, fenceCause := 0, quar0 := false, quar1 := false, mism0 := 0, mism1 := 0,
    hist0 := [], hist1 := [], power := 0, powerResult := 0, wakeEn := 7, pke0 := PkeCore.reset, pke1 := PkeCore.reset,
    tclk := 1200, pclk := 1200, planTclk := 1200, volt := 850, planVolt := 850, slack := List.replicate 12 0, ro := List.replicate 4 0,
    wearReserve := 100, wearDate := 2 ^ 48 - 1 }

/-- A tile's stores, all empty (07 R238: every key cache starts empty). -/
def TileMem.reset : TileMem :=
  { cache := [], pinQ := [], moduleArea := none, maskSeeded := false, mask := [], maskAt := 0, tokens := [], sens := [], pair0 := none,
    pair1 := none, hashRun := none, hashWait := [], hashRetry := false, heart := 0, rvs := 0, held := false, scriptImage := none,
    rrScript := 0, rrTenant := 0, rrPair := 0, rrHash := 0, rrFill := 0, pkeAt := 0, pkeLeft := 0, slowSince := none, demandSince := none,
    differSince := none, disagreed := false }

/-- A partition number never created (08 R277). -/
def Part.reset : Part :=
  { created := false, admin := 7, oper := [], incarnation := 0, cmd := none, reason := 0, outcome := 0,
    lastCancelled := 0, differSince := none, disagree := false, disagreeCount := 0, qps := [], extents := [],
    journalExtents := [], quota := [], recordsUsed := 0, recordsReserved := 0, logTail := 0, scripts := [],
    versions := [] }

/-- A journal never written: the next ISN is 1 (04 R116); its layout version is the first (log 81). -/
def Journal.reset : Journal :=
  { devA := true, devB := true, layout := 1, mirrorSeq := 0, isn := 1, batch := 0, batchA := 0, batchB := 0, records := [],
    units := [], useA := [], useB := [], nextA := [], nextB := [],
    lastBatch := 0, rr := 0, cleanMark := false }

/-- A line that holds nothing (07 R226). -/
def Line.reset : Line :=
  { commit := 0, ckpt := 0, isnA := 0, isnB := 0, slot := 0, kind := 0, part := 0, slotA := none, slotB := none }

/-- A vault never written; BBRAM holds no secret (log 9). -/
def Vault.reset : Vault :=
  { slots := [], under := [], img0 := [], img1 := [], map0 := [], map1 := [], next0 := 65536, next1 := 65536, lines := [], linesA := [],
    linesB := [], rs := none, kek := none, rvs := 0, op := none, waiting := [],
    keyOpResult := 0, modKeyOpResult := 0, grants := [], nandErrors := 0, lost := [], restored := false, rrCkpt := 0 }

/-- SVC_LOCK after reset (06 R194). -/
def Svc.reset : Svc :=
  { owner := 0, held := false, forced := false, req := 0, op := none, status := [], slots := [], since := 0,
    ignoredForces := 0 }

/-- The control registers' reset values (09 R280). -/
def CoreCtl.reset : CoreCtl :=
  { z := false, n := false, c := false, v := false, dz := false, crcCfg := 0x3F, crcPoly := 0x1EDC6F41,
    decLo := 0x76543210, decHi := 0x54321098, cycle := 0, budget := 0, tcmp := 0xFFFFFFFF, fvbase := 0, fault := 0,
    faultPc := 0, dwin := 0 }

/-- A script core before its first descriptor (09 R282). -/
def EloaCore.script : EloaCore :=
  { g := [], win := [], ds := 0x1F80, pc := 0, ctl := CoreCtl.reset, f := 0, b := 0, ret := [], ictx := [], mem := [],
    code := [], wait := .none, stopped := false, desc := none, tickets := [], drew := false, dbg := 0 }

/-- A management core after a power-up (09 R282). -/
def EloaCore.mgmt : EloaCore := { EloaCore.script with ds := 0x00040000 }

/-- A source of an event vector unit after reset (09 R308). -/
def EvuSrc.reset : EvuSrc := { sense := 2, mask := true, prio := 0, target := 0, level := false }

/-- A core's registers of its event vector unit after reset (09 R309). -/
def EvuCore.reset : EvuCore := { thresh := 15, vbase := 0, runpri := 31, cur := 0 }

/-- An event vector unit after reset. -/
def Evu.reset : Evu := { cfg := [], pend := [], active := [], cores := [] }

/-- The management port after power-up (10 R348: node 1, 8 Mbit/s, termination fitted). -/
def Fmp.reset : Fmp :=
  { busState := 0, tec := 0, rxErr := 0, busOff := 0, dupNode := 0, framesRx := 0, framesTx := 0, serving := false,
    node := 1, rate := 8, term := 1, xfer := [], sessions := [], attempts := [], hellos := [], fails := [], ignored := [], tx := [],
    rx := [], beat := 0, alerts := [], offAt := 0, rxXfer := [] }

/-- No ceremony (10 R349). -/
def Ceremony.reset : Ceremony :=
  { state := 0, scope := 0, alg := 0, count := 0, template := [], values := [], writers := [], key := [],
    kcv := List.replicate 5 0, result := 0, opened := 0 }

/-- The dictionary with every object at its default: REQ_NO starts at 1 (10 R339). -/
def Dict.reset : Dict :=
  { store := [], xfers := [], reqNo := 1, reqs := [], cer := Ceremony.reset, cursors := [], limitSel := [],
    cur := [] }

/-- A firmware bank with nothing in it. -/
def FwBank.reset : FwBank := { present := false, images := [] }

/-- A part as it leaves the fab, in TEST (11 R362; log 9). -/
def Life.reset : Life :=
  { otpA := 0, otpB := 0, otpC := 0, regA := 0, regB := 0, regC := 0, shA := 7, shB := 7, shC := 7, mirror := 0,
    mirrorErr := false, request := none, bbram := false, zeroised := false, identity := 0, scope := 0,
    challenge := none, dbgWait := [], voteEvents := 0, barred := false }

/-- An image of a kind as manufacture leaves it in bank 0: it verifies (log 9). -/
def factoryImage (k : Nat) : FwImage :=
  { kind := k, version := 0, secVersion := 0, minRom := 0, sigsOk := true, body := Config.factoryBody k }

/-- Firmware state before the first start (11 R377; log 9). -/
def Fw.reset : Fw :=
  { bank0 := { present := true, images := [factoryImage 1, factoryImage 2, factoryImage 3, factoryImage 4] },
    bank1 := FwBank.reset, boot := 0, state := 0, result := 0, total := 0,
    recv := [],
    floors := List.replicate 4 0, meas := List.replicate 6 (List.replicate 48 0), running := false, newSince := none,
    recovery := false, previous := none, patch := [] }

/-- Nothing started yet (11 R377). -/
def Boot.reset : Boot :=
  { booted := false, step := 0, held := none, bootMs := 0, bootDpMs := 0, startUs := 0, failed := false }

/-- Defaults of the tamper sources' settings: K, W in ms units of 12 R393, and the response rank (12 R378). -/
def TamperSrc.of (k w resp : Nat) : TamperSrc :=
  { k := k, w := w, resp := resp, kOk := true, wOk := true, respOk := true, events := 0, history := [], runs := 0, disagree := 0, sampleA := 0,
    sampleB := 0, dis := false, gave := false, alarm := false, sampledAt := 0, comparedAt := 0,
    bBeyond := false }

/-- The Nightside as it starts (12 R393, R395). -/
def Tamper.reset : Tamper :=
  { src := [], latch := false, restorePending := false, halt := false, lastRank := 0, seen := [], alarms := 0,
    log := [], logSeq := 0, logCopied := 0, logOvf := 0, lfBase := 0, shadowEvents := 0, zeroedOn := [],
    zeroedBackup := false, logicAlarm := false, table := [], burstAt := 0,
    latchOk := true, restoreOk := true, boundsBad := [] }

/-- A DRBG not yet instantiated (13 R398). -/
def Drbg.reset : Drbg := 
  { state := 0, blocks := 0, out := 0, drawn := 0, wants := false, buf := 0, filling := false }

/-- The random source before its start-up test (13 R410). -/
def Rng.reset : Rng :=
  { state := 0, failures := 0, lastFail := 0, reseeds := 0, stalls := 0, fails := 0, testing := false, testAt := 0, blockAt := 0, drbg := [],
    est := [], estAt := [], raw := 0, rr := 0 }

/-- The event recorder, its region empty (14 R425). -/
def Evr.reset : Evr :=
  { mode := 1, devA := true, devB := true, seq := 0, buffer := [], held := [], horizon := [], overwrites := 0,
    dropped := 0, opMs := 0, opUs := 0, saved := 0, powerCycles := 0, wall := none, limits := [], lastFlush := 0,
    lastAnchor := 0, atTick := [] }

/-- Power just good, the hold-up bank empty and the gate CLOSED (04 R131, 15 R428, R446; log 8). -/
def Power.reset : Power :=
  { main := true, backupMv := 3600, bankMv := 0, capMf := 2500,
    esrUohm := 6000, energyMj := 0, eol := 0, gate := 2, upCount := 0, upOpen := 0, gateAt := 0, capAt := 0, esrAt := none, tCeil := 1450,
    pCeil := 1200, tRestr := 4000, tOpen := 8000,
    pulseHold := none, inputDw := 0, throttle := 0, throttleCount := 0, lostAt := 0 }

/-- Thermal and wear planning at the first start (15 R446; log 3). -/
def Therm.reset : Therm :=
  { diodes := List.replicate 4 0, core := 0, pred := 0, inlet := 0, slow := 0, hard := false,
    wearLast := 0, plans := [], predAt := 0, measured := [], testAt := none,
    reserveMin := 100, batRest := 0, batLoad := 0, batLimit := 600, batLow := false,
    batEnd := 0, batFirst := none, batDrawn := 0, batAge := 0, drift := false }

/-- The test port with BYPASS selected (log 6). -/
def TestAcc.reset : TestAcc := { ir := 0xFF, cells := 0, sel := 0 }

/-- What manufacture has not yet written (log 9); of the two ordering codes (00 R1) the spec names no default, and this is
DESIGN CHOICE the 16C, with the coin cell (log 9). -/
def Ident.reset : Ident := { external := false, serial := 0, rom := 0, trim := Config.analogueTrim }

/-- The machine right after reset: main power has just become good and start-up has not begun (11 R355). -/
def State.reset : State :=
  { pending := [], now := 0, free := 0, bus := [], hif := Hif.reset, qps := [], entries := [], quarters := [],
    tiles := [], tmem := [], parts := [], journal := Journal.reset, vault := Vault.reset, svc := Svc.reset, cores := [],
    ddr := [], reqArea := [], evus := [], fmp := Fmp.reset, dict := Dict.reset, life := Life.reset, fw := Fw.reset,
    boot := Boot.reset, tamper := Tamper.reset, rng := Rng.reset, evr := Evr.reset, power := Power.reset,
    therm := Therm.reset, test := TestAcc.reset, ident := Ident.reset }

end Sys2Proof.Machine
end

