-- ==== Sys2Proof/Machine/Table.lean ====
section
/-!
DEFINITION. Sparse tables, memories and byte strings: the helpers every meaning uses. All integers in registers,
descriptors and objects are little-endian, byte 0 first (00 R9).
-/

namespace Sys2Proof.Machine

open Sys2Proof

/-- The value at key k, or d. -/
def tblGet {α : Type} (d : α) (t : Tbl α) (k : Nat) : α :=
  match t with
  | [] => d
  | (k', v) :: r => if k' = k then v else tblGet d r k

/-- The value at key k, if listed. -/
def tblFind {α : Type} (t : Tbl α) (k : Nat) : Option α :=
  match t with
  | [] => none
  | (k', v) :: r => if k' = k then some v else tblFind r k

/-- Put v at key k, in rising order of the key. -/
def tblSet {α : Type} (t : Tbl α) (k : Nat) (v : α) : Tbl α :=
  match t with
  | [] => [(k, v)]
  | (k', v') :: r =>
    if k' = k then (k, v) :: r
    else if k < k' then (k, v) :: (k', v') :: r
    else (k', v') :: tblSet r k v

/-- Take key k out. -/
def tblErase {α : Type} (t : Tbl α) (k : Nat) : Tbl α :=
  match t with
  | [] => []
  | (k', v) :: r => if k' = k then tblErase r k else (k', v) :: tblErase r k

/-- The byte at address a: an unlisted address reads 0 (log 4). -/
def Memory.get (m : List Host.Cell) (a : Nat) : Byte := tblGet 0 m a

/-- Write one byte, keeping the canonical form: rising addresses, no byte equal to what an unlisted address reads. -/
def Memory.set (m : List Host.Cell) (a : Nat) (v : Byte) : List Host.Cell :=
  match m with
  | [] => if v = 0 then [] else [(a, v)]
  | (b, w) :: r =>
    if b < a then (b, w) :: Memory.set r a v
    else if b = a then (if v = 0 then r else (a, v) :: r)
    else if v = 0 then (b, w) :: r else (a, v) :: (b, w) :: r

/-- Every address of m lies above a. -/
def Memory.above (a : Nat) (m : List Host.Cell) : Bool :=
  match m with
  | [] => true
  | (b, _) :: _ => decide (a < b)

/-- The canonical form of a memory: addresses strictly rising, no byte 0 listed. -/
def Memory.wf (m : List Host.Cell) : Bool :=
  match m with
  | [] => true
  | (a, v) :: r => decide (v ≠ 0) && Memory.above a r && Memory.wf r

/-- n bytes from address a on. -/
def Memory.read (m : List Host.Cell) (a n : Nat) : List Byte :=
  (List.range n).map (fun i => Memory.get m (a + i))

/-- Store a byte string from address a on. -/
def Memory.write (m : List Host.Cell) (a : Nat) (bs : List Byte) : List Host.Cell :=
  match bs with
  | [] => m
  | b :: r => Memory.write (Memory.set m a b) (a + 1) r

/-- A number as n bytes, least significant first. -/
def leBytes (n v : Nat) : List Byte :=
  match n with
  | 0 => []
  | n + 1 => BitVec.ofNat 8 v :: leBytes n (v / 256)

/-- The number that bytes spell, least significant first. -/
def leNat (bs : List Byte) : Nat :=
  match bs with
  | [] => 0
  | b :: r => b.toNat + 256 * leNat r

/-- A number as n bytes, most significant first. -/
def beBytes (n v : Nat) : List Byte := (leBytes n v).reverse

/-- The number that bytes spell, most significant first. -/
def beNat (bs : List Byte) : Nat := leNat bs.reverse

/-- n zero bytes. -/
def zeros (n : Nat) : List Byte := List.replicate n 0

/-- n bytes from offset i, zero beyond the end. -/
def slice (bs : List Byte) (i n : Nat) : List Byte :=
  let t := (bs.drop i).take n
  t ++ zeros (n - t.length)

/-- A byte of a string, zero beyond the end. -/
def byteAt (bs : List Byte) (i : Nat) : Byte := bs.getD i 0

/-- The n-byte little-endian field at offset i. -/
def field (bs : List Byte) (i n : Nat) : Nat := leNat (slice bs i n)

/-- Bytes of a string, zero-filled or cut to n. -/
def fit (n : Nat) (bs : List Byte) : List Byte := slice bs 0 n

/-- Every byte is zero. -/
def allZero (bs : List Byte) : Bool := bs.all (fun b => b == 0)

/-- Put bytes into a string at offset i. -/
def splice (bs : List Byte) (i : Nat) (v : List Byte) : List Byte :=
  slice bs 0 i ++ v ++ bs.drop (i + v.length)

/-- The bytes of an ASCII text. -/
def ascii (t : String) : List Byte := t.toList.map (fun c => BitVec.ofNat 8 c.toNat)

/-- Bitwise exclusive or of two strings, as long as the shorter. -/
def xorB (a b : List Byte) : List Byte := List.zipWith (· ^^^ ·) a b

/-- Bit i of a number. -/
def bit (v i : Nat) : Bool := v.testBit i

/-- Bits [hi:lo] of a number. -/
def bits (v hi lo : Nat) : Nat := (v >>> lo) % 2 ^ (hi + 1 - lo)

/-- 1 for true. -/
def b2n (b : Bool) : Nat := if b then 1 else 0

/-- Difference modulo 2^32 (02 R47, R48). -/
def sub32 (a b : Nat) : Nat := (a % 2 ^ 32 + 2 ^ 32 - b % 2 ^ 32) % 2 ^ 32

/-- Difference modulo 2^48: all ASN arithmetic (02 R42). -/
def sub48 (a b : Nat) : Nat := (a % 2 ^ 48 + 2 ^ 48 - b % 2 ^ 48) % 2 ^ 48

/-- Sum modulo 2^48 (02 R42). -/
def add48 (a b : Nat) : Nat := (a + b) % 2 ^ 48

/-- A count that saturates at m. -/
def sat (m v : Nat) : Nat := min m v

/-- Quotient rounded up. -/
def cdiv (a b : Nat) : Nat := (a + b - 1) / b

/-- Blocks of n bytes, the last one possibly short; fuel bounds their number. -/
def chunksF (fuel n : Nat) (bs : List Byte) : List (List Byte) :=
  match fuel with
  | 0 => []
  | fuel + 1 => match bs with
    | [] => []
    | b :: r => (b :: r).take n :: chunksF fuel n ((b :: r).drop n)

/-- Blocks of n bytes, the last one possibly short. -/
def chunks (n : Nat) (bs : List Byte) : List (List Byte) := chunksF bs.length n bs

/-- The least of a list by a key, the first of equals. -/
def minBy {α : Type} (f : α → Nat) (l : List α) : Option α :=
  match l with
  | [] => none
  | x :: r => match minBy f r with
    | none => some x
    | some y => if f x ≤ f y then some x else some y

/-- Insert into a rising list without repeats. -/
def insertAsc (x : Nat) (l : List Nat) : List Nat :=
  match l with
  | [] => [x]
  | y :: r => if x < y then x :: y :: r else if x = y then y :: r else y :: insertAsc x r

/-- The next member of a rising list after position p, round robin. -/
def rrNext (p : Nat) (l : List Nat) : Option Nat :=
  match l.find? (fun x => decide (p < x)) with
  | some x => some x
  | none => l.head?

/-- The least number not among the listed ones, from k on. -/
def lowestFree (taken : List Nat) (k fuel : Nat) : Nat :=
  match fuel with
  | 0 => k
  | fuel + 1 => if taken.contains k then lowestFree taken (k + 1) fuel else k

/-- Replace the bit i of a number. -/
def setBit (v i : Nat) (b : Bool) : Nat :=
  if b then v ||| 2 ^ i else if v.testBit i then v - 2 ^ i else v

end Sys2Proof.Machine
end

