-- ==== Sys2Proof/Machine/Ops.lean ====
section
/-!
DEFINITION. The named reads and writes of the state: every meaning goes through them.
-/

namespace Sys2Proof.Machine

open Sys2Proof

/-- A command's effect t on s, the queue untouched: exec works on everything but the queue. -/
def done (s t : State) : Host.Outcome State Fault Refusal := .next { t with pending := s.pending }

/-- The same for a command that names unit n: a number the module does not have stops it. -/
def guardUnit (ok : Bool) (n : Nat) (s t : State) : Host.Outcome State Fault Refusal :=
  if ok then done s t else .fault (.noSuchUnit n)

/-- A queue pair number of the module (08 R244). -/
def qpOk (q : Nat) : Bool := decide (q < 16384)
/-- A partition number (00 R8). -/
def partOk (p : Nat) : Bool := decide (p < 4096)
/-- A tile number (01 R14). -/
def tileOk (t : Nat) : Bool := decide (t < 16)
/-- A quarter number (01 R14). -/
def quarterOk (q : Nat) : Bool := decide (q < 4)
/-- A virtual function number (02 R34). -/
def vfOk (n : Nat) : Bool := decide (1 ≤ n ∧ n ≤ 255)
/-- An Eloa core: script core 4 × tile + core, or 64 + m for management core m (01 R14). -/
def coreOk (c : Nat) : Bool := decide (c < 68)
/-- A management core. -/
def mgmtOk (c : Nat) : Bool := decide (c < 4)
/-- A script core. -/
def scriptOk (c : Nat) : Bool := decide (c < 64)
/-- A node of the management bus (10 R320). -/
def nodeOk (n : Nat) : Bool := decide (1 ≤ n ∧ n ≤ 127)

/-- Queue pair q. -/
def qpOf (s : State) (q : Nat) : Qp := tblGet Qp.reset s.qps q
/-- Write queue pair q. -/
def setQp (s : State) (q : Nat) (v : Qp) : State := { s with qps := tblSet s.qps q v }
/-- Change queue pair q. -/
def modQp (s : State) (q : Nat) (f : Qp → Qp) : State := setQp s q (f (qpOf s q))
/-- Quarter q. -/
def quarterOf (s : State) (q : Nat) : Quarter := tblGet Quarter.reset s.quarters q
/-- Change quarter q. -/
def modQuarter (s : State) (q : Nat) (f : Quarter → Quarter) : State :=
  { s with quarters := tblSet s.quarters q (f (quarterOf s q)) }
/-- Tile t. -/
def tileOf (s : State) (t : Nat) : Tile := tblGet Tile.reset s.tiles t
/-- Change tile t. -/
def modTile (s : State) (t : Nat) (f : Tile → Tile) : State := { s with tiles := tblSet s.tiles t (f (tileOf s t)) }
/-- Change public-key core k of tile t. -/
def modPke (s : State) (t k : Nat) (f : PkeCore → PkeCore) : State :=
  modTile s t (fun x => if k = 0 then { x with pke0 := f x.pke0 } else { x with pke1 := f x.pke1 })
/-- The stores of tile t. -/
def tmemOf (s : State) (t : Nat) : TileMem := tblGet TileMem.reset s.tmem t
/-- Change the stores of tile t. -/
def modTmem (s : State) (t : Nat) (f : TileMem → TileMem) : State := { s with tmem := tblSet s.tmem t (f (tmemOf s t)) }
/-- Partition p. -/
def partOf (s : State) (p : Nat) : Part := tblGet Part.reset s.parts p
/-- Change partition p. -/
def modPart (s : State) (p : Nat) (f : Part → Part) : State := { s with parts := tblSet s.parts p (f (partOf s p)) }
/-- Eloa core c. -/
def coreOf (s : State) (c : Nat) : EloaCore :=
  tblGet (if c < 64 then EloaCore.script else EloaCore.mgmt) s.cores c
/-- The script image area of the DDR5, the regions taken in the order of 01 R31 (log 35). -/
abbrev scriptAreaBase : Nat := 3 * 2 ^ 29

/-- A script's image is written to its place in the DDR5 (08 R268). -/
def storeImage (s : State) (x : Script) : State := { s with ddr := Memory.write s.ddr x.addr x.image }

/-- The images of every loaded script, from the NAND (08 R268). -/
def storeImages (s : State) : State := (s.parts.flatMap (fun x => x.2.scripts.map (fun y => y.2))).foldl storeImage s

/-- Change Eloa core c. -/
def modCore (s : State) (c : Nat) (f : EloaCore → EloaCore) : State :=
  { s with cores := tblSet s.cores c (f (coreOf s c)) }
/-- Event vector unit u: 0 to 15 of the tiles, 16 of the module. -/
def evuOf (s : State) (u : Nat) : Evu := tblGet Evu.reset s.evus u
/-- Change event vector unit u. -/
def modEvu (s : State) (u : Nat) (f : Evu → Evu) : State := { s with evus := tblSet s.evus u (f (evuOf s u)) }
/-- Change the host interface. -/
def modHif (s : State) (f : Hif → Hif) : State := { s with hif := f s.hif }
/-- Change the journal. -/
def modJournal (s : State) (f : Journal → Journal) : State := { s with journal := f s.journal }
/-- Change the vault. -/
def modVault (s : State) (f : Vault → Vault) : State := { s with vault := f s.vault }
/-- Change the recorder. -/
def modEvr (s : State) (f : Evr → Evr) : State := { s with evr := f s.evr }
/-- DRBG i: 0 to 3 of the quarters, 4 of the management complex. -/
def drbgOf (s : State) (i : Nat) : Drbg := tblGet Drbg.reset s.rng.drbg i
/-- Change DRBG i. -/
def modDrbg (s : State) (i : Nat) (f : Drbg → Drbg) : State :=
  { s with rng := { s.rng with drbg := tblSet s.rng.drbg i (f (drbgOf s i)) } }
/-- Change the vault's lines, on every device that works (07 R225, R227). -/
def modLines (s : State) (f : Tbl Line → Tbl Line) : State :=
  modVault s (fun v => { v with lines := f v.lines, linesA := if s.journal.devA then f v.linesA else v.linesA,
                                linesB := if s.journal.devB then f v.linesB else v.linesB })
/-- Send a message. -/
def send (s : State) (m : BusMsg) : State := { s with bus := m :: s.bus }
/-- A line of the vault. -/
def lineOf (s : State) (i : Nat) : Line := tblGet Line.reset s.vault.lines i
/-- The record in force of a physical slot: the working copy (07 R224). -/
def slotOf (s : State) (phys : Nat) : KeyRec := tblGet KeyRec.reset s.vault.slots phys

/-- Is e the entry of this descriptor? -/
def Entry.isOf (qp asn : Nat) (e : Entry) : Bool := decide (e.qp = qp ∧ e.asn = asn)
/-- The in-flight entry of ASN asn on queue pair qp (03 R74). -/
def entryOf (s : State) (qp asn : Nat) : Option Entry := s.entries.find? (Entry.isOf qp asn)
/-- Change the in-flight entry of a descriptor. -/
def modEntry (s : State) (qp asn : Nat) (f : Entry → Entry) : State :=
  { s with entries := s.entries.map (fun e => if e.isOf qp asn then f e else e) }
/-- Take a new in-flight entry. -/
def addEntry (s : State) (e : Entry) : State := { s with entries := s.entries ++ [e] }
/-- Free the in-flight entry of a descriptor. -/
def delEntry (s : State) (qp asn : Nat) : State :=
  { s with entries := s.entries.filter (fun e => !(e.isOf qp asn)) }
/-- The in-flight entries of a queue pair. -/
def entriesOfQp (s : State) (qp : Nat) : List Entry := s.entries.filter (fun e => decide (e.qp = qp))

/-- The number an object holds in the dictionary's store, or its default. -/
def objNat (s : State) (idx sub d : Nat) : Nat :=
  match tblFind s.dict.store (idx * 256 + sub) with
  | some v => leNat v
  | none => d
/-- The bytes an object holds, or n zero bytes. -/
def objBytes (s : State) (idx sub n : Nat) : List Byte :=
  match tblFind s.dict.store (idx * 256 + sub) with
  | some v => v
  | none => zeros n
/-- The management plane writes a partition's bounds into every unit again, with their shadows (12 R388, R389). -/
def pushBounds (s : State) (p : Nat) : State :=
  { s with tamper := { s.tamper with boundsBad := s.tamper.boundsBad.filter (fun x => x.2 != p) } }

/-- Store an object's value. -/
def setObj (s : State) (idx sub : Nat) (v : List Byte) : State :=
  { s with dict := { s.dict with store := tblSet s.dict.store (idx * 256 + sub) v } }
/-- Take an object back to its default. -/
def clearObj (s : State) (idx sub : Nat) : State :=
  { s with dict := { s.dict with store := tblErase s.dict.store (idx * 256 + sub) } }

/-- The next free value, and the state that has taken it (log 5). -/
def takeFree (s : State) : Nat × State := (Config.freeValue s.free, { s with free := s.free + 1 })

/-- A DRBG has output n bytes more: past 1 MiB since its last seed it asks for a reseed (13 R405). -/
def Drbg.outputs (d : Drbg) (n : Nat) : Drbg :=
  { d with out := d.out + n, wants := d.wants || decide (2 ^ 20 ≤ d.out + n) }

/-- n µs of a quarter instance that refills its 16 KiB buffer, at 1,000 MB/s, until 1 GiB unseeded (13 R398, R405). -/
def Drbg.refill (d : Drbg) (n : Nat) : Drbg :=
  if d.state = 1 ∧ d.filling then
    let b := min 16384 (d.buf + min (1000 * n) (2 ^ 30 - d.out))
    { d.outputs (b - d.buf) with buf := b, filling := decide (b < 16384) }
  else d

/-- Take n bytes: from the buffer as far as it holds them, a buffer below half full being refilled; the rest as it is
generated (13 R398). -/
def Drbg.take (d : Drbg) (n : Nat) : Drbg :=
  let b := d.buf - n
  { d.outputs (n - d.buf) with buf := b, filling := d.filling || decide (b < 8192), drawn := d.drawn + n }

/-- n bytes of DRBG i (13 R398). -/
def drawBytes (s : State) (i n : Nat) : List Byte × State :=
  ((List.range n).map (fun k => Config.randomByte i ((drbgOf s i).drawn + k)), modDrbg s i (fun d => d.take n))

/-- Send an MSI-X message of a function, or set its pending bit while the vector is masked (02 R70). -/
def sendMsix (s : State) (func vec : Nat) : State :=
  let e := tblGet { addr := 0, data := 0, masked := true, pending := false } s.hif.msix (func * 2048 + vec)
  if e.masked then
    modHif s (fun h => { h with msix := tblSet h.msix (func * 2048 + vec) { e with pending := true } })
  else send s (.msix func vec)

/-- Set bit i of HIF_ADM_ISR; an enabled bit sends PF0 vector 0 (02 R53, R70). DESIGN CHOICE: the message goes at the event;
enabling a bit that is already 1 sends none (log 79). -/
def raiseIsr (s : State) (i : Nat) : State :=
  let t := modHif s (fun h => { h with isr := h.isr ||| BitVec.ofNat 8 (2 ^ i) })
  if s.hif.ier.getLsbD i then sendMsix t 0 0 else t

/-- HIF_LINK_STS (02 R53). -/
def linkSts (s : State) : Nat := s.hif.speed + 16 * s.hif.width + 1024 * b2n s.hif.degraded

/-- Tile t is in service: enabled, unfenced and running, and its quarter has not failed (01 R22; 15 R436). -/
def inService (s : State) (t : Nat) : Bool :=
  (tileOf s t).enable && !(tileOf s t).fenced && (tileOf s t).power == 0 && !(quarterOf s (t / 4)).failed

/-- The tiles of quarter q in service, in order. -/
def tilesOf (s : State) (q : Nat) : List Nat := ((List.range 4).map (fun i => 4 * q + i)).filter (inService s)

/-- The quarters in service: not failed (01 R16). -/
def quartersUp (s : State) : List Nat := (List.range 4).filter (fun q => !(quarterOf s q).failed)

/-- The life-cycle state value in force, 0 to 6 (11 R366): the majority of the three voted registers, SCRAP where no two
agree. -/
def lifeCycle (s : State) : Nat :=
  let l := s.life
  if l.regA = l.regB ∨ l.regA = l.regC then l.regA.toNat
  else if l.regB = l.regC then l.regB.toNat
  else 6

/-- Queue pairs of partition p homed on quarter q. -/
def homedIn (s : State) (p q : Nat) : List Nat :=
  (partOf s p).qps.filter (fun x => decide ((qpOf s x).home = q))

/-- The home quarters of partition p, in order. -/
def homesOf (s : State) (p : Nat) : List Nat :=
  (List.range 4).filter (fun q => !(homedIn s p q).isEmpty)

/-- OPER of partition p in quarter q; a quarter that holds none takes ADMIN (08 R254, R259). -/
def operIn (s : State) (p q : Nat) : Nat := tblGet (partOf s p).admin (partOf s p).oper q

/-- The effective state that quarter q applies (08 R254). -/
def effectiveIn (s : State) (p q : Nat) : Nat := max (partOf s p).admin (operIn s p q)

/-- OPER as HIF_PART_STATE and PART_OPER report it: of the lowest-numbered home quarter (08 R254). -/
def operOf (s : State) (p : Nat) : Nat :=
  match homesOf s p with
  | [] => (partOf s p).admin
  | q :: _ => operIn s p q

/-- The partition-wide effective state: ADMIN or the highest OPER (08 R254). -/
def effectiveOf (s : State) (p : Nat) : Nat :=
  (homesOf s p).foldl (fun m q => max m (operIn s p q)) (partOf s p).admin

/-- Accepted descriptors of partition p not yet completed (02 R54). -/
def inflightOf (s : State) (p : Nat) : Nat :=
  (s.entries.filter (fun e => decide ((qpOf s e.qp).partition = p))).length

/-- The ring depth D of a queue pair (02 R41). -/
def depthOf (q : Qp) : Nat := 2 ^ q.depthLog2

/-- The PASID a queue pair's DMA carries (02 R36). -/
def pasidOf (q : Qp) : Option Nat := if q.pasidEn then some q.pasid else none

/-- Count a discarded doorbell write of a live page and set DB_ERR where the rule says so (02 R46, R47). -/
def badDoorbell (s : State) (q : Nat) (err : Bool) : State :=
  let t := modQp s q (fun x => { x with badDb := sat 0xFFFF (x.badDb + 1), dbErr := x.dbErr || err })
  if err then raiseIsr t 6 else t

/-- A write to a page that is not live is discarded and counted (02 R39). -/
def strayDoorbell (s : State) : State :=
  modHif s (fun h => { h with strayDb := sat (2 ^ 32 - 1) (h.strayDb + 1), strayTotal := (h.strayTotal + 1) % 2 ^ 32 })

/-- The queue pair a doorbell page serves, while the page is live (02 R39). A removed partition's pages are discarded
into by their meanings, not here (08 R260). DESIGN CHOICE: of two assigned queue pairs with one FUNC and VF_PAGE, which R51
bars from being enabled together, the page serves the lowest-numbered one, enabled or not (log 79). -/
def pageQp (s : State) (pg : DbPage) : Option Nat :=
  match pg with
  | .pf0 q => if (qpOf s q).assigned ∧ (qpOf s q).func = 0 ∧ q < 16384 then some q else none
  | .vf n j =>
    ((s.qps.find? (fun x => decide (x.2.assigned ∧ x.2.func = n ∧ x.2.vfPage = j ∧ n ≠ 0))).map (fun x => x.1))

/-- ATS is in use for a function: enabled in its ATS capability and by HIF_GLOBAL_CTL.ATS_USE (02 R37). -/
def atsOn (s : State) (func : Nat) : Bool := s.hif.atsUse && tblGet false s.hif.ats func

/-- A queue pair is about to use an address: while ATS is in use for its function, a page without a translation in the cache of
2,048 entries has one requested, and the translation comes to the front (02 R36, R37). -/
def useAtc (s : State) (q : Qp) (addr : Nat) : State :=
  let e : AtcEntry := { func := q.func, pasid := pasidOf q, page := addr / 4096 }
  if atsOn s q.func then
    let t := if s.hif.atc.contains e then s else send s (.translate e.func e.pasid e.page)
    modHif t (fun h => { h with atc := (e :: h.atc.filter (fun x => x != e)).take 2048 })
  else s

/-- Cut n bytes from an address on into requests of at most limit bytes that cross no 4 KiB boundary: the PCI Express rule
(02 R33; log 79). fuel bounds their number. -/
def cutDma (fuel limit addr n : Nat) : List (Nat × Nat) :=
  match fuel with
  | 0 => []
  | fuel + 1 =>
    if n = 0 then []
    else
      let k := min n (min (max 1 limit) (4096 - addr % 4096))
      (addr, k) :: cutDma fuel limit (addr + k) (n - k)

/-- The header of a request of a queue pair (02 R33, R35 to R37): no-snoop is never set. -/
def dmaHdr (s : State) (q : Qp) (addr : Nat) (relaxed : Bool) : DmaHdr :=
  { func := q.func, pasid := pasidOf q, addr := addr, relaxed := relaxed, noSnoop := false, translated := atsOn s q.func,
    tag := 0 }

/-- Send the reads that wait while fewer than 512 are outstanding, in order, each with the lowest free tag of 10 bits (02 R33). -/
def pumpReads (s : State) (l : List HostRead) : State :=
  match l with
  | [] => modHif s (fun h => { h with readWait := [] })
  | r :: rest =>
    if s.hif.reads.length < 512 then
      let x := { r with hdr := { r.hdr with tag := lowestFree (s.hif.reads.map (fun y => y.hdr.tag)) 0 1024 } }
      pumpReads (send (modHif s (fun h => { h with reads := h.reads ++ [x] })) (.read x.hdr x.len)) rest
    else modHif s (fun h => { h with readWait := r :: rest })

/-- Read n bytes of host memory for a queue pair, in requests of at most the size the host programmed (02 R33). -/
def sendRead (s : State) (qp : Nat) (asn : Option Nat) (addr n : Nat) : State :=
  let q := qpOf s qp
  let one (u : State) (x : Nat × Nat) : State :=
    let t := useAtc u q x.1
    modHif t (fun h => { h with readWait := h.readWait ++ [{ qp := qp, asn := asn, hdr := dmaHdr t q x.1 false, len := x.2 }] })
  let t := (cutDma n s.hif.maxRead addr n).foldl one s
  pumpReads t t.hif.readWait

/-- A read belongs to a descriptor, or to the fetching of a queue pair. -/
def HostRead.isOf (qp : Nat) (asn : Option Nat) (r : HostRead) : Bool := decide (r.qp = qp ∧ r.asn = asn)

/-- The reads of a descriptor, or of a queue pair's fetch, have all been sent (02 R33). -/
def readsSent (s : State) (qp : Nat) (asn : Option Nat) : Bool := !s.hif.readWait.any (HostRead.isOf qp asn)

/-- No request that uses the translation of a page of a function still waits to be issued (02 R37). -/
def pageIdle (s : State) (x : Nat × Nat) : Bool :=
  !s.hif.readWait.any (fun r => r.hdr.translated && r.hdr.func == x.1 && r.hdr.addr / 4096 == x.2)

/-- Complete the invalidations whose requests have all been issued, in order (02 R37). -/
def settleInvals (s : State) : State :=
  let t := (s.hif.invals.filter (pageIdle s)).foldl (fun u x => send u (.atsDone x.1 x.2)) s
  modHif t (fun h => { h with invals := h.invals.filter (fun x => !pageIdle s x) })

/-- The reads of a descriptor, or of a queue pair's fetch, have returned: their tags are free, and reads that waited go out. -/
def readsBack (s : State) (qp : Nat) (asn : Option Nat) : State :=
  let t := modHif s (fun h => { h with reads := h.reads.filter (fun r => !r.isOf qp asn),
                                       readWait := h.readWait.filter (fun r => !r.isOf qp asn) })
  settleInvals (pumpReads t t.hif.readWait)

/-- One of the 512 places of outstanding non-posted requests is free (02 R33). -/
def readPlace (s : State) : Bool := decide (s.hif.reads.length < 512)

/-- The same for reads that return one after the other within the command that sends them: each takes a place that is free, and gives
it back (02 R33). -/
def readThrough (s : State) (q : Qp) (addr n : Nat) : State :=
  (cutDma n s.hif.maxRead addr n).foldl (fun u x =>
    let t := useAtc u q x.1
    let h := dmaHdr t q x.1 false
    send t (.read { h with tag := lowestFree (t.hif.reads.map (fun y => y.hdr.tag)) 0 1024 } x.2)) s

/-- Write bytes to host memory for a queue pair, in requests of at most the payload the host programmed; relaxed ordering is set
only on output data (02 R33). -/
def sendWrite (s : State) (q : Qp) (addr : Nat) (data : List Byte) (relaxed : Bool) : State :=
  (cutDma data.length s.hif.maxPayload addr data.length).foldl (fun u x =>
    let t := useAtc u q x.1
    send t (.write (dmaHdr t q x.1 relaxed) ((data.drop (x.1 - addr)).take x.2))) s

/-- TAIL of HIF_DB_SQ_TAIL: until the host has written it after a reset it is not below the published head (02 R46, R49). -/
def tailReg (q : Qp) : Nat :=
  if q.tailWritten ∨ sub32 q.tail q.wm ≤ depthOf q then q.tail else q.wm % 2 ^ 32

/-- HEAD of HIF_DB_CQ_HEAD: until the host has written it after a reset it reads as the published head (02 R46, R49). -/
def headReg (q : Qp) : Nat := if q.headWritten then q.cqHead else q.wm % 2 ^ 32

/-- HIF_DB_NEXT_ASN (02 R46): after a reset it equals the published head until the driver has written both doorbells again
(R49). -/
def nextAsnReg (q : Qp) : Nat := if q.tailWritten ∧ q.headWritten then q.next else q.wm

/-- A page that a function of the module has (02 R39). -/
def pageOk (pg : DbPage) : Bool :=
  match pg with
  | .pf0 q => decide (q < 16384)
  | .vf n j => decide (1 ≤ n ∧ n ≤ 255 ∧ j < 64)

/-- OK (02 R69). -/
abbrev stOk : Nat := 0x0000

/-- A completion that carries a status alone (02 R68). -/
def Cpl.fail (status detail : Nat) : Cpl :=
  { status := status, detail := detail, result := [], out := [], outLen := 0, cflags := 0 }

/-- A completion with STATUS OK and an inline result. -/
def Cpl.ok (result : List Byte) : Cpl :=
  { status := stOk, detail := 0, result := result, out := [], outLen := 0, cflags := 0 }

end Sys2Proof.Machine
end

