-- ==== Sys2Proof/Machine/Operands.lean ====
section
/-!
DEFINITION. The operand forms: a descriptor's fields, its segment lists and input bytes (02 R57 to R62), and the fields
of a key handle (07 R213).
-/

namespace Sys2Proof.Machine

open Sys2Proof

/-- CMD (02 R57). -/
def dCmd (d : List Byte) : Nat := field d 0x00 2
/-- The class byte of CMD (02 R63). -/
def dClass (d : List Byte) : Nat := dCmd d / 256
/-- DFLAGS (02 R58). -/
def dFlags (d : List Byte) : Nat := field d 0x02 2
/-- DFLAGS.SGL. -/
def dSgl (d : List Byte) : Bool := bit (dFlags d) 0
/-- DFLAGS.NO_IRQ. -/
def dNoIrq (d : List Byte) : Bool := bit (dFlags d) 1
/-- DFLAGS.FENCE. -/
def dFence (d : List Byte) : Bool := bit (dFlags d) 2
/-- IN_LEN. -/
def dInLen (d : List Byte) : Nat := field d 0x04 1
/-- CLIENT_TAG. -/
def dTag (d : List Byte) : List Byte := slice d 0x08 8
/-- The deadline in µs, 0 for none. -/
def dDeadline (d : List Byte) : Nat := field d 0x10 3
/-- KEY0 to KEY3. -/
def dKey (d : List Byte) (k : Nat) : Nat := field d (0x18 + 8 * k) 8
/-- The descriptor offset of key field k. -/
def dKeyOff (k : Nat) : Nat := 0x18 + 8 * k
/-- CMD_PARAM as its 8 bytes. -/
def dParam (d : List Byte) : List Byte := slice d 0x38 8
/-- CMD_PARAM as a number. -/
def dParamN (d : List Byte) : Nat := field d 0x38 8
/-- Inline input of a descriptor with SGL = 0. -/
def dInline (d : List Byte) : List Byte := slice d 0x40 (dInLen d)
/-- IN_LIST (02 R60). -/
def dInList (d : List Byte) : Nat := field d 0x40 8
/-- IN_COUNT. -/
def dInCount (d : List Byte) : Nat := field d 0x48 2
/-- IN_TOTAL. -/
def dInTotal (d : List Byte) : Nat := field d 0x4C 4
/-- OUT_LIST. -/
def dOutList (d : List Byte) : Nat := field d 0x50 8
/-- OUT_COUNT. -/
def dOutCount (d : List Byte) : Nat := field d 0x58 2
/-- OUT_TOTAL. -/
def dOutTotal (d : List Byte) : Nat := field d 0x5C 4
/-- AUX. -/
def dAux (d : List Byte) : List Byte := slice d 0x60 32

/-- The partition field of a handle (07 R213). -/
def hPart (h : Nat) : Nat := bits h 63 52
/-- The slot index of a handle. -/
def hSlot (h : Nat) : Nat := bits h 51 30
/-- The generation of a handle. -/
def hGen (h : Nat) : Nat := bits h 29 14
/-- The check field of a handle. -/
def hCheck (h : Nat) : Nat := bits h 13 0
/-- A handle from its fields. -/
def mkHandle (p slot gen check : Nat) : Nat := p * 2 ^ 52 + slot * 2 ^ 30 + gen * 2 ^ 14 + check

/-- The physical slot of slot index i of a partition: its extents joined in the order they were given (07 R222). -/
def physOf (s : State) (p i : Nat) : Option Nat :=
  match (partOf s p).extents[i / 512]? with
  | some e => some (e * 512 + i % 512)
  | none => none

/-- The pieces of an output string as the entries of a segment list take it, from the first byte on (02 R60). -/
def spread (outs : List Seg) (bs : List Byte) : List (Nat × List Byte) :=
  match outs with
  | [] => []
  | g :: r => if bs.isEmpty then [] else (g.addr, bs.take g.len) :: spread r (bs.drop g.len)

/-- Reserved or out-of-range fields of a descriptor that lie in it, by their first offset: check 1 of 02 R62 but for the
command's own SGL rule. A descriptor's reserved bytes are named by their own offset, not by that of the field of 02 R57 they complete:
bits [31:24] of DEADLINE by 0x13 (DESIGN CHOICE, log 79). -/
def formatError (d : List Byte) : Option Nat :=
  if 8 ≤ dFlags d then some 0x02
  else if 64 < dInLen d ∨ (dSgl d ∧ dInLen d ≠ 0) then some 0x04
  else if field d 0x05 3 ≠ 0 then some 0x05
  else if field d 0x13 1 ≠ 0 then some 0x13
  else if field d 0x14 4 ≠ 0 then some 0x14
  else if !dSgl d then none
  else if dInList d % 16 ≠ 0 ∨ (dInCount d = 0 ∧ dInList d ≠ 0) then some 0x40
  else if 256 < dInCount d then some 0x48
  else if field d 0x4A 2 ≠ 0 then some 0x4A
  else if 16777216 < dInTotal d ∨ (dInCount d = 0 ∧ dInTotal d ≠ 0) ∨ (dInCount d ≠ 0 ∧ dInTotal d = 0) then some 0x4C
  else if dOutList d % 16 ≠ 0 ∨ (dOutCount d = 0 ∧ dOutList d ≠ 0) then some 0x50
  else if 256 < dOutCount d then some 0x58
  else if field d 0x5A 2 ≠ 0 then some 0x5A
  else if 16777216 < dOutTotal d ∨ (dOutCount d = 0 ∧ dOutTotal d ≠ 0) ∨ (dOutCount d ≠ 0 ∧ dOutTotal d = 0) then
    some 0x5C
  else none

/-- What the reads of the lists and the input data give: check 6 of 02 R62. A read error names its segment; an entry
with reserved bytes names its list; a sum that misses the total, an entry outside 1 to 16 MiB, or data of another length
is LENGTH_ERROR. R60 gives an entry's range and no status for one outside it (DESIGN CHOICE, log 79). -/
def checkLists (d : List Byte) (r : ReadResult) : Except (Nat × Nat) Operands :=
  match r with
  | .error g => .error (0x0007, g)
  | .lists ins outs data =>
    if ins.any (fun g => g.rsvd != 0) then .error (0x0003, 0x40)
    else if outs.any (fun g => g.rsvd != 0) then .error (0x0003, 0x50)
    else if (ins ++ outs).any (fun g => decide (g.len < 1 ∨ 16777216 < g.len)) then .error (0x0009, 0)
    else if ins.length ≠ dInCount d ∨ outs.length ≠ dOutCount d then .error (0x0009, 0)
    else if (ins.map (fun g => g.len)).sum ≠ dInTotal d ∨ (outs.map (fun g => g.len)).sum ≠ dOutTotal d then
      .error (0x0009, 0)
    else if data.length ≠ dInTotal d then .error (0x0009, 0)
    else .ok { ins := ins, outs := outs, data := data }

end Sys2Proof.Machine
end

