-- ==== Sys2Proof/Machine/Commands.lean ====
section
/-!
DEFINITION. The dispatcher's command table: which codes are defined, whether a descriptor is SE, which SGL values it
may take, its largest output M, and its PKE cost (02 R63; 05 R133, R134; 06 R180, R192, R197, R201; 08 R265, R273;
11 R375; 13 R406).
-/

namespace Sys2Proof.Machine

open Sys2Proof

/-- The SGL values a command permits. -/
inductive SglRule where
  | zero
  | one
  | either
  deriving DecidableEq, Repr

/-- A row of the command table. m is M; keyWrite marks a command that may write a key record (07 R229); nonce one that
takes a hardware nonce (06 R182); mutField the key field of the mutable record it changes (05 R139). -/
structure CmdRow where
  code     : Nat
  se       : Bool
  sgl      : SglRule
  m        : Nat
  keyWrite : Bool
  nonce    : Bool
  mutField : Option Nat
  deriving DecidableEq, Repr

/-- A pure command's row. -/
def CmdRow.pure (code : Nat) (sgl : SglRule) : CmdRow :=
  { code := code, se := false, sgl := sgl, m := 0, keyWrite := false, nonce := false, mutField := none }

/-- An SE command's row. -/
def CmdRow.sideEff (code : Nat) (sgl : SglRule) (m : Nat) (keyWrite : Bool) : CmdRow :=
  { code := code, se := true, sgl := sgl, m := m, keyWrite := keyWrite, nonce := false, mutField := none }

/-- Class 0x01 (06 R180, R181). -/
def rowsSym : List CmdRow :=
  [.pure 0x0101 .either, .pure 0x0102 .either, .pure 0x0103 .either, .pure 0x0104 .either, .pure 0x0105 .either,
   { CmdRow.sideEff 0x0106 .either 8192 false with nonce := true },
   { CmdRow.sideEff 0x0107 .one 8192 false with nonce := true },
   .pure 0x0108 .one, .pure 0x0111 .either, .pure 0x0112 .either, .pure 0x0113 .either, .pure 0x0114 .either]

/-- Classes 0x02 to 0x06 (05 R133), as they are without their condition. -/
def rowsPay : List CmdRow :=
  [.pure 0x0201 .either, .pure 0x0202 .zero, .pure 0x0203 .zero, .pure 0x0204 .zero, .pure 0x0205 .zero,
   .pure 0x0301 .zero, .pure 0x0302 .either, .pure 0x0303 .either, .pure 0x0304 .one, .pure 0x0305 .one,
   .sideEff 0x0306 .one 256 false] ++
  [.pure 0x0401 .either, .pure 0x0402 .either, .pure 0x0403 .either, .pure 0x0404 .either, .pure 0x0410 .either,
   .pure 0x0411 .either, .pure 0x0420 .either, .pure 0x0421 .either, .pure 0x0501 .either, .pure 0x0502 .either,
   .pure 0x0503 .zero, .pure 0x0504 .either, .pure 0x0601 .zero, .pure 0x0602 .zero]

/-- Classes 0x07 and 0x0C (05 R133). -/
def rowsKey : List CmdRow :=
  [.sideEff 0x0701 .one 0 true, .sideEff 0x0702 .one 1024 false, .sideEff 0x0703 .one 1024 true,
   .sideEff 0x0710 .one 8192 false, .sideEff 0x0711 .one 0 true,
   { CmdRow.sideEff 0x0C01 .zero 0 true with mutField := some 0 },
   { CmdRow.sideEff 0x0C02 .zero 0 true with mutField := some 0 }, .pure 0x0C03 .zero,
   { CmdRow.sideEff 0x0C04 .zero 0 true with mutField := some 0 },
   { CmdRow.sideEff 0x0C10 .one 104 true with mutField := some 0 }, .pure 0x0C11 .one]

/-- Classes 0x08 and 0x09 (06 R201), as they are without their condition. -/
def rowsPke : List CmdRow :=
  [.pure 0x0801 .one, .pure 0x0802 .one, .sideEff 0x0803 .one 512 false, .pure 0x0804 .one, .pure 0x0810 .one,
   .pure 0x0811 .one, .sideEff 0x0812 .one 0 true, .pure 0x0820 .one, .pure 0x0821 .one,
   .sideEff 0x0830 .one 1024 true, .pure 0x0831 .one, .sideEff 0x0832 .one 0 true] ++
  [.sideEff 0x0901 .one 1568 true, .sideEff 0x0902 .one 0 true, .pure 0x0910 .one, .pure 0x0911 .one, .pure 0x0920 .one,
   .sideEff 0x0930 .one 2592 true, .pure 0x0931 .one, .sideEff 0x0932 .one 0 true]

/-- Classes 0x0A, 0x0B, 0x0E and 0x0F (13 R406; 06 R192; 11 R375; 08 R273). -/
def rowsRest : List CmdRow :=
  [.sideEff 0x0A01 .either 8192 false, .pure 0x0B01 .either, .pure 0x0B02 .either, .pure 0x0B03 .either,
   .pure 0x0B11 .either, .pure 0x0B12 .either, .pure 0x0B13 .either, .pure 0x0B21 .either, .pure 0x0B22 .either,
   .pure 0x0E01 .one, .pure 0x0E02 .one, .pure 0x0F01 .zero, .pure 0x0F02 .zero, .sideEff 0x0F10 .zero 0 true,
   { CmdRow.sideEff 0x0F11 .zero 0 true with mutField := some 0 }, .pure 0x0F12 .zero]

/-- Every command code of the fixed classes. -/
def cmdRows : List CmdRow := rowsSym ++ rowsPay ++ rowsKey ++ rowsPke ++ rowsRest

/-- Whether a command that is SE under a condition is SE, from the descriptor alone (05 R134, R146; 06 R201). -/
def seByDesc (d : List Byte) : Bool :=
  let p := dParamN d
  let c := dCmd d
  if c = 0x0201 then bits p 2 0 != bits p 6 4 && bits p 6 4 != 0
  else if c = 0x0202 ∨ c = 0x0203 then dKey d 3 != 0
  else if c = 0x0801 then bits p 9 8 == 1
  else if c = 0x0810 ∨ c = 0x0910 then bit p 10
  else false

/-- What a condition adds to a row when it holds: the largest output and the record it may write. -/
def condRow (r : CmdRow) : CmdRow :=
  if r.code = 0x0202 ∨ r.code = 0x0203 then { r with se := true, keyWrite := true, mutField := some 3 }
  else if r.code = 0x0801 then { r with se := true, m := 512 }
  else if r.code = 0x0810 then { r with se := true, m := 96 }
  else if r.code = 0x0910 then { r with se := true, m := 4627 }
  else { r with se := true }

/-- The row of a class 0x0D invocation of partition p: SE and M come from the dispatcher's copy of the slot's header; an
empty slot is pure (08 R265). -/
def scriptRow (s : State) (p n : Nat) : CmdRow :=
  match tblFind (partOf s p).scripts n with
  | some x =>
    { CmdRow.pure (0x0D00 + n) .either with se := bit x.flags 0, m := if bit x.flags 0 then x.maxOut else 0 }
  | none => CmdRow.pure (0x0D00 + n) .either

/-- The row of a descriptor's command for a queue pair of partition p, or none for a code that is not defined
(02 R62 check 2). -/
def rowOf (s : State) (p : Nat) (d : List Byte) : Option CmdRow :=
  let c := dCmd d
  if 0x0D01 ≤ c ∧ c ≤ 0x0D40 then some (scriptRow s p (c - 0x0D00))
  else match cmdRows.find? (fun r => r.code == c) with
    | none => none
    | some r =>
      if seByDesc d then some (condRow r)
      else if c = 0x0A01 then some { r with m := if dSgl d then bits (dParamN d) 13 0 else 0 }
      else some r

/-- Does the row permit the descriptor's SGL value? -/
def sglOk (r : CmdRow) (d : List Byte) : Bool :=
  match r.sgl with
  | .zero => !dSgl d
  | .one => dSgl d
  | .either => true

/-- Tokens by parameter set, none listed costing none. -/
def costOf (t : List (Nat × Nat)) (k : Nat) : Nat := ((t.find? (fun x => x.1 == k)).map (fun x => x.2)).getD 0

/-- The PKE tokens of a class 0x08 or 0x09 descriptor (06 R197). -/
def pkeCost (d : List Byte) : Nat :=
  let k := bits (dParamN d) 3 0
  let c := dCmd d
  if c = 0x0801 ∨ c = 0x0804 then costOf [(0, 212), (1, 622), (2, 1452)] k
  else if c = 0x0802 ∨ c = 0x0803 then costOf [(0, 8), (1, 14), (2, 23)] k
  else if c = 0x0810 then costOf [(4, 64), (5, 140)] k
  else if c = 0x0811 then costOf [(4, 82), (5, 182)] k
  else if c = 0x0812 then costOf [(4, 60), (5, 134)] k
  else if c = 0x0820 then costOf [(8, 49)] k
  else if c = 0x0821 then costOf [(8, 102)] k
  else if c = 0x0830 then costOf [(0, 24002), (1, 80002), (2, 190002), (4, 60), (5, 134), (8, 47)] k
  else if c = 0x0901 then costOf [(0, 19), (1, 28), (2, 39)] k
  else if c = 0x0902 then costOf [(0, 22), (1, 32), (2, 44)] k
  else if c = 0x0910 then costOf [(4, 118), (5, 168), (6, 238)] k
  else if c = 0x0911 then costOf [(4, 36), (5, 51), (6, 80)] k
  else if c = 0x0920 then costOf [(8, 147), (9, 57), (10, 402), (11, 154)] k
  else if c = 0x0930 then costOf [(0, 16), (1, 24), (2, 34), (4, 47), (5, 72), (6, 107)] k
  else 0

/-- The journal records an SE descriptor reserves (04 R118). -/
def recordsFor (m : Nat) : Nat := 1 + cdiv m 112

/-- The matching-store entries a descriptor declares: 16 for a tenant script, else the command table's fixed count of at
most 16 (03 R87). -/
def declaredFor (c : Nat) : Nat :=
  if 0x0D01 ≤ c ∧ c ≤ 0x0D40 then 16 else max 1 (min 16 (Config.declaredCount c))

/-- Commands that run from a step template and use no script core (03 R83). -/
def isTemplate (c : Nat) : Bool := c / 256 == 0x01 || c / 256 == 0x04 || c / 256 == 0x0B || c / 256 == 0x0E

end Sys2Proof.Machine
end

