-- ==== Sys2Proof/Machine/Crc.lean ====
section
/-!
DEFINITION. The CRC steps of 09 R296, and CRC-32C as the journal and the recorder use it (04 R116, 14 R411).
-/

namespace Sys2Proof.Machine

open Sys2Proof

/-- The low w bits of v in reverse order. -/
def revBits (w v : Nat) : Nat :=
  (List.range w).foldl (fun r i => 2 * r + b2n (v.testBit i)) 0

/-- One bit step of the forward model (09 R296). -/
def crcBitFwd (w p crc : Nat) (b : Bool) : Nat :=
  let fb := crc.testBit (w - 1) != b
  let x := (crc <<< 1) % 2 ^ w
  if fb then x ^^^ p else x

/-- One bit step of the reflected model; p is the reversed polynomial (09 R296). -/
def crcBitRef (p crc : Nat) (b : Bool) : Nat :=
  let fb := crc.testBit 0 != b
  let x := crc >>> 1
  if fb then x ^^^ p else x

/-- The eight bit steps over one data byte (09 R296). -/
def crcByte (w p : Nat) (reflect : Bool) (crc : Nat) (d : Byte) : Nat :=
  if reflect then
    (List.range 8).foldl (fun c i => crcBitRef (revBits w p) c (d.getLsbD i)) (crc % 2 ^ w)
  else
    (List.range 8).foldl (fun c i => crcBitFwd w (p % 2 ^ w) c (d.getLsbD (7 - i))) (crc % 2 ^ w)

/-- CRC-32C of a byte string: initial value and final exclusive or all ones (09 R296, PRESET 2). -/
def crc32c (bs : List Byte) : Nat :=
  bs.foldl (crcByte 32 0x1EDC6F41 true) 0xFFFFFFFF ^^^ 0xFFFFFFFF

end Sys2Proof.Machine
end

