-- ==== Sys2Proof/Machine/Evu.lean ====
section
/-!
DEFINITION. The windows of an Eloa core and the event vector units: pending, selection and delivery (09 R283, R284,
R307 to R316).
-/

namespace Sys2Proof.Machine

open Sys2Proof

/-- Frame k of a core reads as zero (09 R283). -/
def zeroFrame (c : EloaCore) (k : Nat) : EloaCore :=
  { c with win := (List.range 8).foldl (fun w i => tblErase w (8 * k + i)) c.win }

/-- Core cycles are counted in ELQ_CYCLE, and those of a descriptor against its budget (09 R280, 08 R270). -/
def addCycles (c : EloaCore) (n : Nat) : EloaCore :=
  { c with ctl := { c.ctl with cycle := c.ctl.cycle + BitVec.ofNat 32 n, budget := c.ctl.budget - n } }

/-- The window moves up by n frames: the frames that come into view read as zero, and frames beyond the 16 resident
ones are spilled at 16 cycles each (09 R283, R284). -/
def slideUp (c : EloaCore) (n : Nat) : EloaCore :=
  let f := c.f + n
  let c1 := if n = 1 then zeroFrame c (f + 1) else zeroFrame (zeroFrame c f) (f + 1)
  let b := max c.b (f + 2 - 16)
  addCycles { c1 with f := f, b := b } (16 * (b - c.b))

/-- The window moves down by n frames; a frame below B is refilled at 16 cycles (09 R283, R284). -/
def slideDown (c : EloaCore) (n : Nat) : EloaCore :=
  let f := c.f - n
  addCycles { c with f := f, b := min c.b f } (16 * (c.b - f))

/-- ELQ_FLAGS (09 R280). -/
def flagsWord (k : CoreCtl) : Word :=
  BitVec.ofNat 32 (b2n k.z + 2 * b2n k.n + 4 * b2n k.c + 8 * b2n k.v + 16 * b2n k.dz)

/-- Write the flags of ELQ_FLAGS (09 R280). -/
def setFlagsWord (k : CoreCtl) (w : Word) : CoreCtl :=
  { k with z := w.getLsbD 0, n := w.getLsbD 1, c := w.getLsbD 2, v := w.getLsbD 3, dz := w.getLsbD 4 }

/-- Sources of the module unit that have TARGET M0, PRIO 15 and MASK 0 (09 R316). -/
def fixedSources : List Nat := [0x00, 0x01, 0x02, 0x03, 0x04, 0x08, 0x0C, 0x69, 0x88, 0x89, 0x8A, 0x8B]

/-- A source the unit never sees pending: not listed in R315 or R316. -/
def sourceListed (u src : Nat) : Bool :=
  if u < 16 then decide (src < 0x0C ∨ (0x20 ≤ src ∧ src < 0x40))
  else decide (src < 0x05 ∨ (0x08 ≤ src ∧ src ≤ 0x0D) ∨ (0x10 ≤ src ∧ src ≤ 0x6C ∧ src ≠ 0x6D) ∨
    (0x70 ≤ src ∧ src ≤ 0x74) ∨ (0x78 ≤ src ∧ src ≤ 0x7A) ∨ (0x80 ≤ src ∧ src ≤ 0x83) ∨
    (0x88 ≤ src ∧ src ≤ 0x8B) ∨ (0xE0 ≤ src ∧ src ≤ 0xFF))

/-- The software sources: set only through EVU_PEND_SET (09 R315, R316). -/
def softSource (u src : Nat) : Bool := if u < 16 then decide (0x20 ≤ src) else decide (0xE0 ≤ src)

/-- The configuration of source src of unit u: the fixed sources hold their fixed values (09 R308, R316). -/
def srcOf (s : State) (u src : Nat) : EvuSrc :=
  let c := tblGet EvuSrc.reset (evuOf s u).cfg src
  if u = 16 ∧ src ∈ fixedSources then { c with mask := false, prio := 15, target := 0 } else c

/-- The per-core registers of core k (0 to 3) of unit u; S3's EVU_THRESH reads 15 (09 R307, R309). -/
def evuCoreOf (s : State) (u k : Nat) : EvuCore := tblGet EvuCore.reset (evuOf s u).cores k

/-- Change the per-core registers of core k of unit u. -/
def modEvuCore (s : State) (u k : Nat) (f : EvuCore → EvuCore) : State :=
  modEvu s u (fun e => { e with cores := tblSet e.cores k (f (tblGet EvuCore.reset e.cores k)) })

/-- The core that unit u numbers k: a script core of the tile or a management core (09 R307). -/
def coreOfUnit (u k : Nat) : Nat := if u < 16 then 4 * u + k else 64 + k

/-- Does source src qualify for core k (09 R311)? RUNPRI 31 counts below every priority. -/
def qualifies (s : State) (u k src : Nat) : Bool :=
  let e := evuOf s u
  let c := srcOf s u src
  let r := evuCoreOf s u k
  e.pend.contains src && !c.mask && !e.active.contains src && c.target == k && decide (c.prio > r.thresh) &&
    (r.runpri == 31 || decide (c.prio > r.runpri))

/-- The source selected for core k: the highest PRIO, then the lowest number (09 R311). -/
def selectSource (s : State) (u k : Nat) : Option Nat :=
  minBy (fun x => (15 - (srcOf s u x).prio) * 256 + x) ((evuOf s u).pend.filter (qualifies s u k))

/-- Is the level of a level source asserted (09 R308, R310)? -/
def levelOn (c : EvuSrc) : Bool := (c.sense == 0 && c.level) || (c.sense == 1 && !c.level)

/-- Commit a delivery in the unit: PEND clears but for a level that holds, ACTIVE sets, RUNPRI and EVU_CUR are loaded
(09 R312). -/
def commitDelivery (s : State) (u k src : Nat) : State :=
  let c := srcOf s u src
  let t := modEvu s u (fun e =>
    { e with pend := if levelOn c then e.pend else e.pend.filter (· != src), active := insertAsc src e.active })
  modEvuCore t u k (fun r => { r with runpri := c.prio, cur := src })

/-- The in-flight entry of the descriptor that a script core runs. -/
def coreEntry (s : State) (c : Nat) : Option Entry :=
  match (coreOf s c).desc with
  | some (q, a) => entryOf s q a
  | none => none

/-- An event of source src of unit u, seen as an edge, makes it pending: a pulse crosses as a toggle (09 R307, R310). A level sense or a
sense that is never pending takes no edge. -/
def pendEdge (s : State) (u src : Nat) : State :=
  let c := srcOf s u src
  if sourceListed u src ∧ 2 ≤ c.sense ∧ c.sense ≤ 4 then modEvu s u (fun e => { e with pend := insertAsc src e.pend }) else s

/-- The timer sources of a script core that fire since they were last looked at: TIMER where its cycle count has reached ELQ_TCMP, BUDGET
where 90% of a budget of b cycles is used (09 R280, R315). -/
def timersDue (k : EloaCore) (i : Nat) (b : Option Nat) : List Nat :=
  let gone := (k.ctl.cycle - k.seenCycle).toNat
  let left := (k.ctl.tcmp - k.seenCycle).toNat
  let low (x y : Nat) : Bool := decide (10 * y ≤ x)
  (if left ≠ 0 ∧ left ≤ gone then [4 + i] else []) ++
    (if b.any (fun x => low x k.ctl.budget && !low x k.seenBudget) then [8 + i] else [])

/-- The timers of a script core are looked at: those that fire become pending (09 R315). -/
def lookTimers (s : State) (c : Nat) : State :=
  if 64 ≤ c then s
  else
    let k := coreOf s c
    (timersDue k (c % 4) ((coreEntry s c).map (fun e => e.budget))).foldl (fun t n => pendEdge t (c / 4) n)
      (modCore s c (fun k => { k with seenCycle := k.ctl.cycle, seenBudget := k.ctl.budget }))

/-- A core may take a delivery now: it runs, has a descriptor where it is a script core, and does not wait at END, whose wait holds the
commit (09 R291, R304, R307, R312). -/
def takesDelivery (s : State) (u k : Nat) : Bool :=
  let c := coreOf s (coreOfUnit u k)
  !(decide (u < 16) && (k == 3 || c.desc.isNone)) && !c.stopped && c.dbg == 0 && (match c.wait with
    | .endAt _ => false
    | _ => true)

/-- The source that is delivered to core k of unit u now, if there is one (09 R311, R312). -/
def deliverable (s : State) (u k : Nat) : Option Nat := if takesDelivery s u k then selectSource s u k else none

/-- Deliver the selected source to core k of unit u, if there is one: the core pushes its context, slides the window
and goes to the vector; a wait is abandoned and its word is executed again after IRET (09 R291, R312). The cycles of a spill count (R280,
R315). -/
def deliver (s : State) (u k : Nat) : State :=
  let n := coreOfUnit u k
  let c := coreOf s n
  match deliverable s u k with
  | none => s
  | some src =>
    let r := evuCoreOf s u k
    let x : ICtx := { pc := c.pc, flags := flagsWord c.ctl, f := c.f, runpri := r.runpri, source := src }
    let t := commitDelivery s u k src
    lookTimers (modCore t n (fun c => slideUp
      { c with ictx := x :: c.ictx, wait := .none, pc := r.vbase + BitVec.ofNat 32 (16 * src) } 2)) n

/-- Deliver to the cores of unit u until nothing is deliverable; n bounds the deliveries. -/
def deliverMany (s : State) (u n : Nat) : State :=
  match n with
  | 0 => s
  | n + 1 =>
    match (List.range 4).find? (fun k => (deliverable s u k).isSome) with
    | none => s
    | some k => deliverMany (deliver s u k) u n

/-- Deliver to every core of unit u what is now deliverable: each of the 4 cores holds at most 15 interrupts and a fault (09 R311). -/
def deliverAll (s : State) (u : Nat) : State := deliverMany s u 64

/-- An event of source src of unit u, and what it delivers (09 R310 to R312). -/
def raiseSource (s : State) (u src : Nat) : State := deliverAll (pendEdge s u src) u

/-- The timers of core c are looked at, and what fires is delivered (09 R315). -/
def coreTimers (s : State) (c : Nat) : State := if 64 ≤ c then s else deliverAll (lookTimers s c) (c / 4)

/-- A core's registers in its unit once the descriptor that it ran has left it: no handler is active, and those that were have ended (09
R309; log 39). -/
def endHandlers (s : State) (c : Nat) : State :=
  let gone := (coreOf s c).ictx.map (fun x => x.source)
  modEvuCore (modEvu s (c / 4) (fun e => { e with active := e.active.filter (fun y => !gone.contains y) })) (c / 4) (c % 4)
    (fun r => { r with runpri := 31, cur := 0 })

/-- Raise a source of the module unit (09 R316). -/
def raiseModule (s : State) (src : Nat) : State := raiseSource s 16 src

end Sys2Proof.Machine
end

