-- ==== Sys2Proof/Machine/Aes.lean ====
section
/-!
DEFINITION. AES (06 R180), after FIPS 197 (log 16). The S-box is computed as that standard defines it: the inverse in
GF(2^8), then the affine map.
-/

namespace Sys2Proof.Machine

open Sys2Proof

/-- Multiplication by x in GF(2^8). -/
def xtime (b : Byte) : Byte := if b.getLsbD 7 then (b <<< 1) ^^^ 0x1B else b <<< 1

/-- Multiplication in GF(2^8): bits of b from the top. -/
def gmul (a b : Byte) : Byte :=
  (List.range 8).foldl (fun r i => xtime r ^^^ (if b.getLsbD (7 - i) then a else 0)) 0

/-- x^254: the inverse, and 0 for 0. -/
def ginv (x : Byte) : Byte :=
  let x2 := gmul x x
  let x3 := gmul x2 x
  let x6 := gmul x3 x3
  let x12 := gmul x6 x6
  let x15 := gmul x12 x3
  let x30 := gmul x15 x15
  let x60 := gmul x30 x30
  let x120 := gmul x60 x60
  let x126 := gmul x120 x6
  let x127 := gmul x126 x
  gmul x127 x127

/-- The S-box. -/
def sbox (x : Byte) : Byte :=
  let b := ginv x
  b ^^^ b.rotateLeft 1 ^^^ b.rotateLeft 2 ^^^ b.rotateLeft 3 ^^^ b.rotateLeft 4 ^^^ 0x63

/-- The inverse S-box. -/
def invSbox (y : Byte) : Byte := ginv (y.rotateLeft 1 ^^^ y.rotateLeft 3 ^^^ y.rotateLeft 6 ^^^ 0x05)

/-- Round constant of index i, from 1. -/
def rcon (i : Nat) : Byte := (List.range (i - 1)).foldl (fun r _ => xtime r) 1

/-- The key schedule, words of 4 bytes, newest first: n more words with i made so far. -/
def aesExpand (nk : Nat) (n i : Nat) (ws : List (List Byte)) : List (List Byte) :=
  match n with
  | 0 => ws
  | n + 1 =>
    let t := ws.headD []
    let t' :=
      if i % nk = 0 then xorB ((t.drop 1 ++ t.take 1).map sbox) [rcon (i / nk), 0, 0, 0]
      else if 6 < nk ∧ i % nk = 4 then t.map sbox
      else t
    aesExpand nk n (i + 1) (xorB (ws.getD (nk - 1) []) t' :: ws)

/-- The round keys of a 16-, 24- or 32-byte key. -/
def aesKeys (k : List Byte) : List (List Byte) :=
  let nk := k.length / 4
  let ws := (aesExpand nk (4 * (nk + 7) - nk) nk (chunks 4 k).reverse).reverse
  chunks 16 ws.flatten

/-- Byte i of the block after ShiftRows: column by column. -/
def shiftRows (b : List Byte) : List Byte := (List.range 16).map (fun i => byteAt b ((i + 4 * (i % 4)) % 16))

/-- The inverse of ShiftRows. -/
def invShiftRows (b : List Byte) : List Byte := (List.range 16).map (fun i => byteAt b ((i + 12 * (i % 4)) % 16))

/-- One column times the circulant of four coefficients. -/
def mixWith (c : List Byte) (b : List Byte) : List Byte :=
  (List.range 16).map (fun i => (List.range 4).foldl (fun v j =>
    v ^^^ gmul (byteAt b (i / 4 * 4 + j)) (byteAt c ((j + 4 - i % 4) % 4))) 0)

/-- MixColumns. -/
def mixColumns (b : List Byte) : List Byte := mixWith [2, 3, 1, 1] b
/-- The inverse of MixColumns. -/
def invMixColumns (b : List Byte) : List Byte := mixWith [14, 11, 13, 9] b

/-- The middle rounds and the last one. -/
def aesRounds (ks : List (List Byte)) (b : List Byte) : List Byte :=
  match ks with
  | [] => b
  | [k] => xorB (shiftRows (b.map sbox)) k
  | k :: r => aesRounds r (xorB (mixColumns (shiftRows (b.map sbox))) k)

/-- The inverse rounds, the round keys from the last. -/
def aesInvRounds (ks : List (List Byte)) (b : List Byte) : List Byte :=
  match ks with
  | [] => b
  | [k] => xorB ((invShiftRows b).map invSbox) k
  | k :: r => aesInvRounds r (invMixColumns (xorB ((invShiftRows b).map invSbox) k))

/-- AES encipherment of one block. -/
def aesEnc (key b : List Byte) : List Byte :=
  match aesKeys key with
  | [] => b
  | k :: r => aesRounds r (xorB b k)

/-- AES decipherment of one block. -/
def aesDec (key b : List Byte) : List Byte :=
  match (aesKeys key).reverse with
  | [] => b
  | k :: r => aesInvRounds r (xorB b k)

end Sys2Proof.Machine
end

