-- ==== Sys2Proof/Machine/Des.lean ====
section
/-!
DEFINITION. DES and TDES (06 R180), after FIPS 46-3 (log 16). Bits are numbered 1 from the left, as that standard does.
-/

namespace Sys2Proof.Machine

open Sys2Proof

/-- Permuted choice 1. -/
def desPc1 : List Nat :=
  [57, 49, 41, 33, 25, 17, 9, 1, 58, 50, 42, 34, 26, 18, 10, 2, 59, 51, 43, 35, 27, 19, 11, 3, 60, 52, 44, 36, 63, 55, 47, 39] ++
  [31, 23, 15, 7, 62, 54, 46, 38, 30, 22, 14, 6, 61, 53, 45, 37, 29, 21, 13, 5, 28, 20, 12, 4]

/-- Permuted choice 2. -/
def desPc2 : List Nat :=
  [14, 17, 11, 24, 1, 5, 3, 28, 15, 6, 21, 10, 23, 19, 12, 4, 26, 8, 16, 7, 27, 20, 13, 2, 41, 52, 31, 37, 47, 55, 30, 40] ++
  [51, 45, 33, 48, 44, 49, 39, 56, 34, 53, 46, 42, 50, 36, 29, 32]

/-- Initial permutation. -/
def desIp : List Nat :=
  [58, 50, 42, 34, 26, 18, 10, 2, 60, 52, 44, 36, 28, 20, 12, 4, 62, 54, 46, 38, 30, 22, 14, 6, 64, 56, 48, 40, 32, 24, 16, 8] ++
  [57, 49, 41, 33, 25, 17, 9, 1, 59, 51, 43, 35, 27, 19, 11, 3, 61, 53, 45, 37, 29, 21, 13, 5, 63, 55, 47, 39, 31, 23, 15, 7]

/-- Inverse of the initial permutation. -/
def desFp : List Nat :=
  [40, 8, 48, 16, 56, 24, 64, 32, 39, 7, 47, 15, 55, 23, 63, 31, 38, 6, 46, 14, 54, 22, 62, 30, 37, 5, 45, 13, 53, 21, 61, 29] ++
  [36, 4, 44, 12, 52, 20, 60, 28, 35, 3, 43, 11, 51, 19, 59, 27, 34, 2, 42, 10, 50, 18, 58, 26, 33, 1, 41, 9, 49, 17, 57, 25]

/-- Expansion. -/
def desE : List Nat :=
  [32, 1, 2, 3, 4, 5, 4, 5, 6, 7, 8, 9, 8, 9, 10, 11, 12, 13, 12, 13, 14, 15, 16, 17, 16, 17, 18, 19, 20, 21, 20, 21] ++
  [22, 23, 24, 25, 24, 25, 26, 27, 28, 29, 28, 29, 30, 31, 32, 1]

/-- Permutation after the S-boxes. -/
def desP : List Nat :=
  [16, 7, 20, 21, 29, 12, 28, 17, 1, 15, 23, 26, 5, 18, 31, 10, 2, 8, 24, 14, 32, 27, 3, 9, 19, 13, 30, 6, 22, 11, 4, 25]

/-- S-box 1, its four rows joined. -/
def desS1 : List Nat :=
  [14, 4, 13, 1, 2, 15, 11, 8, 3, 10, 6, 12, 5, 9, 0, 7, 0, 15, 7, 4, 14, 2, 13, 1, 10, 6, 12, 11, 9, 5, 3, 8] ++
  [4, 1, 14, 8, 13, 6, 2, 11, 15, 12, 9, 7, 3, 10, 5, 0, 15, 12, 8, 2, 4, 9, 1, 7, 5, 11, 3, 14, 10, 0, 6, 13]

/-- S-box 2, its four rows joined. -/
def desS2 : List Nat :=
  [15, 1, 8, 14, 6, 11, 3, 4, 9, 7, 2, 13, 12, 0, 5, 10, 3, 13, 4, 7, 15, 2, 8, 14, 12, 0, 1, 10, 6, 9, 11, 5] ++
  [0, 14, 7, 11, 10, 4, 13, 1, 5, 8, 12, 6, 9, 3, 2, 15, 13, 8, 10, 1, 3, 15, 4, 2, 11, 6, 7, 12, 0, 5, 14, 9]

/-- S-box 3, its four rows joined. -/
def desS3 : List Nat :=
  [10, 0, 9, 14, 6, 3, 15, 5, 1, 13, 12, 7, 11, 4, 2, 8, 13, 7, 0, 9, 3, 4, 6, 10, 2, 8, 5, 14, 12, 11, 15, 1] ++
  [13, 6, 4, 9, 8, 15, 3, 0, 11, 1, 2, 12, 5, 10, 14, 7, 1, 10, 13, 0, 6, 9, 8, 7, 4, 15, 14, 3, 11, 5, 2, 12]

/-- S-box 4, its four rows joined. -/
def desS4 : List Nat :=
  [7, 13, 14, 3, 0, 6, 9, 10, 1, 2, 8, 5, 11, 12, 4, 15, 13, 8, 11, 5, 6, 15, 0, 3, 4, 7, 2, 12, 1, 10, 14, 9] ++
  [10, 6, 9, 0, 12, 11, 7, 13, 15, 1, 3, 14, 5, 2, 8, 4, 3, 15, 0, 6, 10, 1, 13, 8, 9, 4, 5, 11, 12, 7, 2, 14]

/-- S-box 5, its four rows joined. -/
def desS5 : List Nat :=
  [2, 12, 4, 1, 7, 10, 11, 6, 8, 5, 3, 15, 13, 0, 14, 9, 14, 11, 2, 12, 4, 7, 13, 1, 5, 0, 15, 10, 3, 9, 8, 6] ++
  [4, 2, 1, 11, 10, 13, 7, 8, 15, 9, 12, 5, 6, 3, 0, 14, 11, 8, 12, 7, 1, 14, 2, 13, 6, 15, 0, 9, 10, 4, 5, 3]

/-- S-box 6, its four rows joined. -/
def desS6 : List Nat :=
  [12, 1, 10, 15, 9, 2, 6, 8, 0, 13, 3, 4, 14, 7, 5, 11, 10, 15, 4, 2, 7, 12, 9, 5, 6, 1, 13, 14, 0, 11, 3, 8] ++
  [9, 14, 15, 5, 2, 8, 12, 3, 7, 0, 4, 10, 1, 13, 11, 6, 4, 3, 2, 12, 9, 5, 15, 10, 11, 14, 1, 7, 6, 0, 8, 13]

/-- S-box 7, its four rows joined. -/
def desS7 : List Nat :=
  [4, 11, 2, 14, 15, 0, 8, 13, 3, 12, 9, 7, 5, 10, 6, 1, 13, 0, 11, 7, 4, 9, 1, 10, 14, 3, 5, 12, 2, 15, 8, 6] ++
  [1, 4, 11, 13, 12, 3, 7, 14, 10, 15, 6, 8, 0, 5, 9, 2, 6, 11, 13, 8, 1, 4, 10, 7, 9, 5, 0, 15, 14, 2, 3, 12]

/-- S-box 8, its four rows joined. -/
def desS8 : List Nat :=
  [13, 2, 8, 4, 6, 15, 11, 1, 10, 9, 3, 14, 5, 0, 12, 7, 1, 15, 13, 8, 10, 3, 7, 4, 12, 5, 6, 11, 0, 14, 9, 2] ++
  [7, 11, 4, 1, 9, 12, 14, 2, 0, 6, 10, 13, 15, 3, 5, 8, 2, 1, 14, 7, 4, 10, 8, 13, 15, 12, 9, 0, 3, 5, 6, 11]

/-- The eight S-boxes. -/
def desS : List (List Nat) := [desS1, desS2, desS3, desS4, desS5, desS6, desS7, desS8]

/-- The keys' rotations by round. -/
def desShifts : List Nat := [1, 1, 2, 2, 2, 2, 2, 2, 1, 2, 2, 2, 2, 2, 2, 1]

/-- Select bits of an n-bit number by a table. -/
def desPick (t : List Nat) (n v : Nat) : Nat := t.foldl (fun r i => 2 * r + b2n (v.testBit (n - i))) 0

/-- Rotate 28 bits left. -/
def rotl28 (v k : Nat) : Nat := (v * 2 ^ k + v / 2 ^ (28 - k)) % 2 ^ 28

/-- The sixteen round keys, from the halves C and D. -/
def desRoundKeys (shifts : List Nat) (c d : Nat) : List Nat :=
  match shifts with
  | [] => []
  | k :: r =>
    let c' := rotl28 c k
    let d' := rotl28 d k
    desPick desPc2 56 (c' * 2 ^ 28 + d') :: desRoundKeys r c' d'

/-- The round function. -/
def desF (r k : Nat) : Nat :=
  let x := desPick desE 32 r ^^^ k
  let y := (List.range 8).foldl (fun v i =>
    let b := (x >>> (42 - 6 * i)) % 64
    16 * v + (desS.getD i []).getD ((b / 32 * 2 + b % 2) * 16 + b / 2 % 16) 0) 0
  desPick desP 32 y

/-- DES over a 64-bit block with round keys in the order given. -/
def desRounds (keys : List Nat) (b : Nat) : Nat :=
  let x := desPick desIp 64 b
  let (l, r) := keys.foldl (fun (l, r) k => (r, l ^^^ desF r k)) (x / 2 ^ 32, x % 2 ^ 32)
  desPick desFp 64 (r * 2 ^ 32 + l)

/-- The round keys of an 8-byte key. -/
def desKeys (k : List Byte) : List Nat :=
  let x := desPick desPc1 64 (beNat k)
  desRoundKeys desShifts (x / 2 ^ 28) (x % 2 ^ 28)

/-- DES encipherment of one block. -/
def desEnc (k b : List Byte) : List Byte := beBytes 8 (desRounds (desKeys k) (beNat b))
/-- DES decipherment of one block. -/
def desDec (k b : List Byte) : List Byte := beBytes 8 (desRounds (desKeys k).reverse (beNat b))

/-- The three keys of a 16- or 24-byte TDES key. -/
def tdesKeys (k : List Byte) : List Byte × List Byte × List Byte :=
  (slice k 0 8, slice k 8 8, if k.length = 24 then slice k 16 8 else slice k 0 8)

/-- TDES encipherment of one block. -/
def tdesEnc (k b : List Byte) : List Byte :=
  let (k1, k2, k3) := tdesKeys k
  desEnc k3 (desDec k2 (desEnc k1 b))
/-- TDES decipherment of one block. -/
def tdesDec (k b : List Byte) : List Byte :=
  let (k1, k2, k3) := tdesKeys k
  desDec k1 (desEnc k2 (desDec k3 b))

/-- A byte with odd parity set in its last bit. -/
def oddParity (b : Byte) : Byte :=
  let n := (List.range 7).foldl (fun c i => c + b2n (b.getLsbD (i + 1))) 0
  if n % 2 = 0 then b ||| 1 else b &&& 0xFE

end Sys2Proof.Machine
end

