-- ==== Sys2Proof/Machine/Keccak.lean ====
section
/-!
DEFINITION. SHA-3 and SHAKE (the hash unit's Keccak functions, 06 R189, R192), after FIPS 202 (log 16).
-/

namespace Sys2Proof.Machine

open Sys2Proof

/-- Lane (x, y) of the state, 25 lanes in order x + 5y. -/
def lane (a : List (BitVec 64)) (x y : Nat) : BitVec 64 := a.getD (x % 5 + 5 * (y % 5)) 0

/-- The state made lane by lane. -/
def keccakMap (f : Nat → Nat → BitVec 64) : List (BitVec 64) := (List.range 25).map (fun i => f (i % 5) (i / 5))

/-- Rotation offsets in order x + 5y. -/
def keccakRot : List Nat :=
  [0, 1, 62, 28, 27, 36, 44, 6, 55, 20, 3, 10, 43, 25, 39, 41, 45, 15, 21, 8, 18, 2, 61, 56, 14]

/-- One step of the round-constant register (x^8 + x^6 + x^5 + x^4 + 1). -/
def keccakLfsr (r : Nat) : Nat := let t := 2 * r; if t < 256 then t else (t - 256) ^^^ 0x71

/-- The round-constant bit after t steps. -/
def keccakRc (t : Nat) : Bool := ((List.range t).foldl (fun r _ => keccakLfsr r) 1).testBit 0

/-- The round constant of round i. -/
def keccakIota (i : Nat) : BitVec 64 :=
  BitVec.ofNat 64 ((List.range 7).foldl (fun v j => if keccakRc (j + 7 * i) then v + 2 ^ (2 ^ j - 1) else v) 0)

/-- One round of Keccak-f[1600]. -/
def keccakRound (a : List (BitVec 64)) (i : Nat) : List (BitVec 64) :=
  let c := (List.range 5).map (fun x => lane a x 0 ^^^ lane a x 1 ^^^ lane a x 2 ^^^ lane a x 3 ^^^ lane a x 4)
  let d := (List.range 5).map (fun x => c.getD ((x + 4) % 5) 0 ^^^ (c.getD ((x + 1) % 5) 0).rotateLeft 1)
  let th := keccakMap (fun x y => lane a x y ^^^ d.getD x 0)
  let b := keccakMap (fun x y =>
    let u := (x + 3 * y) % 5
    (lane th u x).rotateLeft (keccakRot.getD (u + 5 * x) 0))
  let ch := keccakMap (fun x y => lane b x y ^^^ (~~~ (lane b (x + 1) y) &&& lane b (x + 2) y))
  match ch with
  | [] => []
  | l :: r => (l ^^^ keccakIota i) :: r

/-- Keccak-f[1600]. -/
def keccakF (a : List (BitVec 64)) : List (BitVec 64) := (List.range 24).foldl keccakRound a

/-- A block as lanes, zero beyond its end. -/
def lanesOf (bs : List Byte) : List (BitVec 64) := (List.range 25).map (fun i => BitVec.ofNat 64 (field bs (8 * i) 8))

/-- The state as bytes. -/
def laneBytes (a : List (BitVec 64)) : List Byte := a.flatMap (fun l => leBytes 8 l.toNat)

/-- Absorb a padded message of rate r. -/
def keccakAbsorb (r : Nat) (m : List Byte) : List (BitVec 64) :=
  (chunks r m).foldl (fun a b => keccakF (List.zipWith (· ^^^ ·) a (lanesOf b))) (List.replicate 25 0)

/-- Squeeze n blocks of r bytes. -/
def keccakSqueeze (r n : Nat) (a : List (BitVec 64)) : List Byte :=
  match n with
  | 0 => []
  | n + 1 => (laneBytes a).take r ++ keccakSqueeze r n (keccakF a)

/-- The padded message: domain bits, then pad10*1 to a whole block. -/
def keccakPad (r : Nat) (dom : Byte) (m : List Byte) : List Byte :=
  let k := r - m.length % r
  m ++ (if k = 1 then [dom ||| 0x80] else [dom] ++ zeros (k - 2) ++ [0x80])

/-- A sponge of rate r with domain byte dom and n output bytes. -/
def sponge (r : Nat) (dom : Byte) (m : List Byte) (n : Nat) : List Byte :=
  (keccakSqueeze r (cdiv n r) (keccakAbsorb r (keccakPad r dom m))).take n

/-- SHA3-256. -/
def sha3_256 (m : List Byte) : List Byte := sponge 136 0x06 m 32
/-- SHA3-384. -/
def sha3_384 (m : List Byte) : List Byte := sponge 104 0x06 m 48
/-- SHA3-512. -/
def sha3_512 (m : List Byte) : List Byte := sponge 72 0x06 m 64
/-- SHAKE128 with n output bytes. -/
def shake128 (m : List Byte) (n : Nat) : List Byte := sponge 168 0x1F m n
/-- SHAKE256 with n output bytes. -/
def shake256 (m : List Byte) (n : Nat) : List Byte := sponge 136 0x1F m n

end Sys2Proof.Machine
end

