-- ==== Sys2Proof/Machine/Sha2.lean ====
section
/-!
DEFINITION. SHA-2 (06 R189, R192), after FIPS 180-4 (log 16).
-/

namespace Sys2Proof.Machine

open Sys2Proof

/-- Round constants of SHA-256. -/
def sha256K : List (BitVec 32) :=
  [0x428A2F98, 0x71374491, 0xB5C0FBCF, 0xE9B5DBA5, 0x3956C25B, 0x59F111F1, 0x923F82A4, 0xAB1C5ED5,
   0xD807AA98, 0x12835B01, 0x243185BE, 0x550C7DC3, 0x72BE5D74, 0x80DEB1FE, 0x9BDC06A7, 0xC19BF174] ++
  [0xE49B69C1, 0xEFBE4786, 0x0FC19DC6, 0x240CA1CC, 0x2DE92C6F, 0x4A7484AA, 0x5CB0A9DC, 0x76F988DA,
   0x983E5152, 0xA831C66D, 0xB00327C8, 0xBF597FC7, 0xC6E00BF3, 0xD5A79147, 0x06CA6351, 0x14292967] ++
  [0x27B70A85, 0x2E1B2138, 0x4D2C6DFC, 0x53380D13, 0x650A7354, 0x766A0ABB, 0x81C2C92E, 0x92722C85,
   0xA2BFE8A1, 0xA81A664B, 0xC24B8B70, 0xC76C51A3, 0xD192E819, 0xD6990624, 0xF40E3585, 0x106AA070] ++
  [0x19A4C116, 0x1E376C08, 0x2748774C, 0x34B0BCB5, 0x391C0CB3, 0x4ED8AA4A, 0x5B9CCA4F, 0x682E6FF3,
   0x748F82EE, 0x78A5636F, 0x84C87814, 0x8CC70208, 0x90BEFFFA, 0xA4506CEB, 0xBEF9A3F7, 0xC67178F2]

/-- Round constants of SHA-384 and SHA-512. -/
def sha512K : List (BitVec 64) :=
  [0x428A2F98D728AE22, 0x7137449123EF65CD, 0xB5C0FBCFEC4D3B2F, 0xE9B5DBA58189DBBC,
   0x3956C25BF348B538, 0x59F111F1B605D019, 0x923F82A4AF194F9B, 0xAB1C5ED5DA6D8118,
   0xD807AA98A3030242, 0x12835B0145706FBE, 0x243185BE4EE4B28C, 0x550C7DC3D5FFB4E2,
   0x72BE5D74F27B896F, 0x80DEB1FE3B1696B1, 0x9BDC06A725C71235, 0xC19BF174CF692694] ++
  [0xE49B69C19EF14AD2, 0xEFBE4786384F25E3, 0x0FC19DC68B8CD5B5, 0x240CA1CC77AC9C65,
   0x2DE92C6F592B0275, 0x4A7484AA6EA6E483, 0x5CB0A9DCBD41FBD4, 0x76F988DA831153B5,
   0x983E5152EE66DFAB, 0xA831C66D2DB43210, 0xB00327C898FB213F, 0xBF597FC7BEEF0EE4,
   0xC6E00BF33DA88FC2, 0xD5A79147930AA725, 0x06CA6351E003826F, 0x142929670A0E6E70] ++
  [0x27B70A8546D22FFC, 0x2E1B21385C26C926, 0x4D2C6DFC5AC42AED, 0x53380D139D95B3DF,
   0x650A73548BAF63DE, 0x766A0ABB3C77B2A8, 0x81C2C92E47EDAEE6, 0x92722C851482353B,
   0xA2BFE8A14CF10364, 0xA81A664BBC423001, 0xC24B8B70D0F89791, 0xC76C51A30654BE30,
   0xD192E819D6EF5218, 0xD69906245565A910, 0xF40E35855771202A, 0x106AA07032BBD1B8] ++
  [0x19A4C116B8D2D0C8, 0x1E376C085141AB53, 0x2748774CDF8EEB99, 0x34B0BCB5E19B48A8,
   0x391C0CB3C5C95A63, 0x4ED8AA4AE3418ACB, 0x5B9CCA4F7763E373, 0x682E6FF3D6B2B8A3,
   0x748F82EE5DEFB2FC, 0x78A5636F43172F60, 0x84C87814A1F0AB72, 0x8CC702081A6439EC,
   0x90BEFFFA23631E28, 0xA4506CEBDE82BDE9, 0xBEF9A3F7B2C67915, 0xC67178F2E372532B] ++
  [0xCA273ECEEA26619C, 0xD186B8C721C0C207, 0xEADA7DD6CDE0EB1E, 0xF57D4F7FEE6ED178,
   0x06F067AA72176FBA, 0x0A637DC5A2C898A6, 0x113F9804BEF90DAE, 0x1B710B35131C471B,
   0x28DB77F523047D84, 0x32CAAB7B40C72493, 0x3C9EBE0A15C9BEBC, 0x431D67C49C100D4C,
   0x4CC5D4BECB3E42B6, 0x597F299CFC657E2A, 0x5FCB6FAB3AD6FAEC, 0x6C44198C4A475817]

/-- Initial value of SHA-256. -/
def sha256H : List (BitVec 32) :=
  [0x6A09E667, 0xBB67AE85, 0x3C6EF372, 0xA54FF53A, 0x510E527F, 0x9B05688C, 0x1F83D9AB, 0x5BE0CD19]

/-- Initial value of SHA-512. -/
def sha512H : List (BitVec 64) :=
  [0x6A09E667F3BCC908, 0xBB67AE8584CAA73B, 0x3C6EF372FE94F82B, 0xA54FF53A5F1D36F1,
   0x510E527FADE682D1, 0x9B05688C2B3E6C1F, 0x1F83D9ABFB41BD6B, 0x5BE0CD19137E2179]

/-- Initial value of SHA-384. -/
def sha384H : List (BitVec 64) :=
  [0xCBBB9D5DC1059ED8, 0x629A292A367CD507, 0x9159015A3070DD17, 0x152FECD8F70E5939,
   0x67332667FFC00B31, 0x8EB44A8768581511, 0xDB0C2E0D64F98FA7, 0x47B5481DBEFA4FA4]

/-- The rotation and shift counts of one word size. -/
structure ShaRot where
  e1 : Nat
  e2 : Nat
  e3 : Nat
  a1 : Nat
  a2 : Nat
  a3 : Nat
  s1 : Nat
  s2 : Nat
  s3 : Nat
  t1 : Nat
  t2 : Nat
  t3 : Nat

/-- Counts for 32-bit words. -/
def rot32 : ShaRot :=
  { e1 := 6, e2 := 11, e3 := 25, a1 := 2, a2 := 13, a3 := 22, s1 := 7, s2 := 18, s3 := 3, t1 := 17, t2 := 19, t3 := 10 }

/-- Counts for 64-bit words. -/
def rot64 : ShaRot :=
  { e1 := 14, e2 := 18, e3 := 41, a1 := 28, a2 := 34, a3 := 39, s1 := 1, s2 := 8, s3 := 7, t1 := 19, t2 := 61, t3 := 6 }

/-- The next schedule word from the last sixteen, the newest first. -/
def shaNext {w : Nat} (r : ShaRot) (l : List (BitVec w)) : BitVec w :=
  let x := l.getD 14 0
  let y := l.getD 1 0
  (y.rotateRight r.t1 ^^^ y.rotateRight r.t2 ^^^ (y >>> r.t3)) + l.getD 6 0 +
    (x.rotateRight r.s1 ^^^ x.rotateRight r.s2 ^^^ (x >>> r.s3)) + l.getD 15 0

/-- Extend a schedule, newest first, by n words. -/
def shaExtend {w : Nat} (r : ShaRot) (n : Nat) (l : List (BitVec w)) : List (BitVec w) :=
  match n with
  | 0 => l
  | n + 1 => shaExtend r n (shaNext r l :: l)

/-- One round on the eight working words. -/
def shaRound {w : Nat} (r : ShaRot) (v : List (BitVec w)) (kw : BitVec w) : List (BitVec w) :=
  match v with
  | [a, b, c, d, e, f, g, h] =>
    let t1 := h + (e.rotateRight r.e1 ^^^ e.rotateRight r.e2 ^^^ e.rotateRight r.e3) + ((e &&& f) ^^^ (~~~ e &&& g)) + kw
    let t2 := (a.rotateRight r.a1 ^^^ a.rotateRight r.a2 ^^^ a.rotateRight r.a3) +
      ((a &&& b) ^^^ (a &&& c) ^^^ (b &&& c))
    [t1 + t2, a, b, c, d + t1, e, f, g]
  | _ => v

/-- Compress one block. -/
def shaBlock {w : Nat} (r : ShaRot) (k : List (BitVec w)) (h : List (BitVec w)) (b : List Byte) : List (BitVec w) :=
  let m := (chunks (w / 8) b).map (fun x => BitVec.ofNat w (beNat x))
  let sched := (shaExtend r (k.length - 16) m.reverse).reverse
  List.zipWith (· + ·) h ((List.zipWith (· + ·) k sched).foldl (shaRound r) h)

/-- The message padded to whole blocks of n bytes with an l-byte length. -/
def shaPad (n l : Nat) (m : List Byte) : List Byte :=
  let k := (m.length + 1 + l) % n
  m ++ [0x80] ++ zeros (if k = 0 then 0 else n - k) ++ beBytes l (8 * m.length)

/-- SHA-256. -/
def sha256 (m : List Byte) : List Byte :=
  ((chunks 64 (shaPad 64 8 m)).foldl (shaBlock rot32 sha256K) sha256H).flatMap (fun x => beBytes 4 x.toNat)

/-- SHA-384 and SHA-512 but for the cut. -/
def sha512From (h : List (BitVec 64)) (m : List Byte) : List Byte :=
  ((chunks 128 (shaPad 128 16 m)).foldl (shaBlock rot64 sha512K) h).flatMap (fun x => beBytes 8 x.toNat)

/-- SHA-512. -/
def sha512 (m : List Byte) : List Byte := sha512From sha512H m
/-- SHA-384. -/
def sha384 (m : List Byte) : List Byte := (sha512From sha384H m).take 48

end Sys2Proof.Machine
end

