-- ==== Sys2Proof/Machine/Modes.lean ====
section
/-!
DEFINITION. Modes of operation, MACs and key derivation over a block cipher or a hash (06 R180 to R182; 05 R159, R160;
07 R211), after their standards (log 16).
-/

namespace Sys2Proof.Machine

open Sys2Proof

/-- A block cipher under a key: block size, encipherment, decipherment. -/
structure Cipher where
  size : Nat
  enc  : List Byte → List Byte
  dec  : List Byte → List Byte

/-- AES under a key. -/
def aesCipher (k : List Byte) : Cipher := { size := 16, enc := aesEnc k, dec := aesDec k }
/-- TDES under a key. -/
def tdesCipher (k : List Byte) : Cipher := { size := 8, enc := tdesEnc k, dec := tdesDec k }

/-- ECB over whole blocks. -/
def ecb (n : Nat) (f : List Byte → List Byte) (m : List Byte) : List Byte := (chunks n m).flatMap f

/-- CBC encipherment of a list of blocks. -/
def cbcEncBlocks (c : Cipher) (iv : List Byte) (bs : List (List Byte)) : List (List Byte) :=
  match bs with
  | [] => []
  | b :: r => let x := c.enc (xorB iv b); x :: cbcEncBlocks c x r

/-- CBC decipherment of a list of blocks. -/
def cbcDecBlocks (c : Cipher) (iv : List Byte) (bs : List (List Byte)) : List (List Byte) :=
  match bs with
  | [] => []
  | b :: r => xorB iv (c.dec b) :: cbcDecBlocks c b r

/-- CBC encipherment. -/
def cbcEnc (c : Cipher) (iv m : List Byte) : List Byte := (cbcEncBlocks c iv (chunks c.size m)).flatten
/-- CBC decipherment. -/
def cbcDec (c : Cipher) (iv m : List Byte) : List Byte := (cbcDecBlocks c iv (chunks c.size m)).flatten

/-- The counter block after one block: its last 4 bytes as a big-endian number (06 R180, R182). -/
def incr32 (b : List Byte) : List Byte := slice b 0 12 ++ beBytes 4 (beNat (slice b 12 4) + 1)

/-- CTR over a list of blocks. -/
def ctrBlocks (c : Cipher) (ctr : List Byte) (bs : List (List Byte)) : List (List Byte) :=
  match bs with
  | [] => []
  | b :: r => xorB (c.enc ctr) b :: ctrBlocks c (incr32 ctr) r

/-- CTR from a counter block. -/
def ctrMode (c : Cipher) (ctr m : List Byte) : List Byte := (ctrBlocks c ctr (chunks 16 m)).flatten

/-- Multiplication in GCM's field, the leftmost bit the coefficient of 1. -/
def ghashMul (x y : Nat) : Nat :=
  ((List.range 128).foldl (fun (z, v) i =>
    (if x.testBit (127 - i) then z ^^^ v else z,
     if v.testBit 0 then (v >>> 1) ^^^ (0xE1 <<< 120) else v >>> 1)) (0, y)).1

/-- GHASH of a byte string of whole blocks. -/
def ghash (h : Nat) (m : List Byte) : Nat := (chunks 16 m).foldl (fun y b => ghashMul (y ^^^ beNat (fit 16 b)) h) 0

/-- A string zero-filled to whole 16-byte blocks. -/
def pad16 (m : List Byte) : List Byte := m ++ zeros ((16 - m.length % 16) % 16)

/-- The full GCM tag of a ciphertext under a 12-byte nonce. -/
def gcmTag (c : Cipher) (nonce aad ct : List Byte) : List Byte :=
  let h := beNat (c.enc (zeros 16))
  let s := ghash h (pad16 aad ++ pad16 ct ++ beBytes 8 (8 * aad.length) ++ beBytes 8 (8 * ct.length))
  xorB (beBytes 16 s) (c.enc (nonce ++ [0, 0, 0, 1]))

/-- GCM's cipher: CTR from the block after J0 (06 R182). -/
def gcmCrypt (c : Cipher) (nonce m : List Byte) : List Byte := ctrMode c (nonce ++ [0, 0, 0, 2]) m

/-- Doubling in the field of a CMAC subkey. -/
def dbl (b : List Byte) : List Byte :=
  let n := b.length
  let v := beNat b
  beBytes n (if v.testBit (8 * n - 1) then (2 * v) ^^^ (if n = 16 then 0x87 else 0x1B) else 2 * v)

/-- CMAC. -/
def cmac (c : Cipher) (m : List Byte) : List Byte :=
  let k1 := dbl (c.enc (zeros c.size))
  let bs := chunks c.size m
  let last := bs.getLastD []
  let fin := if last.length = c.size then xorB last k1
    else xorB (fit c.size (last ++ [0x80])) (dbl k1)
  c.enc (xorB (bs.dropLast.foldl (fun y b => c.enc (xorB y b)) (zeros c.size)) fin)

/-- CBC-MAC over whole blocks. -/
def cbcMac (f : List Byte → List Byte) (n : Nat) (m : List Byte) : List Byte :=
  (chunks n m).foldl (fun y b => f (xorB y b)) (zeros n)

/-- Padding methods 1 and 2 of ISO/IEC 9797-1 to whole n-byte blocks. -/
def macPad (method n : Nat) (m : List Byte) : List Byte :=
  let m' := if method = 2 then m ++ [0x80] else m
  let p := m' ++ zeros ((n - m'.length % n) % n)
  if p.isEmpty then zeros n else p

/-- MAC algorithm 3: DES chaining, then the last block through the second and the first key. -/
def macAlg3 (k m : List Byte) : List Byte :=
  let (k1, k2, k3) := tdesKeys k
  desEnc k3 (desDec k2 (cbcMac (desEnc k1) 8 m))

/-- HMAC over a hash with block length n. -/
def hmac (hash : List Byte → List Byte) (n : Nat) (k m : List Byte) : List Byte :=
  let k' := fit n (if n < k.length then hash k else k)
  hash (k'.map (· ^^^ 0x5C) ++ hash (k'.map (· ^^^ 0x36) ++ m))

/-- HKDF-Expand. -/
def hkdfExpandF (hash : List Byte → List Byte) (n : Nat) (prk info prev : List Byte) (i fuel : Nat) : List Byte :=
  match fuel with
  | 0 => []
  | fuel + 1 =>
    let t := hmac hash n prk (prev ++ info ++ [BitVec.ofNat 8 i])
    t ++ hkdfExpandF hash n prk info t (i + 1) fuel

/-- HKDF with SHA-256: extract with a salt, expand to len bytes. -/
def hkdf256 (salt ikm info : List Byte) (len : Nat) : List Byte :=
  (hkdfExpandF sha256 64 (hmac sha256 64 salt ikm) info [] 1 (cdiv len 32)).take len

/-- HKDF with SHA-384 (10 R325). -/
def hkdf384 (salt ikm info : List Byte) (len : Nat) : List Byte :=
  (hkdfExpandF sha384 128 (hmac sha384 128 salt ikm) info [] 1 (cdiv len 48)).take len

/-- The SP 800-108 KDF in counter mode with CMAC as its PRF (07 R211): counter and length as 4 big-endian bytes. -/
def kdfCmac (c : Cipher) (label context : List Byte) (len : Nat) : List Byte :=
  (((List.range (cdiv len c.size)).flatMap (fun i =>
    cmac c (beBytes 4 (i + 1) ++ label ++ [0] ++ context ++ beBytes 4 (8 * len))))).take len

end Sys2Proof.Machine
end

