-- ==== Sys2Proof/Machine/SealedRec.lean ====
section
/-!
DEFINITION. The 256 bytes of a key record, clear and sealed, and the keys that seal it (06 R193; 07 R211, R212, R217, R223).
-/

namespace Sys2Proof.Machine

open Sys2Proof

/-- STATE of an extension slot (07 R217). -/
abbrev recExtension : Nat := 2

/-- The six ANC entries of a record as their 36 bytes (07 R217). -/
def ancBytes (l : List (Nat × Nat)) : List Byte := fit 36 ((l.map (fun x => leBytes 6 (x.1 + x.2 * 2 ^ 22))).flatten)

/-- A slot of the working copy as its 256 bytes (07 R217). -/
def recBytes (r : KeyRec) : List Byte :=
  let owner := leBytes 4 (r.ownerPart + r.ownerInc * 4096)
  if r.state = recExtension then
    leBytes 8 r.handle ++ leBytes 8 r.ver ++ owner ++ leBytes 1 r.state ++ leBytes 1 r.index ++ leBytes 2 r.keyLen ++
      fit 216 r.mat ++ zeros 16
  else
    leBytes 8 r.handle ++ leBytes 8 r.ver ++ owner ++ leBytes 1 r.state ++ leBytes 1 r.alg ++ leBytes 2 r.keyLen ++
      leBytes 2 r.usage ++ leBytes 1 r.exportRule ++ leBytes 1 r.worlds ++ leBytes 1 r.masters ++ leBytes 1 r.lcSet ++
      leBytes 1 r.anc.length ++ leBytes 1 r.extCount ++ leBytes 4 r.extFirst ++ leBytes 2 r.lgen ++ leBytes 2 r.kvn ++
      leBytes 8 r.parent ++ ancBytes r.anc ++ zeros 4 ++ leBytes 8 r.revSeq ++ leBytes 8 r.mutv ++ fit 5 r.kcv ++
      zeros 3 ++ fit 128 r.mat ++ zeros 16

/-- The record that 256 bytes spell (07 R217); old gives the key material beyond KEY_AREA. -/
def recOf (b : List Byte) (old : KeyRec) : KeyRec :=
  let f (o n : Nat) : Nat := field b o n
  let base : KeyRec := { KeyRec.reset with
    handle := f 0 8, ver := f 8 8, ownerPart := bits (f 0x10 4) 11 0, ownerInc := bits (f 0x10 4) 31 12, state := f 0x14 1,
    keyLen := f 0x16 2 }
  if f 0x14 1 = recExtension then { base with index := f 0x15 1, mat := slice b 0x18 216 }
  else
    { base with
      alg := f 0x15 1, usage := f 0x18 2, exportRule := f 0x1A 1, worlds := f 0x1B 1, masters := f 0x1C 1,
      lcSet := f 0x1D 1, extCount := f 0x1F 1, extFirst := f 0x20 4, lgen := f 0x24 2, kvn := f 0x26 2,
      parent := f 0x28 8,
      anc := (List.range (min 6 (f 0x1E 1))).map (fun i =>
        let e := f (0x30 + 6 * i) 6
        (bits e 21 0, bits e 37 22)),
      revSeq := f 0x58 8, mutv := f 0x60 8, kcv := slice b 0x68 5, mat := slice b 0x70 128 ++ old.mat.drop 128 }

/-- VRK, the vault record key (07 R211). -/
def vrk (s : State) : List Byte := kdfCmac (aesCipher (s.vault.kek.getD (zeros 32))) (ascii "YQ4-VRK") [] 32

/-- HCB, the handle check base, from the root secret (07 R211). -/
def hcb (s : State) : List Byte := kdfCmac (aesCipher (s.vault.rs.getD (zeros 32))) (ascii "YQ4-HCB") [] 32

/-- The keys in a slot of the service engine, for a user of a world: a slot of the other world cannot be named (06 R193). -/
def svcKey (s : State) (trusted : Bool) (n : Nat) : Option (List Byte) :=
  ((tblFind s.svc.slots n).filter (fun x => x.trusted == trusted)).map (fun x => x.key)

/-- VRK as the trusted kernel's writes use it: from its TRUSTED slot of the service engine (07 R211, R223). -/
def svcVrk (s : State) : List Byte := (svcKey s true 0).getD (vrk s)

/-- VRK as a lane of tile t uses it: from the module area (07 R212, R223). -/
def tileVrk (s : State) (t : Nat) : List Byte :=
  match (tmemOf s t).moduleArea with
  | some m => m.vrk
  | none => svcVrk s

/-- HCB as a lane of tile t uses it (07 R211, R212). -/
def tileHcb (s : State) (t : Nat) : List Byte :=
  match (tmemOf s t).moduleArea with
  | some m => m.hcb
  | none => hcb s

/-- Slot 0 of the service engine takes the VRK of the key-encrypting key in force; log 25 gives the slot its number (07 R211). -/
def loadVrk (s : State) : State :=
  { s with svc := { s.svc with slots := tblSet s.svc.slots 0 { trusted := true, sid := 0, key := vrk s } } }

/-- Bytes of a sealed record that stay clear: its AAD (07 R223). -/
def aadLen (r : KeyRec) : Nat := if r.state = recExtension then 0x18 else 0x70

/-- The IV of a version of a physical slot (07 R223). -/
def sealIv (phys ver : Nat) : List Byte := beBytes 4 phys ++ beBytes 8 ver

/-- A record of physical slot phys sealed with AES-256-GCM under key (07 R223). -/
def sealRec (key : List Byte) (phys : Nat) (r : KeyRec) : Sealed :=
  let b := recBytes r
  let n := aadLen r
  let ct := gcmCrypt (aesCipher key) (sealIv phys r.ver) ((b.take 0xF0).drop n)
  { head := b.take n, ct := ct, tag := gcmTag (aesCipher key) (sealIv phys r.ver) (b.take n) ct }

/-- VER of a sealed record, which stays clear (07 R217). -/
def Sealed.ver (x : Sealed) : Nat := field x.head 8 8
/-- LGEN of a sealed record; an extension slot holds none. -/
def Sealed.lgen (x : Sealed) : Nat := field x.head 0x24 2
/-- REV_SEQ of a sealed record; an extension slot holds none. -/
def Sealed.revSeq (x : Sealed) : Nat := field x.head 0x58 8

/-- The clear head of a sealed record as a record: what a slot still tells where its tag fails. -/
def Sealed.headRec (x : Sealed) : KeyRec := recOf (fit 256 x.head) KeyRec.reset

/-- The tag of a sealed record of physical slot phys verifies under key (07 R223). -/
def tagOk (key : List Byte) (phys : Nat) (x : Sealed) : Bool :=
  gcmTag (aesCipher key) (sealIv phys x.ver) x.head x.ct == x.tag

/-- Unseal a record of physical slot phys: none where its tag fails (07 R223). -/
def openSealed (key : List Byte) (phys : Nat) (x : Sealed) : Option KeyRec :=
  if tagOk key phys x then
    let r := recOf (x.head ++ gcmCrypt (aesCipher key) (sealIv phys x.ver) x.ct ++ zeros 16) KeyRec.reset
    some { r with mat := r.mat.take r.keyLen }
  else none

end Sys2Proof.Machine
end

