-- ==== Sys2Proof/Machine/Port.lean ====
section
/-!
DEFINITION. The management port as a sender: frames, transfers in segments with their window of 32, and session messages
(10 R320 to R322, R325).
-/

namespace Sys2Proof.Machine

open Sys2Proof

/-- The identifier of a frame of the Q4: FUNC at [10:7], its node at [6:0] (10 R320). -/
def frameId (s : State) (func : Nat) : Nat := 128 * func + s.fmp.node % 128

/-- The port puts frames on the bus: it serves and is not bus-off (10 R319). -/
def canSend (s : State) : Bool := s.fmp.serving && s.fmp.busState != 2

/-- Put a frame on the management bus (10 R320). -/
def sendFrame (s : State) (func dst : Nat) (payload : List Byte) : State :=
  if canSend s then
    send { s with fmp := { s.fmp with framesTx := (s.fmp.framesTx + 1) % 2 ^ 32 } } (.frame (frameId s func) dst payload)
  else s

/-- Segments of a message of n bytes: TOTAL and the message in pieces of 60 (10 R321). -/
def segCount (n : Nat) : Nat := cdiv (n + 4) 60

/-- SEG[7:6] of segment i: single, first, middle or last (10 R321). -/
def segKind (segs i : Nat) : Nat := if segs = 1 then 0 else if i = 0 then 1 else if i + 1 = segs then 3 else 2

/-- Segment i of a transfer: DST, SEG, XFER, LEN and its piece (10 R321). -/
def segBytes (x : FmpTx) (i : Nat) : List Byte :=
  let body := ((leBytes 4 x.data.length ++ x.data).drop (60 * i)).take 60
  leBytes 1 x.node ++ leBytes 1 (64 * segKind x.segs i + i % 64) ++ leBytes 1 x.xfer ++ leBytes 1 body.length ++ body

/-- The transfer in progress toward a node: the oldest of those the Q4 holds for it (10 R322). -/
def txOf (s : State) (node : Nat) : Option FmpTx := s.fmp.tx.find? (fun x => x.node == node)

/-- Change the first transfer of a node. -/
def updTx (node : Nat) (f : FmpTx → Option FmpTx) (l : List FmpTx) : List FmpTx :=
  match l with
  | [] => []
  | x :: r => if x.node = node then (f x).toList ++ r else x :: updTx node f r

/-- Change the transfer in progress toward a node, or end it. -/
def modTx (s : State) (node : Nat) (f : FmpTx → Option FmpTx) : State :=
  { s with fmp := { s.fmp with tx := updTx node f s.fmp.tx } }

/-- Send what the window of 32 segments past the last acknowledged one permits (10 R322). -/
def sendWindow (s : State) (node : Nat) : State :=
  match txOf s node with
  | none => s
  | some x =>
    let upto := if canSend s then min x.segs (x.acked + 32) else x.sent
    let t := (List.range (upto - x.sent)).foldl (fun u k => sendFrame u x.func node (segBytes x (x.sent + k))) s
    modTx t node (fun y => some { y with sent := max y.sent upto, since := s.now })

/-- Send a message to a node: its transfer waits for the one in progress toward that node (10 R322). -/
def fmpSend (s : State) (func node : Nat) (data : List Byte) : State :=
  if !s.fmp.serving then s
  else
    let no := tblGet 0 s.fmp.xfer node
    let x : FmpTx := { node := node, xfer := no, segs := segCount data.length, acked := 0, sent := 0, resends := 0,
                       since := s.now, func := func, data := data }
    let t := { s with fmp := { s.fmp with tx := s.fmp.tx ++ [x], xfer := tblSet s.fmp.xfer node ((no + 1) % 256) } }
    if (txOf s node).isSome then t else sendWindow t node

/-- The transfer toward a node ends, and the next one begins (10 R322). -/
def endTx (s : State) (node : Nat) : State := sendWindow (modTx s node (fun _ => none)) node

/-- The slot that holds a session's keys. -/
def svcSlotOf (s : State) (sid : Nat) : Option Nat := (s.svc.slots.find? (fun x => x.2.sid == sid)).map (fun x => x.1)

/-- A session's keys: from its slot, named by the world its role ends in; a session beyond the 16 slots has them loaded for each
message (06 R193; 10 R323; log 25). -/
def sessionKeys (s : State) (x : Session) : List Byte :=
  match (svcSlotOf s x.sid).bind (svcKey s (x.role == 2)) with
  | some k => k
  | none => x.keys

/-- A session message: SID, CTR, the ciphertext and its tag, under the key from the Q4 to the console (10 R325; log 17). -/
def sessionMsg (node : Nat) (keys : List Byte) (x : Session) (plain : List Byte) : List Byte :=
  let c := aesCipher (slice keys 32 32)
  let nonce := slice keys 68 4 ++ beBytes 8 x.ctrOut
  let head := leBytes 1 x.sid ++ leBytes 8 x.ctrOut
  let ct := gcmCrypt c nonce plain
  head ++ ct ++ gcmTag c nonce (leBytes 1 node ++ leBytes 1 x.node ++ head) ct

/-- Send a message on a session, if it is open: CTR rises by 1 (10 R325). -/
def sendSession (s : State) (func sid : Nat) (plain : List Byte) : State :=
  match s.fmp.sessions.find? (fun x => x.sid == sid) with
  | none => s
  | some x =>
    let f (y : Session) : Session := if y.sid = sid then { y with ctrOut := y.ctrOut + 1 } else y
    fmpSend { s with fmp := { s.fmp with sessions := s.fmp.sessions.map f } } func x.node
      (sessionMsg s.fmp.node (sessionKeys s x) x plain)

/-- Frames have been received (10 R348). -/
def countRx (s : State) (n : Nat) : State :=
  { s with fmp := { s.fmp with framesRx := (s.fmp.framesRx + n) % 2 ^ 32 } }

/-- The ACK frame for a node's transfer: a header and XFER, NEXT_SEQ, STATUS (10 R321, R322; log 46). -/
def ackBytes (node xfer next status : Nat) : List Byte :=
  [node, 0, xfer, 3, xfer, next % 64, status].flatMap (leBytes 1)

/-- The ACKs for a message of that many segments: after every 32nd and after the last (10 R322). -/
def sendAcks (s : State) (node xfer segs : Nat) : State :=
  ((List.range segs).filter (fun k => (k + 1) % 32 == 0 || k + 1 == segs)).foldl
    (fun t k => sendFrame t 0x6 node (ackBytes node xfer (k + 1) 0)) s

/-- A whole message of n bytes has been received from a node: its segments are counted and acknowledged, a partial message of the node
gives way, and source FMP_RX is raised (10 R322, R348; 09 R316; log 46). -/
def receive (s : State) (node n : Nat) : State :=
  let x := tblGet 0 s.fmp.rxXfer node
  let t := sendAcks (countRx s (segCount n)) node x (segCount n)
  raiseModule { t with fmp := { t.fmp with
    rx := t.fmp.rx.filter (fun y => y.node != node), rxXfer := tblSet t.fmp.rxXfer node ((x + 1) % 256) } } 0x78

end Sys2Proof.Machine
end

