-- ==== Sys2Proof/Machine/Recorder.lean ====
section
/-!
DEFINITION. Recording an event: severity, rate limit, sequence number, the volatile buffer and its flush, and what goes
out on the management bus (14 R411 to R420, 10 R320).
-/

namespace Sys2Proof.Machine

open Sys2Proof

/-- The severity of a code (14 R414). Tamper records carry their own (14 R412). -/
def evSeverity (code : Nat) : Nat :=
  if code = 0x1001 then 1 else if code = 0x1002 then 5 else if code = 0x1003 then 1
  else if code = 0x1010 then 3 else if code = 0x1011 then 3 else if code = 0x1012 then 1 else if code = 0x1013 then 4
  else if code = 0x2001 then 6 else if code = 0x2002 then 6 else if code = 0x2010 then 5 else if code = 0x2020 then 3
  else if code = 0x3001 then 3 else if code = 0x3002 then 3 else if code = 0x3010 then 3 else if code = 0x3011 then 5
  else if code = 0x3012 then 5 else if code = 0x3013 then 6
  else if code = 0x3014 ∨ code = 0x3015 ∨ code = 0x3016 then 4
  else if code = 0x3020 then 3 else if code = 0x3021 then 2
  else if code = 0x4001 then 2 else if code = 0x4002 then 4 else if code = 0x4003 then 2
  else if code = 0x5001 then 2 else if code = 0x5002 then 3 else if code = 0x5003 then 3
  else if code = 0x5004 then 6 else if code = 0x5005 then 4 else if code = 0x5006 then 6
  else if code = 0x6800 then 5 else if code = 0x6801 then 4 else if code = 0x6802 then 3
  else if code = 0x7001 then 2 else if code = 0x7002 then 6 else if code = 0x7003 then 7
  else if code = 0x7800 then 2 else if code = 0x7801 then 4 else if code = 0x7802 then 3
  else 0

/-- The codes of R414, in order: the range of EVR_LIMIT_SEL (14 R425). -/
def evCodes : List Nat :=
  [0x1001, 0x1002, 0x1003, 0x1010, 0x1011, 0x1012, 0x1013, 0x2001, 0x2002, 0x2010, 0x2020, 0x3001, 0x3002, 0x3010,
   0x3011, 0x3012, 0x3013, 0x3014, 0x3015, 0x3016, 0x3020, 0x3021, 0x4001, 0x4002, 0x4003, 0x5001, 0x5002, 0x5003,
   0x5004, 0x5005, 0x5006] ++
  [0x6000, 0x6001, 0x6002, 0x6003, 0x6004, 0x6005, 0x6006, 0x6007, 0x6008, 0x6009, 0x600A, 0x6800, 0x6801, 0x6802,
   0x7001, 0x7002, 0x7003, 0x7800, 0x7801, 0x7802]

/-- A record as its 64 bytes (14 R411). -/
def evBytes (r : EvRec) : List Byte :=
  let flags := r.severity + 8 * b2n r.carrier + 16 * b2n r.nightside + 32 * b2n r.isVolatile
  let body := leBytes 8 r.seq ++ leBytes 2 r.code ++ leBytes 1 flags ++ leBytes 1 r.kind ++ leBytes 2 r.source ++
    leBytes 6 r.opTime ++ leBytes 3 r.powerCycles ++ zeros 1 ++ leBytes 4 r.suppressed ++ fit 28 r.data
  body ++ leBytes 4 (crc32c body) ++ leBytes 4 0x0000E7C0

/-- The mode in force (14 R416, R423): 2 VOLATILE_ONLY with no device, 1 COMMIT while the gate is not OPEN, else
EVR_MODE. -/
def evrModeOf (s : State) : Nat :=
  if !s.evr.devA && !s.evr.devB then 2 else if s.power.gate ≠ 0 then 1 else objNat s 0x7000 0x01 0

/-- Of the records with severity at most sev, the one to give way (14 R417, R418): the lowest by the key. -/
def evVictim (key : EvRec → Nat) (sev : Nat) (l : List EvRec) : Option EvRec :=
  minBy key (l.filter (fun r => decide (r.severity ≤ sev)))

/-- Write one record to the region: a free slot, or over the record of lowest SEQ no more severe than it (14 R418). -/
def evrStore (e : Evr) (r : EvRec) : Evr :=
  if e.held.length < 262144 then { e with held := e.held ++ [r] }
  else match evVictim (fun x => x.seq) r.severity e.held with
    | none => { e with dropped := e.dropped + 1 }
    | some v =>
      { e with held := e.held.filter (fun x => x.seq != v.seq) ++ [r], overwrites := e.overwrites + 1
               horizon := tblSet e.horizon v.severity (max v.seq (tblGet 0 e.horizon v.severity)) }

/-- Write every buffered record, in SEQ order (14 R415). -/
def evrFlushAll (e : Evr) (now : Nat) : Evr :=
  if !e.devA && !e.devB then e
  else { (e.buffer.foldl evrStore e) with buffer := [], lastFlush := now }

/-- A record enters the volatile buffer; a full one gives way to it or it is dropped (14 R417). -/
def evrBuffer (e : Evr) (r : EvRec) : Evr :=
  if e.buffer.length < 256 then { e with buffer := e.buffer ++ [r] }
  else match evVictim (fun x => x.severity * 2 ^ 64 + x.seq) r.severity e.buffer with
    | none => { e with dropped := e.dropped + 1 }
    | some v => { e with buffer := e.buffer.filter (fun x => x.seq != v.seq) ++ [r], dropped := e.dropped + 1 }

/-- The limit and bucket of a code (14 R420): full at RATE 100 and BURST 256. -/
def evLimitOf (s : State) (code : Nat) : EvLimit :=
  tblGet { rate := 100, burst := 256, tokens := 256000, last := 0, pending := 0, lastEvent := 0 } s.evr.limits code

/-- The bucket refilled to now: RATE tokens a second up to BURST, held in thousandths (14 R420). -/
def evRefill (s : State) (l : EvLimit) : EvLimit :=
  { l with tokens := min (l.burst * 1000) (l.tokens + l.rate * (s.now - l.last) / 1000), last := s.now }

/-- What an ALERT frame carries: event code, severity and recorder sequence number (10 R320). -/
def alertBytes (code sev seq : Nat) : List Byte := leBytes 2 code ++ leBytes 1 sev ++ leBytes 8 seq

/-- ALERT to all, and NOTIFY with the record to every session (10 R320, R348). -/
def notify (s : State) (r : EvRec) : State :=
  let t := sendFrame s 0x1 0 (alertBytes r.code r.severity r.seq)
  t.fmp.sessions.foldl (fun u x => sendSession u 0x5 x.sid (evBytes r)) t

/-- A record that has its token: it takes the next SEQ, enters the buffer, is written as the mode in force says, and is
notified at FMP_NOTIFY_SEV and above, or always when it is EVR_VOLATILE (14 R413, R415, R423). -/
def admitRec (s : State) (r : EvRec) : State :=
  let mode := evrModeOf s
  let r := { r with seq := s.evr.seq + 1, isVolatile := mode == 2 }
  let e := evrBuffer { s.evr with seq := s.evr.seq + 1 } r
  let flush := decide (mode = 1) || decide (mode = 0 ∧ (128 ≤ e.buffer.length ∨ objNat s 0x7000 0x04 5 ≤ r.severity))
  let t := { s with evr := if flush then evrFlushAll e s.now else e }
  if objNat s 0x1110 0x04 5 ≤ r.severity ∨ r.code = 0x7003 then notify t r else t

/-- Record an event of a code with a given severity, under its rate limit (14 R413, R420). -/
def recordSev (s : State) (code sev kind src : Nat) (nightside : Bool) (data : List Byte) : State :=
  let l := evRefill s (evLimitOf s code)
  if 1000 ≤ l.tokens then
    let l' := { l with tokens := l.tokens - 1000, pending := 0, lastEvent := s.now }
    let t := modEvr s (fun e => { e with limits := tblSet e.limits code l' })
    admitRec t { seq := 0, code := code, severity := sev, carrier := false, nightside := nightside, isVolatile := false,
                 kind := kind, source := src, opTime := s.evr.opMs, powerCycles := s.evr.powerCycles,
                 suppressed := l.pending, data := data }
  else
    let l' := { l with pending := l.pending + 1, lastEvent := s.now }
    modEvr s (fun e => { e with limits := tblSet e.limits code l' })

/-- Record an event of R414 with the severity of its code. -/
def record (s : State) (code kind src : Nat) (data : List Byte) : State :=
  recordSev s code (evSeverity code) kind src false data

/-- Record an event that the spec asks for and R414 lists no code for (01 R18; 11 R356): its code, one of R414, and its data are free
values (log 26). -/
def recordOpen (s : State) (kind src : Nat) : State :=
  let (v, t) := takeFree s
  let (d, u) := takeFree t
  record u (evCodes.getD (v % evCodes.length) 0) kind src (leBytes 28 d)

/-- The mode in force is brought up to date: a change is recorded, and leaving BUFFERED flushes the buffer at once (14 R416,
R423). DATA: the mode in force and the devices' status (14 R414). -/
def settleMode (s : State) : State :=
  let m := evrModeOf s
  if s.evr.mode = m then s
  else
    let s1 := modEvr s (fun e => if m = 1 then { evrFlushAll e s.now with mode := m } else { e with mode := m })
    record s1 0x7001 0 0 (leBytes 1 m ++ leBytes 1 (b2n s.evr.devA + 2 * b2n s.evr.devB))

end Sys2Proof.Machine
end

