-- ==== Sys2Proof/Machine/Clock.lean ====
section
/-!
DEFINITION. Time: what passes with it in the block, and what is seen on the management plane's tick (01 R21, R22; 03 R92, R100; 08
R254; 13 R398; 14 R413), with the conditions on which a quarter has something to send to the host (02 R43, R49; 03 R102).
-/

namespace Sys2Proof.Machine

open Sys2Proof

/-- May the function of a queue pair write: a VF only while its Bus Master Enable is set (02 R38). -/
def mayWrite (s : State) (q : Qp) : Bool :=
  q.func == 0 || tblGet false s.hif.bme q.func

/-- The same but for item 5, the half-ring bound of 04 R114. -/
def releasableButBound (s : State) (q : Qp) (e : Entry) : Bool :=
  e.cpl.isSome && (!e.se || e.committed) && !s.tamper.halt && !q.cplErr && mayWrite s q && !q.headWait && decide (e.asn = q.w)

/-- The release conditions of 03 R102 for the next ASN of a queue pair but for item 4, with what else holds a completion
back: tamper HALT (04 R120), CPL_ERR (02 R66), a VF in reset (02 R38), a power loss whose first head write is awaited
(04 R122). -/
def releasableButHead (s : State) (q : Qp) (e : Entry) : Bool :=
  releasableButBound s q e && decide (sub48 e.asn q.wm < depthOf q / 2)

/-- Item 4 of 03 R102: the completion's slot has been released by HIF_DB_CQ_HEAD (02 R48). -/
def headAllows (q : Qp) (asn : Nat) : Bool := decide (sub32 asn (headReg q) < depthOf q)

/-- Descriptors of a queue pair between its next ASN and its tail: after a power loss the next ASN may be as low as h - D
and the tail as high as h + D (02 R47; 04 R122), and until the tail is written it may stand below the next ASN. -/
def tailAhead (q : Qp) : Nat := if sub32 (tailReg q) q.next ≤ 2 * depthOf q then sub32 (tailReg q) q.next else 0

/-- Fetching is permitted (02 R43), and both doorbells have been written since a reset of the page (02 R49; 04 R122, R123). -/
def fetchPermitted (s : State) (qp : Nat) : Bool :=
  let q := qpOf s qp
  q.assigned && s.hif.dpOpen && s.hif.fetchEn && !s.hif.failed && q.en && !q.fetchErr && !q.cplErr && s.power.gate != 2 &&
    !s.tamper.halt && !(quarterOf s q.home).failed && effectiveIn s q.partition q.home == 0 && !q.headWait &&
    q.tailWritten && q.headWritten && decide (tailAhead q ≠ 0)

/-- Partition p has a bucket entry on L5 of quarter q (03 R79). -/
def onL5 (s : State) (q p : Nat) : Bool := (quarterOf s q).l5.any (fun x => x.1 / 2 == p)

/-- A queue pair whose bucket is empty in its quarter, or whose last descriptor was not accepted, is not fetched for
(03 R76, R79). -/
def fetchPaused (s : State) (qp : Nat) : Bool := (qpOf s qp).paused || onL5 s (qpOf s qp).home (qpOf s qp).partition

/-- A quarter holds a completion ready for release, or a fetch is permitted and not held back (03 R100). -/
def hasSend (s : State) (q : Nat) : Bool :=
  s.qps.any (fun x => x.2.assigned && x.2.home == q &&
    ((match entryOf s x.1 x.2.w with
      | some e => releasableButHead s x.2 e && headAllows x.2 e.asn
      | none => false) || (fetchPermitted s x.1 && !fetchPaused s x.1)))

/-- The 24-bit tick counter of a quarter (03 R92): it counts microseconds and wraps. The lists hold whole times, of which it is the
low part, and order them as R92 does. -/
def tickCounter (s : State) : Nat := s.now % 2 ^ 24

/-- An entry with tick and insertion number a leaves its delay list before one with b (03 R92). -/
def beforeOnList (a b : Nat × Nat) : Bool := decide (a.1 < b.1 ∨ (a.1 = b.1 ∧ a.2 < b.2))

/-- The entry a is the head of a delay list: no other leaves before it (03 R92). -/
def isHead (a : Nat × Nat) (l : List (Nat × Nat)) : Bool := l.all (fun b => !beforeOnList b a)

/-- The next place in the order of insertion of quarter q, and the state that has taken it (03 R92). -/
def takeIns (s : State) (q : Nat) : Nat × State := ((quarterOf s q).ins, modQuarter s q (fun x => { x with ins := x.ins + 1 }))

/-- Since when a quarter has held work to send, as time is about to pass (03 R100). -/
def watchWork (s : State) (q : Nat) : State :=
  let w := if hasSend s q then some ((quarterOf s q).workSince.getD s.now) else none
  if w = (quarterOf s q).workSince then s else modQuarter s q (fun x => { x with workSince := w })

/-- The enable that the management plane holds of a tile and the fence that the quarter holds differ (01 R22). -/
def tileDiffers (s : State) (t : Nat) : Bool := (tileOf s t).enable == (tileOf s t).fenced

/-- ADMIN of a partition differs from OPER of a home quarter (08 R254). -/
def partDiffers (s : State) (p : Nat) : Bool := (partOf s p).created && (homesOf s p).any (fun q => operIn s p q != (partOf s p).admin)

/-- The count of a disagreement at a tick: it starts at the first tick that sees it and ends at the first that does not (01 R22, 08
R254). -/
def differNow (differs : Bool) (since : Option Nat) (now : Nat) : Option Nat := if differs then some (since.getD now) else none

/-- A tile's disagreement as the tick sees it. -/
def watchTile (s : State) (t : Nat) : State :=
  let w := differNow (tileDiffers s t) (tmemOf s t).differSince s.now
  if w = (tmemOf s t).differSince then s else modTmem s t (fun m => { m with differSince := w, disagreed := m.disagreed && w.isSome })

/-- A partition's disagreement as the tick sees it; where it ends, DISAGREE clears. -/
def watchPart (s : State) (p : Nat) : State :=
  let w := differNow (partDiffers s p) (partOf s p).differSince s.now
  if w = (partOf s p).differSince then s else modPart s p (fun x => { x with differSince := w, disagree := x.disagree && w.isSome })

/-- Engine statuses of the service engine by name (06 R193, R195): the spec gives them no numbers. -/
abbrev svcDone : Nat := 1
/-- INTEGRITY. -/
abbrev svcIntegrity : Nat := 2
/-- ABORTED. -/
abbrev svcAborted : Nat := 3

/-- Change SVC_LOCK and the engine. -/
def modSvc (s : State) (f : Svc → Svc) : State := { s with svc := f s.svc }

/-- A forced release: the owner's operation ends with ABORTED; with no holder nothing changes (06 R195 items 3, 5). -/
def svcForceRelease (s : State) : State :=
  if s.svc.held then
    modSvc s (fun v => { v with held := false, forced := true, op := none,
                                status := if v.op.isSome then tblSet v.status v.owner svcAborted else v.status })
  else s

/-- A core reset of management core m, with its stores kept: its registers, its registers in the module unit and the contexts it
has pushed go, and a lock that it holds is released by force (06 R195; 09 R282, R306). -/
def resetMgmt (s : State) (m : Nat) : State :=
  let s1 := if s.svc.owner = m then svcForceRelease s else s
  let gone := (coreOf s1 (64 + m)).ictx.map (fun x => x.source)
  let s2 := modEvu s1 16 (fun e => { e with cores := tblErase e.cores m, active := e.active.filter (fun y => !gone.contains y) })
  modCore s2 (64 + m) (fun k => { EloaCore.mgmt with code := k.code, mem := k.mem })

/-- The trusted kernel resets a stopped M1, M2 or M3 (09 R306). DESIGN CHOICE: at the next tick of the management plane (log 84). -/
def resetStopped (s : State) : State :=
  [1, 2, 3].foldl (fun u m => if (coreOf u (64 + m)).stopped then resetMgmt u m else u) s

/-- The management plane's tick (01 R21, R22; 08 R254; 09 R306, R316): the records that waited for it are written, the disagreements between
the planes are looked at, a stopped core of the open world is reset, and source TICK_1MS is raised. -/
def mgmtTick (s : State) : State :=
  let s1 := s.evr.atTick.foldl (fun u r => record u r.code r.kind r.src r.data) (modEvr s (fun e => { e with atTick := [] }))
  let s2 := (List.range 16).foldl watchTile s1
  raiseModule (resetStopped ((s2.parts.map (fun x => x.1)).foldl watchPart s2)) 0x80

/-- n microseconds pass on the block's clocks: the model's time, the operating time in ms while main power is present (14 R413), and
the refilling of the DRBG output buffers (13 R398). -/
def runClocks (s : State) (n : Nat) : State :=
  let us := s.evr.opUs + n
  let e := if s.power.main then { s.evr with opMs := s.evr.opMs + us / 1000, opUs := us % 1000 } else s.evr
  let fill (x : Nat × Drbg) : Nat × Drbg := (x.1, if x.1 < 4 then x.2.refill n else x.2)
  { s with now := s.now + n, evr := e, rng := { s.rng with drbg := s.rng.drbg.map fill } }

/-- n microseconds pass: the quarters' work to send is watched through them, and the first management tick among them, which on a
started module comes every full millisecond, does what a tick does. -/
def elapse (s : State) (n : Nat) : State :=
  if n = 0 then s
  else
    let s1 := (List.range 4).foldl watchWork s
    let k := 1000 - s.now % 1000
    if s.boot.booted ∧ k ≤ n then runClocks (mgmtTick (runClocks s1 k)) (n - k) else runClocks s1 n

/-- The clock reads at least t from now on: a timed event is given when its time has come (log 1). -/
def advanceTo (s : State) (t : Nat) : State := elapse s (t - s.now)

/-- The next tick of the management plane (01 R22). -/
def nextTick (s : State) : Nat := s.now + (1000 - s.now % 1000)

/-- 100 ms from the tick that first saw a disagreement, the next one where none has seen it yet (01 R22; 08 R254). -/
def untilDisagree (s : State) (since : State → Option Nat) : State :=
  let s1 := if (since s).isSome then s else advanceTo s (nextTick s)
  match since s1 with
  | none => s1
  | some n => advanceTo s1 (n + 100000)

/-- The management tick that is due: the present moment if it is one, else the next (01 R21). -/
def tickDue (s : State) : State := if s.now % 1000 = 0 then s else advanceTo s (nextTick s)

end Sys2Proof.Machine
end

