-- ==== Sys2Proof/Machine/Engines.lean ====
section
/-!
DEFINITION. The engines of a tile and whose turn they are: the turns among partitions, the steps that wait to be issued again, and
what a freed engine takes (03 R84, R85, R98, R105; 06 R190, R200; 08 R261).
-/

namespace Sys2Proof.Machine

open Sys2Proof

/-- Entries homed on tile t that have no completion yet. -/
def homedOn (s : State) (t : Nat) : List Entry := s.entries.filter (fun e => e.tile == some t && e.cpl.isNone)

/-- The partitions of a list of descriptors, in order. -/
def partsOfEntries (s : State) (l : List Entry) : List Nat := l.foldl (fun m e => insertAsc (qpOf s e.qp).partition m) []

/-- The lowest ASN of partition p in a list of descriptors. -/
def lowestOf (s : State) (l : List Entry) (p : Nat) : Option Entry :=
  minBy (fun e => e.asn) (l.filter (fun e => (qpOf s e.qp).partition == p))

/-- The descriptor whose turn it is by round robin after partition rr (03 R85, 06 R190). -/
def turnOf (s : State) (rr : Nat) (l : List Entry) : Option Entry :=
  match rrNext rr (partsOfEntries s l) with
  | none => none
  | some p => lowestOf s l p

/-- PKE_SHARE of partition p, its weight on the public-key cores (08 R261, R277). -/
def pkeShare (s : State) (p : Nat) : Nat := max 1 (objNat s (0x4000 + p) 0x24 1)

/-- The partition whose turn it is on the public-key cores of tile t and the turns it has left after this one: weighted round robin
by PKE share, a partition taking as many steps as its weight before the turn passes on (03 R85; log 28). -/
def pkeTurn (s : State) (t : Nat) (l : List Entry) : Option (Nat × Nat) :=
  let ps := partsOfEntries s l
  let m := tmemOf s t
  if ps.contains m.pkeAt ∧ 0 < m.pkeLeft then some (m.pkeAt, m.pkeLeft - 1)
  else (rrNext m.pkeAt ps).map (fun p => (p, pkeShare s p - 1))

/-- Pair k of a tile's stores. -/
def pairRun (m : TileMem) (k : Nat) : Option StepRun := if k = 0 then m.pair0 else m.pair1

/-- Set pair k. -/
def setPair (m : TileMem) (k : Nat) (r : Option StepRun) : TileMem := if k = 0 then { m with pair0 := r } else { m with pair1 := r }

/-- Is pair k quarantined (03 R98)? -/
def pairQuar (x : Tile) (k : Nat) : Bool := if k = 0 then x.quar0 else x.quar1

/-- Public-key core k of a tile. -/
def pkeOf (x : Tile) (k : Nat) : PkeCore := if k = 0 then x.pke0 else x.pke1

/-- A heartbeat of tile t (03 R99). -/
def beat (s : State) (t : Nat) : State := modTmem s t (fun m => { m with heart := s.now })

/-- Change step i of a graph. -/
def setStep (l : List Step) (i : Nat) (f : Step → Step) : List Step :=
  (List.range l.length).zip l |>.map (fun x => if x.1 = i then f x.2 else x.2)

/-- A descriptor's step i goes into state n. -/
def stepState (s : State) (qp asn i n : Nat) : State :=
  modEntry s qp asn (fun e => { e with steps := setStep e.steps i (fun x => { x with state := n }) })

/-- The header of an operand token, its value's length its LEN (03 R84). -/
def tokenHeader (k : Token) : Nat :=
  k.ctx + 2 ^ 10 * k.step + 2 ^ 16 * k.opnd + 2 ^ 19 * b2n k.sens + 2 ^ 20 * k.value.length + 2 ^ 26 * k.kind + 2 ^ 32 * k.colour

/-- A token for operand o of step i of a descriptor (03 R84): KIND and value. -/
def tokenFor (s : State) (e : Entry) (i o kind : Nat) (v : List Byte) : Token :=
  { ctx := e.ctx, step := i, opnd := o, sens := false, kind := kind, colour := (qpOf s e.qp).partition, status := 0, value := v,
    name := none }

/-- A token enters the matching store of the descriptor's tile (03 R84, R85). -/
def putToken (s : State) (e : Entry) (k : Token) : State :=
  match e.tile with
  | some t => modTmem s t (fun m => { m with tokens := m.tokens ++ [k] })
  | none => s

/-- A step fires: its tokens leave the matching store (03 R85). -/
def takeTokens (s : State) (t ctx i : Nat) : State :=
  modTmem s t (fun m => { m with tokens := m.tokens.filter (fun k => !(k.ctx == ctx && k.step == i)) })

/-- A generator's state n outputs on (06 R178). -/
def maskSteps (n : Nat) (st : List Byte) : List Byte :=
  match n with
  | 0 => st
  | n + 1 => maskSteps n (Config.maskNext st)

/-- The keys that a descriptor has pinned in a tile. -/
def pinnedKeys (m : TileMem) (qp asn : Nat) : List (List Byte) :=
  (m.cache.filter (fun x => x.pins.contains (qp, asn))).map (fun x => fit x.key.keyLen x.key.mat)

/-- Keys as two shares each, drawn one after the other with the mask generator (06 R178): the shares, and its state after them. -/
def splitKeys (st : List Byte) (l : List (List Byte)) : List (List Byte × List Byte) × List Byte :=
  match l with
  | [] => ([], st)
  | k :: r =>
    let a := fit k.length (Config.maskOut st k.length)
    let x := splitKeys (Config.maskNext st) r
    ((a, xorB k a) :: x.1, x.2)

/-- The shares of a descriptor's keys for the first of n blocks, and the mask generator's state when every block has had fresh ones (06
R178). -/
def drawShares (m : TileMem) (qp asn n : Nat) : List (List Byte × List Byte) × List Byte :=
  let ks := pinnedKeys m qp asn
  let x := splitKeys m.mask ks
  (x.1, maskSteps (ks.length * (n - 1)) x.2)

/-- Pair k takes a step: its keys go to the odd lane in shares (03 R90; 06 R178). -/
def loadPair (m : TileMem) (k : Nat) (r : StepRun) : TileMem :=
  let x := drawShares m r.qp r.asn r.left
  { setPair m k (some { r with shares := x.1 }) with mask := x.2 }

/-- The register file that operands load: operand i in integer register i (06 R196; log 82). -/
def operandFile (l : List (List Byte)) : OpFile :=
  { ints := ((List.range (min 32 l.length)).zip l).map (fun x => (x.1, (beNat x.2 % 2 ^ 4096, false))), polys := [] }

/-- A public-key core takes a step with its operands; checked tells that it runs again after a failed check (06 R196, R200). -/
def PkeCore.begin (c : PkeCore) (r : StepRun) (again : Bool) : PkeCore :=
  { c with busy := true, checked := again, run := some r, file := operandFile r.ops }

/-- A pair of tile t that is free and not quarantined takes the step that waits to be issued again on it (03 R98, R105). -/
def takeRetry (s : State) (t k : Nat) : State :=
  match (homedOn s t).find? (fun e => e.retryOn.any (fun x => x.1 == k)) with
  | none => s
  | some e =>
    if (pairRun (tmemOf s t) k).isSome || pairQuar (tileOf s t) k || (tileOf s t).fenced then s
    else modTmem (modEntry s e.qp e.asn (fun x => { x with retryOn := none })) t
      (fun m => (e.retryOn.map (fun x => loadPair m k x.2)).getD m)

/-- A public-key core that is free and loaded takes the op-list whose check failed on the other one, with its operands (06 R200, R209). -/
def takeRecheck (s : State) (t k : Nat) : State :=
  match (homedOn s t).find? (fun e => e.retryOn.any (fun x => x.1 == 2 + k)) with
  | none => s
  | some e =>
    let c := pkeOf (tileOf s t) k
    if c.busy || !c.loaded || (tileOf s t).fenced then s
    else modPke (modEntry s e.qp e.asn (fun x => { x with retryOn := none })) t k
      (fun c => (e.retryOn.map (fun x => c.begin x.2 true)).getD c)

/-- The waiting hash block of a descriptor with the lowest step number (06 R190). -/
def lowestWait (m : TileMem) (e : Entry) : Option StepRun :=
  minBy (fun x => x.step) (m.hashWait.filter (fun x => x.qp == e.qp && x.asn == e.asn))

/-- A free hash unit takes the next block: round robin over the partitions that wait, the lowest ASN and then the lowest step number
within one (06 R190). -/
def nextHash (s : State) (t : Nat) : State :=
  let m := tmemOf s t
  if m.hashRun.isSome then s
  else match turnOf s m.rrHash ((homedOn s t).filter (fun e => m.hashWait.any (fun x => x.qp == e.qp && x.asn == e.asn))) with
    | none => s
    | some e =>
      modTmem s t (fun m =>
        { m with hashRun := lowestWait m e, rrHash := (qpOf s e.qp).partition,
                 hashWait := m.hashWait.filter (fun x => some x != lowestWait m e) })

/-- Engines of a tile that a descriptor has left take what waits for them. -/
def wakeEngines (s : State) (t : Nat) : State := nextHash (takeRetry (takeRetry s t 0) t 1) t

/-- The two halves of a key reference that name a ticket (09 R299). -/
def keyTicket (key : Nat) : Option Nat := if key / 2 ^ 32 = 0xFFFFFFFF then some (key % 64) else none

/-- The tickets whose tokens a step waits for. -/
def Ticket.waitsFor (t : Ticket) : List Nat := t.inA.toList ++ t.inB.toList ++ (keyTicket t.key).toList

/-- The engine that a step issued by a script takes (09 R300): HMAC and hash steps the hash unit, the digest lookup of a key block with
them and its unwrapping a twin pair (05 R141); PKE_RUN a public-key core, IN_READ none; the others a twin pair. -/
def Ticket.kind (t : Ticket) : StepKind :=
  if t.func = 0x012 ∨ t.func = 0x013 ∨ t.func = 0x050 ∨ (t.func = 0x040 ∧ t.stage = 0) then .hash
  else if t.func = 0x060 then .pke
  else if t.func = 0x070 then .check
  else .lane

/-- The step has yet to fire, or its lookup has missed and the lanes are next. -/
def Ticket.toFire (t : Ticket) : Bool := t.tok.isNone && t.stage != 1

/-- Every token that a step of a core waits for has been emitted (03 R85). -/
def EloaCore.matched (x : EloaCore) (t : Ticket) : Bool := t.waitsFor.all (fun j => ((x.tickets[j]?).bind (fun y => y.tok)).isSome)

/-- The lowest step that a script has issued, that has its operands and waits for an engine of a kind (03 R85; 09 R299). -/
def EloaCore.nextKop (x : EloaCore) (k : StepKind) : Option Nat :=
  (List.range x.tickets.length).find? (fun i => (x.tickets[i]?).any (fun t => t.toFire && t.kind == k && x.matched t))

/-- The script core that a descriptor holds. -/
def Entry.coreOf? (e : Entry) : Option Nat :=
  match e.script with
  | .core c => some c
  | _ => none

/-- A step that a script has issued has its operands and waits for an engine of a kind (03 R85; 09 R299). -/
def kopWaits (s : State) (e : Entry) (k : StepKind) : Bool :=
  match e.coreOf? with
  | some c => (coreOf s c).desc == some (e.qp, e.asn) && ((coreOf s c).nextKop k).isSome
  | none => false

/-- Change ticket i of core c. -/
def modTicket (s : State) (c i : Nat) (f : Ticket → Ticket) : State :=
  modCore s c (fun k => { k with tickets :=
    ((List.range k.tickets.length).zip k.tickets).map (fun x => if x.1 = i then f x.2 else x.2) })

/-- A step goes into an engine of a kind, number n where the tile has two: the hash unit takes its blocks in turn (03 R90; 06 R190, R196). -/
def enterEngine (s : State) (t : Nat) (k : StepKind) (n : Nat) (r : StepRun) : State :=
  match k with
  | .lane => modTmem s t (fun m => loadPair m n r)
  | .pke => modPke s t n (fun c => c.begin r false)
  | .hash => nextHash (modTmem s t (fun m => { m with hashWait := m.hashWait ++ [r] })) t
  | _ => s

end Sys2Proof.Machine
end

