-- ==== Sys2Proof/Machine/Reseq.lean ====
section
/-!
DEFINITION. What an in-flight entry holds and gives back, and the re-sequencer: the completion entry, its release, and
the interrupt that follows (02 R64 to R73, 03 R102).
-/

namespace Sys2Proof.Machine

open Sys2Proof

/-- Give back what a descriptor holds in tile t: pins, transient keys, tokens, sensitive values and engines (03 R88;
07 R234). -/
def releaseTile (s : State) (t qp asn ctx : Nat) : State :=
  let mine (x : Nat × Nat) : Bool := x.1 == qp && x.2 == asn
  let run (x : Option StepRun) : Option StepRun :=
    match x with
    | some y => if y.qp = qp ∧ y.asn = asn then none else some y
    | none => none
  let unpin (e : CacheEnt) : CacheEnt := { e with pins := e.pins.filter (fun x => !(mine x)) }
  let keep (e : CacheEnt) : Bool :=
    (match e.name with
      | .transient q a _ => !(q == qp && a == asn)
      | _ => true) && !(e.pending.isSome && e.pins.isEmpty)
  modTmem s t (fun m =>
    { m with cache := (m.cache.map unpin).filter keep, pinQ := m.pinQ.filter (fun x => !(mine x)),
             tokens := m.tokens.filter (fun k => k.ctx != ctx),
             sens := m.sens.filter (fun k => !(k.qp == qp && k.asn == asn)), pair0 := run m.pair0, pair1 := run m.pair1,
             hashRun := run m.hashRun, hashWait := m.hashWait.filter (fun x => !(x.qp == qp && x.asn == asn)) })

/-- The script core of a descriptor is freed and its memory and registers zeroed, its handlers ended (08 R269; 09 R282, R309). -/
def releaseCore (s : State) (h : ScriptHold) : State :=
  match h with
  | .core c => modCore (endHandlers s c) c (fun k => { EloaCore.script with code := k.code, dbg := k.dbg })
  | _ => s

/-- A descriptor leaves a grant: the next waiter takes it in order (05 R139). -/
def Grant.leave (d : Nat × Nat) (g : Grant) : Option Grant :=
  if g.holder = d then
    match g.waiters with
    | [] => none
    | w :: r => some { g with holder := w, waiters := r }
  else some { g with waiters := g.waiters.filter (fun x => x != d) }

/-- A descriptor gives up every vault grant it holds or waits for. -/
def releaseGrant (s : State) (qp asn : Nat) : State :=
  modVault s (fun v => { v with grants := v.grants.filterMap (Grant.leave (qp, asn)) })

/-- A line secured for a descriptor and not written goes back to the partition's allotment (07 R229). -/
def releaseLine (s : State) (line : Option Nat) : State :=
  match line with
  | none => s
  | some i => if (lineOf s i).commit = 0 then modLines s (fun l => tblErase l i) else s

/-- A descriptor leaves its tile: everything it holds there is released, what waits for its engines takes them (03 R105), and it
holds no RVS capture (07 R237). -/
def leaveTile (s : State) (e : Entry) : State :=
  let s1 := match e.tile with
    | some t => releaseTile s t e.qp e.asn e.ctx
    | none => s
  let s2 := modQuarter (releaseCore s1 e.script) e.quarter
    (fun x => { x with matchQ := x.matchQ.filter (fun y => y != (e.qp, e.asn)) })
  let s3 := modEntry s2 e.qp e.asn (fun x => { x with capture := none, matching := 0, script := .none, keysReady := [],
                                                      steps := [], rngWait := false, retryOn := none, stored := [] })
  match e.tile with
  | some t => wakeEngines s3 t
  | none => s3

/-- Queue pairs of a quarter that paused for a list entry may fetch again (03 R76). -/
def unpause (s : State) (q : Nat) : State :=
  { s with qps := s.qps.map (fun x => if x.2.home = q then (x.1, { x.2 with paused := false }) else x) }

/-- A descriptor without a completion holds an entry of L6, where it is parked, or of L7, with class 0x0A (03 R76, R82; 13 R407). -/
def Entry.onList (e : Entry) : Bool :=
  e.cpl.isNone && (dClass e.desc == 0x0A || (match e.park with
    | .l6 _ _ => true
    | _ => false))

/-- A descriptor ends with a completion that needs no commit unit (04 R111): it leaves its tile, its grant and its line,
and its entry holds the completion. The entry of L6 or L7 that it held is free for those that wait for one (03 R76). -/
def finishEntry (s : State) (e : Entry) (c : Cpl) : State :=
  let s1 := releaseLine (releaseGrant (leaveTile s e) e.qp e.asn) e.line
  let s2 := modEntry s1 e.qp e.asn (fun x => { x with cpl := some c, committed := true, park := .none, deadline := none,
                                                      line := none, grant := false })
  if e.onList then unpause s2 e.quarter else s2

/-- The 64 bytes of a completion entry (02 R64, R65). -/
def cplBytes (q : Qp) (asn : Nat) (tag : List Byte) (c : Cpl) : List Byte :=
  leBytes 6 asn ++ leBytes 2 c.status ++ fit 8 tag ++ leBytes 4 c.outLen ++ leBytes 2 c.detail ++
    leBytes 1 c.result.length ++ leBytes 1 c.cflags ++ fit 32 c.result ++ leBytes 4 q.wm ++ zeros 3 ++
    leBytes 1 (1 - bits asn q.depthLog2 q.depthLog2)

/-- The address of the completion entry of an ASN (02 R41). -/
def cplAddr (q : Qp) (asn : Nat) : Nat := q.cqBase + 64 * (asn % depthOf q)

/-- HIF_DB_STS.CQ_FULL (02 R46). -/
def cqFull (s : State) (qp : Nat) : Bool :=
  match entryOf s qp (qpOf s qp).w with
  | some e => releasableButHead s (qpOf s qp) e && !headAllows (qpOf s qp) e.asn
  | none => false

/-- Send a queue pair's message and clear its count (02 R71). -/
def sendQpMsix (s : State) (qp : Nat) : State :=
  sendMsix (modQp s qp (fun x => { x with pendCount := 0 })) (qpOf s qp).func (qpOf s qp).vector

/-- A written completion counts toward the interrupt unless NO_IRQ is set; the message goes when the count is reached
or no coalescing is set, and waits while the mask is set (02 R58, R71, R73). -/
def countPending (s : State) (qp : Nat) (noIrq : Bool) : State :=
  if noIrq then s
  else
    let q := qpOf s qp
    let n := q.pendCount + 1
    let t := modQp s qp (fun x => { x with pendCount := n, pendSince := if q.pendCount = 0 then s.now else q.pendSince })
    if !q.irqMask && (decide (q.coalCount = 0 ∧ q.coalTime = 0) || decide (q.coalCount ≠ 0 ∧ q.coalCount ≤ n)) then
      sendQpMsix t qp
    else t

/-- Write out the pieces of an output string. -/
def sendPieces (s : State) (q : Qp) (ps : List (Nat × List Byte)) : State :=
  ps.foldl (fun u x => sendWrite u q x.1 x.2 true) s

/-- Every in-flight entry of quarter q is taken (03 R74). -/
def quarterFull (s : State) (q : Nat) : Bool := decide (16384 ≤ (s.entries.filter (fun e => e.quarter == q)).length)

/-- The output writes of a completion, and the completion as its entry will tell of them: an output write that cannot be translated
makes it DMA_WRITE_ERROR with the segment in DETAIL; an AES_GCM_DEC then writes zeros to every other segment (02 R69, 06 R188). What
is written is not written again (02 R66). -/
def writeOutputs (s : State) (e : Entry) (c : Cpl) (outFail : Option Nat) : State × Cpl :=
  let q := qpOf s e.qp
  let outs := match e.input with
    | some o => o.outs
    | none => []
  if c.out.isEmpty then (s, c)
  else match outFail with
    | none => (sendPieces s q (spread outs c.out), { c with out := [] })
    | some i =>
      let s1 := if dCmd e.desc = 0x0108 then sendPieces s q ((outs.eraseIdx i).map (fun g => (g.addr, zeros g.len)))
        else sendPieces s q ((spread outs c.out).take i)
      (s1, Cpl.fail 0x0008 i)

/-- Write the completion entry of an ASN (02 R66). The in-flight entry is freed, its unused reserved records go back (04 R118), and w
advances. -/
def writeCompletion (s : State) (e : Entry) (c : Cpl) : State :=
  let q := qpOf s e.qp
  let s2 := sendWrite s q (cplAddr q e.asn) (cplBytes q e.asn (dTag e.desc) c) false
  let s3 := delEntry s2 e.qp e.asn
  let s4 := modQp s3 e.qp (fun x => { x with w := add48 x.w 1, paused := false })
  let s5 := modPart s4 q.partition (fun x => { x with recordsReserved := x.recordsReserved - e.records })
  let s6 := modQuarter (if quarterFull s e.quarter then unpause s5 e.quarter else s5) e.quarter (fun x => { x with lastSend := s.now })
  countPending s6 e.qp (dNoIrq e.desc)

/-- COAL_TIME_EXPIRY (02 R71, R72): the oldest pending completion is COAL_TIME old and the message goes; a set mask
withholds it (02 R73). -/
def execCoalTimeExpiry (qp : Nat) (s : State) : Host.Outcome State Fault Refusal :=
  let q := qpOf s qp
  guardUnit (qpOk qp) qp s
    (if q.coalTime ≠ 0 ∧ q.pendCount ≠ 0 ∧ q.irqMask = false then
      sendQpMsix (advanceTo s (q.pendSince + q.coalTime)) qp
    else s)

/-- FLUSHING_READ_RETURN (04 R112): the zero-length read of a function and PASID has returned, and with it every
completion written before it counts as written. The read's issue and its return are one event here (log 15); while all 512 places of
outstanding requests are taken it is not issued (02 R33). -/
def execFlushingReadReturn (func : Nat) (pasid : Option Nat) (s : State) : Host.Outcome State Fault Refusal :=
  let t := send s (.flushRead func pasid)
  done s (if !readPlace s then s
    else { t with qps := s.qps.map (fun x =>
      if x.2.func = func ∧ pasidOf x.2 = pasid then (x.1, { x.2 with flushed := x.2.w }) else x) })

end Sys2Proof.Machine
end

