-- ==== Sys2Proof/Machine/VaultBase.lean ====
section
/-!
DEFINITION. Vault records: lines and commits, slots and extents, handles and their check field, and the checks at a
key's use (07 R210 to R241).
-/

namespace Sys2Proof.Machine

open Sys2Proof

/-- STATE values of a record (07 R217). -/
abbrev recFree : Nat := 0
/-- ACTIVE. -/
abbrev recActive : Nat := 1
/-- RETIRED. -/
abbrev recRetired : Nat := 3
/-- LOST. -/
abbrev recLost : Nat := 4

/-- OWNER of module records: all ones (07 R217). -/
def ownerModule (r : KeyRec) : Bool := r.ownerPart == 0xFFF && r.ownerInc == 0xFFFFF

/-- OWNER names partition p in its incarnation. -/
def ownedBy (s : State) (p : Nat) (r : KeyRec) : Bool :=
  r.ownerPart == p && r.ownerInc == (partOf s p).incarnation % 2 ^ 20 && !ownerModule r

/-- The line that holds a version of a physical slot. -/
def lineFor (s : State) (phys : Nat) : Option Nat :=
  (s.vault.lines.find? (fun x => x.2.slot == phys && x.2.commit != 0)).map (fun x => x.1)

/-- The n least numbers from k on, below lim, that are not taken. -/
def lowestFreeN (taken : List Nat) (lim n k fuel : Nat) : List Nat :=
  match fuel with
  | 0 => []
  | fuel + 1 =>
    match n with
    | 0 => []
    | n + 1 =>
      if lim ≤ k then []
      else if taken.contains k then lowestFreeN taken lim (n + 1) (k + 1) fuel
      else k :: lowestFreeN taken lim n (k + 1) fuel

/-- Lines a partition or the trusted kernel holds (07 R226). -/
def linesHeld (s : State) (kind p : Nat) : Nat :=
  (s.vault.lines.filter (fun x => x.2.kind == kind && (kind == 2 || x.2.part == p))).length

/-- The line allotment of partition p: its reserve of 2 and its grant (07 R229). -/
def lineAllotment (s : State) (p : Nat) : Nat := 2 + objNat s (0x4000 + p) 0x21 0

/-- A free line for a holder, within its allotment (07 R229). -/
def freeLine (s : State) (kind p : Nat) : Option Nat :=
  let room := if kind = 1 then linesHeld s 1 p < lineAllotment s p else linesHeld s 2 p < 64
  let i := lowestFree (s.vault.lines.map (fun x => x.1)) 0 (s.vault.lines.length + 1)
  if room ∧ i < Config.numLines then some i else none

/-- Secure a free line for a holder (07 R229). -/
def secureLine (s : State) (kind p : Nat) : Option (Nat × State) :=
  (freeLine s kind p).map (fun i => (i, modLines s (fun l => tblSet l i { Line.reset with kind := kind, part := p })))

/-- The version in force that a line holds, if it holds one (07 R226). -/
def lineVersion (l : Line) : Option Sealed :=
  if l.commit = 0 then none
  else if l.commit = l.isnA then l.slotA
  else if l.commit = l.isnB then l.slotB
  else none

/-- Every sealed version of a physical slot that the lines and the images hold, in force or not. -/
def sealedOf (s : State) (phys : Nat) : List Sealed :=
  (s.vault.lines.filter (fun x => x.2.slot == phys)).flatMap (fun x => x.2.slotA.toList ++ x.2.slotB.toList) ++
    (tblFind s.vault.img0 phys).toList ++ (tblFind s.vault.img1 phys).toList

/-- GEN, LGEN and REV_SEQ that a slot keeps beneath an extension (07 R214; log 18). -/
def underOf (s : State) (phys : Nat) : Nat × Nat × Nat := tblGet (0, 0, 0) s.vault.under phys

/-- GEN of a physical slot: an extension's HANDLE is its owner's, so the slot's own is kept beneath it (07 R214, R217). -/
def slotGen (s : State) (phys : Nat) : Nat :=
  if (slotOf s phys).state = recExtension then (underOf s phys).1 else hGen (slotOf s phys).handle

/-- VER of a physical slot: it never decreases, wherever the slot's versions stand (07 R217, R223). -/
def slotVer (s : State) (phys : Nat) : Nat := ((sealedOf s phys).map Sealed.ver).foldl max (slotOf s phys).ver

/-- LGEN of a physical slot, which never decreases (07 R214). -/
def slotLgen (s : State) (phys : Nat) : Nat :=
  ((sealedOf s phys).map Sealed.lgen).foldl max (max (slotOf s phys).lgen (underOf s phys).2.1)

/-- REV_SEQ of a physical slot, which never decreases (07 R214). -/
def slotRevSeq (s : State) (phys : Nat) : Nat :=
  ((sealedOf s phys).map Sealed.revSeq).foldl max (max (slotOf s phys).revSeq (underOf s phys).2.2)

/-- A record as the next version of its slot: VER rises by 1, and LGEN and REV_SEQ are no less than the slot has held (07 R214,
R217). -/
def nextVersion (s : State) (phys : Nat) (r : KeyRec) : KeyRec :=
  { r with ver := slotVer s phys + 1, lgen := max r.lgen (slotLgen s phys), revSeq := max r.revSeq (slotRevSeq s phys) }

/-- Write a version of a slot, sealed under key, through a line as commit unit n (07 R223, R227): into the line's slot that COMMIT does
not name, then COMMIT, and with it the working copy. -/
def commitRecord (s : State) (key : List Byte) (phys : Nat) (r : KeyRec) (line n : Nat) : State :=
  let r' := nextVersion s phys r
  let l := lineOf s line
  let l' := if l.commit ≠ 0 ∧ l.commit = l.isnA then
      { l with slotB := some (sealRec key phys r'), isnB := n, commit := n, slot := phys }
    else { l with slotA := some (sealRec key phys r'), isnA := n, commit := n, slot := phys }
  modVault (modLines s (fun t => tblSet t line l'))
    (fun x => { x with slots := tblSet x.slots phys r', lost := x.lost.filter (fun y => y != phys) })

/-- Checkpoint one line: its version goes to both images, then the line is freed (07 R230). -/
def checkpointLine (s : State) (i : Nat) : State :=
  match lineVersion (lineOf s i) with
  | none => s
  | some v =>
    let phys := (lineOf s i).slot
    modLines (modVault s (fun x => { x with img0 := tblSet x.img0 phys v, img1 := tblSet x.img1 phys v })) (fun l => tblErase l i)

/-- A line whose version the NAND images do not hold (07 R230). -/
def lineDirty (l : Line) : Bool := l.commit != 0 && l.commit != l.ckpt

/-- The physical page that an image's page map gives a logical page (07 R225). -/
def mapOf (m : Tbl Nat) (page : Nat) : Nat := tblGet page m page

/-- A physical page of an image holds a logical page's current version. -/
def pageUsed (m : Tbl Nat) (phys : Nat) : Bool :=
  m.any (fun x => x.2 == phys) || (decide (phys < 65536) && (tblFind m phys).isNone)

/-- The next erased physical page of an image from p on, of its 131,072; every page that no map entry names is erased ahead of need (07
R230; log 83). -/
def erasedPage (m : Tbl Nat) (p k : Nat) : Nat :=
  match k with
  | 0 => p
  | k + 1 => if pageUsed m p then erasedPage m ((p + 1) % 131072) k else p

/-- Program a logical page of an image to an erased physical page, then write its map entry (07 R230 steps 2 and 3): the map, and where
the next page goes. -/
def programPage (m : Tbl Nat) (next page : Nat) : Tbl Nat × Nat :=
  let p := erasedPage m next (m.length + 65537)
  (tblSet m page p, (p + 1) % 131072)

/-- Checkpoint one logical page of 64 slots: both images take it with the versions in force, CKPT takes COMMIT and the lines are freed
(07 R230). -/
def checkpointPage (s : State) (page : Nat) : State :=
  let (m0, n0) := programPage s.vault.map0 s.vault.next0 page
  let (m1, n1) := programPage s.vault.map1 s.vault.next1 page
  let s1 := modVault s (fun v => { v with map0 := m0, next0 := n0, map1 := m1, next1 := n1 })
  ((s.vault.lines.filter (fun x => lineDirty x.2 && x.2.slot / 64 == page)).map (fun x => x.1)).foldl checkpointLine s1

/-- Another writer has slot phys: a descriptor under its grant, or a commit unit that will write it (05 R139; 07 R223). -/
def slotTaken (s : State) (phys : Nat) : Bool :=
  s.vault.grants.any (fun g => g.phys == phys) || s.journal.units.any (fun u => match u.rcd.effect with
    | .record x _ _ => x == phys
    | _ => false)

/-- A record change of the trusted kernel through one of its lines, under the slot's grant (07 R223, R229; 05 R139): the unit takes the
next ISN. While another writer has the slot, or with no line free, it waits: none. -/
def trustedCommit (s : State) (phys : Nat) (r : KeyRec) : Option State :=
  let n := s.journal.isn
  let s' := modJournal s (fun j => { j with isn := n + 1 })
  if slotTaken s phys then none
  else match lineFor s phys with
    | some i => some (commitRecord s' (svcVrk s) phys r i n)
    | none => (secureLine s' 2 0).map (fun x => commitRecord x.2 (svcVrk s) phys r x.1 n)

/-- The check key of partition p in its incarnation, or of module records, from the handle check base (07 R211). -/
def checkKey (base : List Byte) (owner : Option (Nat × Nat)) : List Byte :=
  match owner with
  | some (p, inc) => kdfCmac (aesCipher base) (ascii "YQ4-HCK") (leBytes 2 p ++ leBytes 4 inc) 32
  | none => kdfCmac (aesCipher base) (ascii "YQ4-HCK-M") [] 32

/-- The leftmost 14 bits of the CMAC over a handle with CHECK zero (07 R213). -/
def handleCheck (base : List Byte) (owner : Option (Nat × Nat)) (h0 : Nat) : Nat :=
  beNat (slice (cmac (aesCipher (checkKey base owner)) (leBytes 8 h0)) 0 2) / 4

/-- A handle as issued (07 R215): a lane computes its check field under the owner's check key. -/
def issueHandle (base : List Byte) (owner : Option (Nat × Nat)) (slot gen : Nat) : Nat :=
  let p := match owner with
    | some (p, _) => p
    | none => 0
  let h0 := mkHandle p slot gen 0
  h0 + handleCheck base owner h0

/-- The physical slots that the extensions of a record of partition p lie in (07 R217, R222). -/
def extSlots (s : State) (r : KeyRec) : List Nat :=
  (List.range r.extCount).filterMap (fun i => if ownerModule r then some (r.extFirst + i) else physOf s r.ownerPart (r.extFirst + i))

/-- Physical slots that a commit unit still waiting will write, its extensions among them: they are not free. -/
def slotsPending (s : State) : List Nat :=
  s.journal.units.flatMap (fun u =>
    match u.rcd.effect with
    | .record phys r _ => phys :: extSlots s r
    | _ => [])

/-- Is slot index i of partition p free: never index 0, FREE or of an ended incarnation (07 R214, R222)? -/
def slotFree (s : State) (p i : Nat) : Bool :=
  match physOf s p i with
  | none => false
  | some phys =>
    let r := slotOf s phys
    i != 0 && (r.state == recFree || !ownedBy s p r) && !(slotsPending s).contains phys

/-- The lowest run of n free indices of partition p from index k on (07 R222). -/
def findRun (s : State) (p n k fuel : Nat) : Option Nat :=
  match fuel with
  | 0 => none
  | fuel + 1 =>
    if (partOf s p).extents.length * 512 < k + n then none
    else if (List.range n).all (fun j => slotFree s p (k + j)) then some k
    else findRun s p n (k + 1) fuel

/-- The lowest run of n free indices of partition p. -/
def allocRun (s : State) (p n : Nat) : Option Nat := findRun s p n 1 ((partOf s p).extents.length * 512)

/-- The generation of the next key in a slot: a freed slot holds it already, an ended incarnation's goes up by 1 (07
R214; log 18). -/
def nextGen (s : State) (p phys : Nat) : Nat :=
  let r := slotOf s phys
  if r.state = recFree ∧ (ownedBy s p r ∨ r.handle = 0) then slotGen s phys else (slotGen s phys + 1) % 65536

/-- Is slot index i of the module's extents 0 and 1 free (07 R222)? -/
def modSlotFree (s : State) (i : Nat) : Bool := i != 0 && (slotOf s i).state == recFree

/-- The lowest free module slot. -/
def allocModule (s : State) : Option Nat :=
  (lowestFreeN ((s.vault.slots.filter (fun x => decide (x.1 < 1024) && !modSlotFree s x.1)).map (fun x => x.1))
    1024 1 1 1024).head?

/-- Slots of partition p that hold something (08 R274 KEY_SLOTS_USED). -/
def slotsUsed (s : State) (p : Nat) : Nat :=
  (s.vault.slots.filter (fun x => (partOf s p).extents.contains (x.1 / 512) && ownedBy s p x.2 &&
    (x.2.state == recActive || x.2.state == recExtension))).length

/-- The effective LGEN of a record for a capture (07 R239); a use without one sees LGEN itself. -/
def effLgen (c : Option Nat) (r : KeyRec) : Nat := if c.any (fun x => decide (x < r.revSeq)) then r.lgen - 1 else r.lgen

/-- The lineage rule (07 R239) for a capture c: every ancestor entry equals the ancestor's effective LGEN, and no
ancestor slot is RETIRED (07 R214). -/
def lineageOk (s : State) (p c : Nat) (r : KeyRec) : Bool :=
  r.anc.all (fun (i, g) =>
    match physOf s p i with
    | none => false
    | some phys =>
      let a := slotOf s phys
      a.state != recRetired && g == effLgen (some c) a)

/-- The record behind a handle presented on a queue pair of partition p, if the handle is valid (07 R216). -/
def handleRecord (s : State) (p h : Nat) : Option KeyRec :=
  if hPart h ≠ p then none
  else match physOf s p (hSlot h) with
    | none => none
    | some phys =>
      let r := slotOf s phys
      if r.state = recActive ∧ ownedBy s p r ∧ r.handle = h then some r else none

/-- Worlds of 07 R217, as bit numbers. -/
abbrev wTrusted : Nat := 0
/-- OPEN. -/
abbrev wOpen : Nat := 1
/-- SCRIPT. -/
abbrev wScript : Nat := 2
/-- DATA. -/
abbrev wData : Nat := 3

/-- Usage bits of 07 R217. -/
abbrev uEnc : Nat := 0
/-- DEC. -/
abbrev uDec : Nat := 1
/-- MAC_GEN. -/
abbrev uMacGen : Nat := 2
/-- MAC_VER. -/
abbrev uMacVer : Nat := 3
/-- PIN_XLATE. -/
abbrev uPinXlate : Nat := 4
/-- PIN_VER. -/
abbrev uPinVer : Nat := 5
/-- WRAP. -/
abbrev uWrap : Nat := 6
/-- UNWRAP. -/
abbrev uUnwrap : Nat := 7
/-- DERIVE. -/
abbrev uDerive : Nat := 8
/-- SIGN. -/
abbrev uSign : Nat := 9
/-- VERIFY. -/
abbrev uVerify : Nat := 10
/-- KEM. -/
abbrev uKem : Nat := 11
/-- PIN_IN_ONLY. -/
abbrev uPinInOnly : Nat := 12
/-- PIN_OUT_ONLY. -/
abbrev uPinOutOnly : Nat := 13

/-- What a command asks of a key: the usages of which one must be held (none for no usage check), and for a PIN key the
direction it must not be closed to. -/
structure KeyNeed where
  usages : List Nat
  shut   : Option Nat

/-- A usage is required. -/
def KeyNeed.use (u : Nat) : KeyNeed := { usages := [u], shut := none }
/-- No usage is required. -/
def KeyNeed.any : KeyNeed := { usages := [], shut := none }
/-- An inbound PIN key: a PIN_OUT_ONLY key is refused (07 R219). -/
def KeyNeed.pinIn : KeyNeed := { usages := [uPinXlate], shut := some uPinOutOnly }
/-- An outbound PIN key: a PIN_IN_ONLY key is refused (07 R219). -/
def KeyNeed.pinOut : KeyNeed := { usages := [uPinXlate], shut := some uPinInOnly }

/-- The use is permitted by usage, world, master and life-cycle state (07 R219, R220). -/
def useOk (s : State) (n : KeyNeed) (world master : Nat) (r : KeyRec) : Bool :=
  (n.usages.isEmpty || n.usages.any (fun u => bit r.usage u)) &&
    (match n.shut with
      | some u => !bit r.usage u
      | none => true) && bit r.worlds world && bit r.masters master && bit r.lcSet (lifeCycle s)

/-- The checks of 07 R219 up to KEY_NOT_PERMITTED for a key field given by handle: an error status or the record. -/
def checkKeyUse (s : State) (p c : Nat) (n : KeyNeed) (world : Nat) (h : Nat) : Except Nat KeyRec :=
  if h = 0 then .error 0x0015
  else match handleRecord s p h with
    | none => .error 0x0012
    | some r =>
      if !lineageOk s p c r then .error 0x0011
      else if !useOk s n world 0 r then .error 0x0010
      else .ok r

/-- The blocks of a key-cache entry by algorithm, its tag included; an HMAC key's fill holds one hash (07 R232). -/
def blocksOf (alg : Nat) : Nat :=
  if alg = 0x20 then 5
  else if alg = 0x30 then 11 else if alg = 0x31 then 16 else if alg = 0x32 then 21
  else if alg = 0xB0 then 6 else if alg = 0xB1 then 8 else if alg = 0xB2 then 10
  else if alg = 0x40 then 3 else if alg = 0x41 then 4 else if alg = 0x42 then 2
  else if alg = 0xC0 then 2 else if alg = 0xC1 then 3 else if alg = 0xC2 then 2
  else if alg = 0x50 then 27 else if alg = 0x51 then 39 else if alg = 0x52 then 51
  else if alg = 0xD0 then 14 else if alg = 0xD1 then 20 else if alg = 0xD2 then 26
  else if alg = 0x58 then 41 else if alg = 0x59 then 64 else if alg = 0x5A then 78
  else if alg = 0xD8 then 22 else if alg = 0xD9 then 32 else if alg = 0xDA then 42
  else 2

/-- Extension slots by algorithm (07 R218). -/
def extCountOf (alg : Nat) : Nat :=
  if alg = 0x30 ∨ alg = 0xB0 then 1 else if alg = 0x31 ∨ alg = 0x32 ∨ alg = 0xB1 ∨ alg = 0xB2 then 2
  else if alg = 0xD0 then 4 else if alg = 0xD1 then 5 else if alg = 0xD2 then 7
  else if alg = 0xD8 then 6 else if alg = 0xD9 then 9 else if alg = 0xDA then 12 else 0

/-- The ancestor list of a child of parent record r, created under capture c: a creation that a revocation overtakes takes the old LGEN
(07 R236, R242). -/
def childAnc (c : Option Nat) (r : KeyRec) : List (Nat × Nat) := (hSlot r.handle, effLgen c r) :: r.anc

end Sys2Proof.Machine
end

