-- ==== Sys2Proof/Machine/KeySpec.lean ====
section
/-!
DEFINITION. The key fields each command uses, with the usage and the algorithms it asks for (05 R133; 06 R180, R201,
R202; 08 R273), and the key-cache space a descriptor takes (07 R232 to R234).
-/

namespace Sys2Proof.Machine

open Sys2Proof

/-- A key field a command uses: its number, what it asks of the key, the algorithms that suit, whether it may be 0. -/
structure KSpec where
  k        : Nat
  need     : KeyNeed
  alg      : Nat → Bool
  optional : Bool

/-- 2-key or 3-key TDES. -/
def isTdes (a : Nat) : Bool := a == 0x01 || a == 0x02
/-- AES. -/
def isAes (a : Nat) : Bool := a == 0x10 || a == 0x11 || a == 0x12
/-- Any algorithm. -/
def anyAlg (_ : Nat) : Bool := true
/-- The key of a PIN block format (05 R143); a value that is no format of a key block rules nothing out here. -/
def fmtAlg (f a : Nat) : Bool := if f = 4 then isAes a else if f = 0 ∨ f = 1 ∨ f = 3 then isTdes a else true
/-- TDES DUKPT takes the double-length base key of X9.24-1, AES DUKPT an AES key (05 R156). -/
def dukptAlg (v a : Nat) : Bool := if v = 0 then a == 0x01 else isAes a

/-- The private-key ALG of a parameter set of class 0x08 or 0x09, 0 for a set that is not listed (06 R202, 07 R218). -/
def paramAlg (cls ps : Nat) : Nat :=
  if cls = 8 then
    if ps ≤ 2 then 0x30 + ps else if ps = 4 ∨ ps = 5 then 0x3C + ps else if ps = 8 then 0x42 else 0
  else if ps ≤ 2 then 0x50 + ps
  else if 4 ≤ ps ∧ ps ≤ 6 then 0x54 + ps
  else if 8 ≤ ps ∧ ps ≤ 11 then 0xD8 + ps
  else 0

/-- A required key field with one usage and a set of algorithms. -/
def KSpec.req (k u : Nat) (alg : Nat → Bool) : KSpec := { k := k, need := .use u, alg := alg, optional := false }
/-- A required key field with a need. -/
def KSpec.needs (k : Nat) (n : KeyNeed) (alg : Nat → Bool) : KSpec := { k := k, need := n, alg := alg, optional := false }
/-- The field may be 0. -/
def KSpec.opt (x : KSpec) : KSpec := { x with optional := true }

/-- Key fields of PIN_TRANSLATE (05 R140): handles of form 0, and the protection key where a form is 1 or 2. -/
def keysPinTranslate (p : Nat) : List KSpec :=
  let k1 := KSpec.needs 1 .pinIn (fmtAlg (bits p 2 0))
  let k2 := KSpec.needs 2 .pinOut (fmtAlg (bits p 6 4))
  (if bits p 9 8 = 0 ∧ bits p 11 10 = 0 then [] else [.req 0 uUnwrap anyAlg]) ++ (if bits p 9 8 = 0 then [k1] else []) ++
    (if bits p 11 10 = 0 then [k2] else [])

/-- Key fields of classes 0x08 and 0x09 (06 R201, R202). -/
def keysPke (c p : Nat) : List KSpec :=
  let a := paramAlg (c / 256) (bits p 3 0)
  let priv (x : Nat) : Bool := x == a
  let pub (x : Nat) : Bool := x == a || x == a + 0x80
  if c = 0x0801 ∨ c = 0x0810 ∨ c = 0x0820 ∨ c = 0x0910 then [.req 0 uSign priv]
  else if c = 0x0802 ∨ c = 0x0811 ∨ c = 0x0821 ∨ c = 0x0911 ∨ c = 0x0920 then [.req 0 uVerify pub]
  else if c = 0x0803 then [.req 0 uEnc pub]
  else if c = 0x0804 then [.req 0 uDec priv]
  else if c = 0x0812 then [.req 0 uDerive priv]
  else if c = 0x0831 ∨ c = 0x0931 then [.needs 0 .any pub]
  else if c = 0x0901 then [.req 0 uKem pub]
  else if c = 0x0902 then [.req 0 uKem priv]
  else []

/-- Key fields of classes 0x02 to 0x06 (05 R133). -/
def keysPay (c p : Nat) : List KSpec :=
  if c = 0x0201 then keysPinTranslate p
  else if c = 0x0202 ∨ c = 0x0203 then
    [.needs 0 .pinIn (fmtAlg (bits p 2 0)), .req 1 uPinVer isTdes, (KSpec.req 3 uPinVer (· == 0x70)).opt]
  else if c = 0x0204 ∨ c = 0x0205 then [.needs 0 .pinIn (fmtAlg (bits p 2 0)), .req 1 uPinVer isTdes]
  else if c = 0x0301 then [.req 0 uDerive (dukptAlg (bits p 0 0)), .needs 1 .pinOut (fmtAlg (bits p 10 8))]
  else if c = 0x0306 then [.req 0 uDerive (dukptAlg (bits p 0 0)), .req 1 uWrap anyAlg]
  else if 0x0302 ≤ c ∧ c ≤ 0x0305 then [.req 0 uDerive (dukptAlg (bits p 0 0))]
  else if c = 0x0401 ∨ c = 0x0410 then [.req 0 uMacGen (fun a => isTdes a || isAes a)]
  else if c = 0x0402 ∨ c = 0x0411 then [.req 0 uMacVer (fun a => isTdes a || isAes a)]
  else if c = 0x0403 then [.req 0 uMacGen (· == 0x01)]
  else if c = 0x0404 then [.req 0 uMacVer (· == 0x01)]
  else if c = 0x0420 then [.req 0 uMacGen (· == 0x20)]
  else if c = 0x0421 then [.req 0 uMacVer (· == 0x20)]
  else if c = 0x0503 then
    [.req 0 uDerive (fun a => isTdes a || isAes a), .needs 1 .pinIn (fmtAlg (bits p 6 4))]
  else if c = 0x0501 ∨ c = 0x0502 ∨ c = 0x0504 then [.req 0 uDerive (fun a => isTdes a || isAes a)]
  else if c = 0x0601 then [.req 0 uMacGen (· == 0x01)]
  else if c = 0x0602 then [.req 0 uMacVer (· == 0x01)]
  else []

/-- Key fields of classes 0x07, 0x0C and 0x0F (05 R133, R170, R172, R173, R175; 08 R273). -/
def keysOther (c p : Nat) : List KSpec :=
  let locker (a : Nat) : Bool := a == 0x40 || a == 0x42
  if c = 0x0701 then [.req 0 uUnwrap anyAlg]
  else if c = 0x0702 then [.req 0 uWrap anyAlg, .needs 1 .any anyAlg]
  else if c = 0x0703 then [(KSpec.req 0 uWrap anyAlg).opt]
  else if c = 0x0710 then
    [.req 0 uVerify anyAlg, .req 1 uSign (fun a => if bit p 0 then a == 0x59 else 0x30 ≤ a && a ≤ 0x32),
     .needs 2 .any anyAlg]
  else if c = 0x0711 then
    if bit p 0 then [.req 0 uVerify (fun a => a == 0x59 || a == 0xD9), .req 1 uKem (· == 0x51)]
    else [.req 0 uVerify (fun a => 0x30 ≤ a % 0x80 && a % 0x80 ≤ 0x32), .req 1 uUnwrap (fun a => 0x30 ≤ a && a ≤ 0x32)]
  else if c = 0x0C01 ∨ c = 0x0C03 then [.req 0 uMacGen (· == 0x20)]
  else if c = 0x0C02 ∨ c = 0x0C04 then [.req 0 uMacVer (· == 0x20)]
  else if c = 0x0C10 then [.req 0 uSign locker]
  else if c = 0x0C11 then [.req 0 uVerify (fun a => locker a || a == 0xC0 || a == 0xC2)]
  else if c = 0x0F02 then [.needs 0 .any anyAlg]
  else if c = 0x0F11 ∨ c = 0x0F12 then [.req 0 uPinVer (· == 0x70)]
  else []

/-- Key fields of class 0x01 (06 R180). -/
def keysSym (c : Nat) : List KSpec :=
  if c = 0x0101 ∨ c = 0x0103 ∨ c = 0x0106 ∨ c = 0x0107 then [.req 0 uEnc isAes]
  else if c = 0x0102 ∨ c = 0x0104 ∨ c = 0x0105 ∨ c = 0x0108 then [.req 0 uDec isAes]
  else if c = 0x0111 ∨ c = 0x0113 then [.req 0 uEnc isTdes]
  else if c = 0x0112 ∨ c = 0x0114 then [.req 0 uDec isTdes]
  else []

/-- The key fields a descriptor's command uses, KEY0 first. -/
def keysOf (d : List Byte) : List KSpec :=
  let c := dCmd d
  let p := dParamN d
  if c / 256 = 0x01 then keysSym c
  else if c / 256 = 0x08 ∨ c / 256 = 0x09 then keysPke c p
  else if 0x02 ≤ c / 256 ∧ c / 256 ≤ 0x06 then keysPay c p
  else keysOther c p

/-- The checks of 07 R219 for a key field, in the order of 02 R62 check 5. AES_CTR_HW and AES_GCM_ENC refuse a key whose
export rule is not N (06 R180). -/
def checkKeyField (s : State) (p c : Nat) (d : List Byte) (x : KSpec) : Except Nat KeyRec :=
  match checkKeyUse s p c x.need wData (dKey d x.k) with
  | .error e => .error e
  | .ok r =>
    if (dCmd d = 0x0106 ∨ dCmd d = 0x0107) ∧ r.exportRule ≠ 0 then .error 0x0010
    else if !x.alg r.alg then .error 0x0014
    else .ok r

/-- Blocks of a key-cache entry that a record takes: a counter record takes none (07 R232). -/
def cacheBlocks (r : KeyRec) : Nat := if r.alg = 0x70 then 0 else blocksOf r.alg

/-- The hash a command names for an HMAC key, by the numbers of 05 R160 (07 R232). -/
def hashOf (d : List Byte) : Nat :=
  let c := dCmd d
  let p := dParamN d
  if c = 0x0420 ∨ c = 0x0421 then bits p 21 20
  else if c / 256 = 0x0C then (if bits p 5 4 = 1 then 2 else 0)
  else 0

/-- Blocks by which an entry grows for a hash whose states it does not hold (07 R232, R234). -/
def growthOf (h : Nat) (e : CacheEnt) : Nat :=
  if e.key.alg = 0x20 ∧ e.hashes ≠ [] ∧ !e.hashes.contains h then 2 else 0

/-- Transient key-cache space of a descriptor in blocks (07 R232, R234): 2 for each key it derives or unwraps. -/
def transientBlocks (d : List Byte) : Nat :=
  let c := dCmd d
  let p := dParamN d
  if c = 0x0201 then 2 * (b2n (bits p 9 8 == 1) + b2n (bits p 11 10 == 1))
  else if c / 256 = 0x03 ∨ c / 256 = 0x05 ∨ c = 0x0701 then 2
  else 0

/-- The keys of a descriptor that its valid handles name, each once, by field. -/
def keysNamed (s : State) (p : Nat) (d : List Byte) : List (Nat × KeyRec) :=
  ((keysOf d).filterMap (fun x => (handleRecord s p (dKey d x.k)).map (fun r => (x.k, r)))).foldl
    (fun l x => if l.any (fun y => y.2.handle == x.2.handle) then l else l ++ [x]) []

/-- Does a cache entry of partition p name handle h? -/
def CacheEnt.isKey (p h : Nat) (e : CacheEnt) : Bool := e.colour == p && e.name == .key h

/-- The blocks a key takes in a tile for a descriptor: its entry's with its growth, or those of a new entry. -/
def blocksIn (m : TileMem) (p h : Nat) (r : KeyRec) : Nat :=
  match m.cache.find? (CacheEnt.isKey p r.handle) with
  | some e => e.blocks + growthOf h e
  | none => cacheBlocks r

/-- The first key field whose entry does not fit the quota with those before it (07 R233). -/
def overQuota (m : TileMem) (p h quota used : Nat) (l : List (Nat × KeyRec)) : Option Nat :=
  match l with
  | [] => none
  | (k, r) :: t =>
    if quota < used + blocksIn m p h r then some k else overQuota m p h quota (used + blocksIn m p h r) t

/-- Blocks of partition p in a tile's cache that are pinned and that none of these handles names. -/
def heldBlocks (m : TileMem) (p : Nat) (hs : List Nat) : Nat :=
  ((m.cache.filter (fun e => e.colour == p && !e.pins.isEmpty && !(hs.any (fun h => e.isKey p h)))).map
    (fun e => e.blocks)).sum

/-- Blocks of partition p's colour in a tile's cache. -/
def colourBlocks (l : List CacheEnt) (p : Nat) : Nat := ((l.filter (fun e => e.colour == p)).map (fun e => e.blocks)).sum

/-- Take out a partition's least recently used unpinned entries until at most room blocks of its colour remain (07 R233).
The list is walked from its end. -/
def evictFrom (p room : Nat) (rev : List CacheEnt) (total : Nat) : List CacheEnt :=
  match rev with
  | [] => []
  | e :: r =>
    if total ≤ room then e :: r
    else if e.colour = p ∧ e.pins.isEmpty then evictFrom p room r (total - e.blocks)
    else e :: evictFrom p room r total

/-- Pin one key for a descriptor d that names hash h: its entry moves to the front and grows, or one is made for the fill
to write. -/
def pinOne (p h : Nat) (d : Nat × Nat) (m : TileMem) (r : KeyRec) : TileMem :=
  if cacheBlocks r = 0 then m
  else match m.cache.find? (CacheEnt.isKey p r.handle) with
    | some e =>
      let e' := { e with pins := if e.pins.contains d then e.pins else d :: e.pins, blocks := e.blocks + growthOf h e,
                         hashes := if growthOf h e = 0 then e.hashes else h :: e.hashes }
      { m with cache := e' :: m.cache.filter (fun x => !(x.isKey p r.handle)) }
    | none =>
      let e : CacheEnt := { colour := p, name := .key r.handle, blocks := cacheBlocks r, pins := [d], pending := none,
                            filled := false, hashes := if r.alg = 0x20 then [h] else [], key := r }
      { m with cache := e :: m.cache }

/-- The transient space of a descriptor, held as an entry of its own (07 R232). -/
def transientEnt (p : Nat) (d : Nat × Nat) (n : Nat) : List CacheEnt :=
  if n = 0 then []
  else [{ colour := p, name := .transient d.1 d.2 0, blocks := n, pins := [d], pending := none, filled := true,
          hashes := [], key := KeyRec.reset }]

/-- Obtain and pin all of a descriptor's entries at once, its transient space with them, if the partition's unpinned space
supplies them (07 R234). Replacement takes the partition's own least recently used unpinned entries. -/
def pinAll (s : State) (t p quota : Nat) (d : Nat × Nat) (desc : List Byte) : Option State :=
  let m := tmemOf s t
  let h := hashOf desc
  let ks := (keysNamed s p desc).map (fun x => x.2)
  let want := (ks.map (blocksIn m p h)).sum + transientBlocks desc
  if quota < heldBlocks m p (ks.map (fun r => r.handle)) + want then none
  else
    let m1 := ks.foldl (pinOne p h d) m
    let all := transientEnt p d (transientBlocks desc) ++ m1.cache
    let cache := (evictFrom p quota all.reverse (colourBlocks all p)).reverse
    some (modTmem s t (fun _ => { m1 with cache := cache, pinQ := m1.pinQ.filter (fun x => x != d) }))

end Sys2Proof.Machine
end

