-- ==== Sys2Proof/Machine/Squash.lean ====
section
/-!
DEFINITION. Drain and squash, when they end (04 R127 to R129; 08 R254 to R257), and the release of completions (02 R66; 03 R102).
-/

namespace Sys2Proof.Machine

open Sys2Proof

/-- The DONE record of an ASN of a queue pair, the one of highest ISN (04 R121). -/
def doneRecord (s : State) (qp asn : Nat) : Option JRec :=
  (s.journal.records.filter (fun r => decide (r.qp = qp ∧ r.asn = asn ∧ r.state = 2))).getLast?

/-- The completion that a DONE record gives: REPLAYED is set (04 R123, 02 R64). -/
def replayCpl (r : JRec) : Cpl := { r.cpl with cflags := r.cpl.cflags ||| 1 }

/-- An in-flight entry with nothing done for it yet. -/
def Entry.fresh (qp asn quarter : Nat) (desc : List Byte) : Entry :=
  { qp := qp, asn := asn, quarter := quarter, desc := desc, se := false, tile := none, ctx := 0, tilesRun := [],
    fired := false, capture := none, slot := 0, deadline := none, dseq := 0, park := .none, mism := 0, redispatched := false, freshTile := false, keysReady := [],
    input := none, records := 0, line := none, nonce := none, script := .none, matching := 0, fromShared := false,
    grant := false, steps := [], image := none, budget := 0, rngWait := false,
    retryOn := none, stored := [], cpl := none, committed := false, journalled := false }

/-- The lowest in-flight entry of a quarter that is free (03 R74; log 80). -/
def freeSlot (s : State) (q : Nat) : Nat := lowestFree ((s.entries.filter (fun e => e.quarter == q)).map (fun e => e.slot)) 0 16384

/-- CANCELLED_BY_RESET (02 R69). -/
def cplCancelled : Cpl := Cpl.fail 0x0001 0

/-- The commit unit of a descriptor that waits for its first write (04 R117, R124). -/
def waitingUnit (s : State) (qp asn : Nat) : Option CUnit := s.journal.units.find? (fun u => u.rcd.qp == qp && u.rcd.asn == asn)

/-- A descriptor's commit unit waits for its first write. -/
def unitQueued (s : State) (qp asn : Nat) : Bool := (waitingUnit s qp asn).isSome

/-- Accept ASN a without fetching and complete it: from the journal if it has a DONE record, else CANCELLED_BY_RESET with CLIENT_TAG
0 (04 R128 item 2). A lookup that finds its commit unit in progress waits for it, and the entry completes from it (R124). -/
def closeAsn (s : State) (qp a : Nat) : State :=
  let e := { Entry.fresh qp a (qpOf s qp).home (zeros 128) with slot := freeSlot s (qpOf s qp).home }
  match doneRecord s qp a, waitingUnit s qp a with
  | some r, _ => addEntry s { e with cpl := some (replayCpl r), committed := true, journalled := true
                                     desc := splice (zeros 128) 0x08 r.tag }
  | none, some u => addEntry s { e with desc := splice (zeros 128) 0x08 u.rcd.tag }
  | none, none =>
    modPart (addEntry s { e with cpl := some cplCancelled, committed := true }) (qpOf s qp).partition
      (fun p => { p with lastCancelled := p.lastCancelled + 1 })

/-- Close n ASNs from a on. -/
def closeAsns (s : State) (qp a n : Nat) : State :=
  match n with
  | 0 => s
  | n + 1 => closeAsns (closeAsn s qp a) qp (add48 a 1) n

/-- Cancel one accepted descriptor that has neither fired nor a completion (04 R128 item 1), nor a commit unit in progress (R124). -/
def cancelEntry (s : State) (e : Entry) : State :=
  if e.fired || e.cpl.isSome || unitQueued s e.qp e.asn then s
  else modPart (finishEntry s e cplCancelled) (qpOf s e.qp).partition
    (fun p => { p with lastCancelled := p.lastCancelled + 1 })

/-- Queue pair state is re-established: w is known and fetching may run again (04 R129). -/
def quiet (q : Qp) : Bool := !q.headWait && q.wm == q.next

/-- The ASNs of a queue pair that are journalled: those with a DONE record, and those whose commit unit is in progress, which a lookup
waits for (04 R121, R124). -/
def journalledAsns (s : State) (qp : Nat) : List Nat :=
  ((s.journal.records.filter (fun r => decide (r.qp = qp ∧ r.state = 2))).map (fun r => r.asn)) ++
    ((s.journal.units.filter (fun u => u.rcd.qp == qp)).map (fun u => u.rcd.asn))

/-- The highest journalled ASN of a queue pair, plus 1; a where it has none at or above a (04 R121, R128). -/
def journalTop (s : State) (qp a : Nat) : Nat :=
  (journalledAsns s qp).foldl
    (fun m x => if sub48 (add48 x 1) a < 2 ^ 47 ∧ sub48 m a < sub48 (add48 x 1) a then add48 x 1 else m) a

/-- A queue pair notes its highest journalled ASN from its next ASN on (04 R121, R123). -/
def noteTop (s : State) (qp : Nat) : State := modQp s qp (fun q => { q with replayTop := journalTop s qp q.next })

/-- Replay of a queue pair has ended: it is past the highest journalled ASN (04 R123). -/
def replayOver (q : Qp) : Bool := decide (q.replayTop = q.next ∨ 2 ^ 47 ≤ sub48 q.replayTop q.next)

/-- REPLAYING has cleared on every queue pair: REPLAY_DONE is set and REPLAY_ACTIVE clears (04 R123). -/
def replayCheck (s : State) : State :=
  if s.hif.replayActive ∧ s.qps.all (fun x => !(x.2.assigned && (x.2.replaying || x.2.headWait))) then
    let s1 := raiseIsr (modHif s (fun h => { h with replayActive := false })) 7
    record (raiseModule s1 0x74) 0x3021 0 0 (leBytes 4 (linkSts s))
  else s

/-- REPLAYING of a queue pair follows its next ASN. -/
def settleReplay (s : State) (qp : Nat) : State :=
  if (qpOf s qp).replaying ∧ replayOver (qpOf s qp) then
    replayCheck (modQp s qp (fun x => { x with replaying := false }))
  else s

/-- The tail of a queue pair as an ASN. -/
def tailAsn (q : Qp) : Nat := add48 q.wm (sub32 (tailReg q) q.wm)

/-- ASNs that a squash has still to close: up to the tail, and where the host has not written it since a reset, past the highest ASN
with a DONE record (04 R128 items 2, 3). -/
def squashLeft (q : Qp) : Nat :=
  let top := if q.tailWritten then tailAsn q else q.replayTop
  if sub48 top q.next < 2 ^ 47 then sub48 top q.next else 0

/-- Free entries of a quarter's in-flight table (03 R74). -/
def slotsFree (s : State) (q : Nat) : Nat := 16384 - (s.entries.filter (fun e => e.quarter == q)).length

/-- Squash one queue pair: unfired work is cancelled, then the ring is closed up to the tail, as far as the quarter's in-flight table
has entries for it; the rest follows as they are freed (03 R74; 04 R128). While w is not re-established it waits (04 R129). -/
def squashQp (s : State) (qp : Nat) : State :=
  let q := qpOf s qp
  if q.headWait then s
  else
    let s1 := (entriesOfQp s qp).foldl cancelEntry s
    let n := min (squashLeft q) (slotsFree s1 q.home)
    let s2 := modQp (closeAsns s1 qp q.next n) qp (fun x => { x with next := add48 q.next n, fetching := 0 })
    if n < squashLeft q then s2
    else replayCheck (modQp s2 qp (fun x => { x with tail := x.next % 2 ^ 32, replaying := false }))

/-- An in-flight entry of quarter q is free again: the squashes that wait for one in it go on (03 R74; 04 R128). -/
def goOnSquash (s : State) (q : Nat) : State :=
  (s.qps.filter (fun x => x.2.assigned && x.2.home == q && operIn s x.2.partition q == 3 && decide (squashLeft x.2 ≠ 0))).foldl
    (fun u x => squashQp u x.1) s

/-- Release the next completion of a queue pair, if the conditions of 03 R102 hold. The output goes first; an entry whose address cannot
be translated sets CPL_ERR and is not written, and the in-flight entry keeps what it will be (02 R66). -/
def releaseNext (s : State) (qp : Nat) (translated : Bool) (outFail : Option Nat) : State :=
  let q := qpOf s qp
  match entryOf s qp q.w with
  | none => s
  | some e =>
    match e.cpl with
    | none => s
    | some c =>
      if releasableButHead s q e && headAllows q e.asn then
        let (s1, c') := writeOutputs s e c outFail
        if translated then goOnSquash (writeCompletion s1 e c') e.quarter
        else raiseIsr (modQp (modEntry s1 qp e.asn (fun x => { x with cpl := some c' })) qp (fun x => { x with cplErr := true })) 6
      else s

/-- RESEQ_RELEASE (03 R102; 02 R58, R64 to R68, R71, R72; 04 R111, R114, R118). -/
def execReseqRelease (qp : Nat) (translated : Bool) (outFail : Option Nat) (s : State) :
    Host.Outcome State Fault Refusal :=
  guardUnit (qpOk qp) qp s (releaseNext s qp translated outFail)

/-- A squash has closed the ring of a queue pair, or none is in progress there. -/
def ringClosed (s : State) (q : Qp) : Bool := operIn s q.partition q.home != 3 || squashLeft q == 0

/-- Every queue pair of partition p has its committed watermark at its next ASN (04 R129). -/
def partQuiet (s : State) (p : Nat) : Bool := (partOf s p).qps.all (fun q => quiet (qpOf s q) && ringClosed s (qpOf s q))

/-- Set OPER of partition p to v in every home quarter. -/
def setOperAll (s : State) (p v : Nat) : State :=
  let hs := homesOf s p
  modPart s p (fun x => { x with oper := hs.foldl (fun t q => tblSet t q v) x.oper })

/-- DRAIN's deadline in ms: the command's own or the partition's configured one (04 R127). -/
def drainMsOf (s : State) (p ms : Nat) : Nat := if ms = 0 then objNat s (0x4000 + p) 0x09 1000 else ms

/-- The full deadline of a drain starts in one quarter (04 R127). -/
def startDrainIn (s : State) (p q : Nat) : State :=
  let ms := match (partOf s p).cmd with
    | some c => c.drainMs
    | none => 0
  modQuarter s q (fun x => { x with drain := tblSet x.drain p (s.now + drainMsOf s p ms * 1000) })

/-- PART_CMD_STATUS (08 R277). -/
def partCmdStatus (p : Part) : Nat := p.reason + 256 * p.outcome

/-- A partition command has finished: its outcome, HIF_ADM_PCMD_STS and the event (08 R257). -/
def finishCmd (s : State) (p : Nat) (c : PartCmd) (outcome : Nat) : State :=
  let s1 := modPart s p (fun x => { x with cmd := none, outcome := outcome, reason := 0 })
  let s2 := if c.viaPcmd then
      raiseIsr (modHif s1 (fun h => { h with pcmdBusy := false, pcmdDone := true })) 0
    else s1
  record s2 0x4001 5 p (leBytes 1 c.action ++ leBytes 4 (partCmdStatus (partOf s2 p)))

/-- w of a queue pair has been re-established after a reset: a squash continues on it, and a drain's deadline restarts
in its home quarter once every queue pair of the partition there has its w (04 R129). -/
def resumeCmd (s : State) (qp : Nat) : State :=
  let q := qpOf s qp
  let o := operIn s q.partition q.home
  if o = 3 then squashQp s qp
  else if o = 2 ∧ (homedIn s q.partition q.home).all (fun x => !(qpOf s x).headWait) then
    startDrainIn s q.partition q.home
  else s

/-- A drain or squash that has reached the condition of 04 R129 in every home quarter sets OPER to SUSPENDED in all of
them together (08 R256); a SUSPEND that has reached it is done, a quarter that R249 left SQUASHING becoming SUSPENDED with it
(08 R255); so is a RESUME that waited for the completions (02 R55). -/
def settle (s : State) (p : Nat) : State :=
  match (partOf s p).cmd with
  | none =>
    if partQuiet s p ∧ (homesOf s p).any (fun q => operIn s p q == 3) then setOperAll s p 1 else s
  | some c =>
    if !(partQuiet s p) then s
    else if c.action = 1 then finishCmd (setOperAll s p 1) p c 1
    else if c.action = 2 then finishCmd s p c 1
    else if c.action = 3 ∨ c.action = 4 then setOperAll s p 1
    else s

end Sys2Proof.Machine
end

