-- ==== Sys2Proof/Machine/Body.lean ====
section
/-!
DEFINITION. How a data-plane command runs in its tile: what it finds, what its work ends in, and how the completion is
posted, with its commit unit where its effect or a random value needs one (02 R62; 04 R110, R111, R117; 05 R135).
-/

namespace Sys2Proof.Machine

open Sys2Proof

/-- What a command's work ends in: a failure; a completion that needs no journal record; one whose commit unit has an
effect (04 R111); or nothing yet, for a value that must be waited for (13 R401). -/
inductive Res where
  | fail (status detail : Nat)
  | fin (c : Cpl)
  | commit (c : Cpl) (e : Effect)
  | wait

/-- What a command's work sees: the descriptor's entry, its queue pair and partition. -/
structure Ctx where
  e : Entry
  q : Qp
  p : Nat

/-- The descriptor. -/
def Ctx.d (c : Ctx) : List Byte := c.e.desc
/-- CMD_PARAM. -/
def Ctx.prm (c : Ctx) : Nat := dParamN c.e.desc
/-- The bytes of the input list. -/
def Ctx.data (c : Ctx) : List Byte :=
  match c.e.input with
  | some o => o.data
  | none => []
/-- Where inline operands lie with SGL = 0, and where AUX lies with SGL = 1. -/
def Ctx.base (c : Ctx) : Nat := if dSgl c.e.desc then 0x60 else 0x40
/-- OUT_TOTAL, 0 without lists. -/
def Ctx.room (c : Ctx) : Nat := if dSgl c.e.desc then dOutTotal c.e.desc else 0

/-- The record of key field k as the descriptor's first key read found it. -/
def keyAt (s : State) (c : Ctx) (k : Nat) : KeyRec :=
  match physOf s c.p (hSlot (dKey c.d k)) with
  | some i => slotOf s i
  | none => KeyRec.reset

/-- Key material of a record, KEY_LEN bytes. -/
def KeyRec.key (r : KeyRec) : List Byte := fit r.keyLen r.mat

/-- A draw from a DRBG: blocked, to be waited for, or bytes (13 R401). -/
inductive Draw where
  | blocked
  | waits
  | bytes (b : List Byte) (s : State)

/-- Draw n bytes of DRBG i; one that has reached 1 GiB unseeded makes its reads wait (13 R401, R405). -/
def drawRandom (s : State) (i n : Nat) : Draw :=
  if (drbgOf s i).state = 1 ∧ (drbgOf s i).out < 2 ^ 30 then
    let (b, t) := drawBytes s i n
    .bytes b t
  else if (drbgOf s i).state = 0 ∧ (s.rng.state = 2 ∨ s.rng.state = 3) then .blocked
  else .waits

/-- Work that needs n random bytes of the quarter's DRBG: RNG_BLOCKED where the source is blocked (13 R401). -/
def withRandom (s : State) (c : Ctx) (n : Nat) (k : List Byte → State → Res × State) : Res × State :=
  match drawRandom s c.e.quarter n with
  | .blocked => (.fail 0x0006 0, s)
  | .waits => (.wait, s)
  | .bytes b t => k b t

/-- The first of a list of tests that fails, as its DETAIL. -/
def firstBad (l : List (Bool × Nat)) : Option Nat := (l.find? (fun x => x.1)).map (fun x => x.2)

/-- Key fields the command does not use and that are not 0, each with its offset (02 R62 check 7). -/
def unusedKeys (d : List Byte) : List (Bool × Nat) :=
  (List.range 4).map (fun k => (!((keysOf d).any (fun x => x.k == k)) && dKey d k != 0, dKeyOff k))

/-- Is any bit of a number set in [hi:lo]? -/
def anyBits (v hi lo : Nat) : Bool := bits v hi lo != 0

/-- Are bytes i to j − 1 of the descriptor all 0? -/
def zeroAt (d : List Byte) (i j : Nat) : Bool := allZero (slice d i (j - i))

/-- FORMAT_ERROR at the first offending offset, else the rest of the work. -/
def orFormat {α : Type} (l : List (Bool × Nat)) (bad : Nat → Nat → α) (k : α) : α :=
  match firstBad l with
  | some off => bad 0x0003 off
  | none => k

/-- A result of at most 32 bytes goes in RESULT; a longer one, or one given with SGL = 1 by a command that writes the
list, through the output list: OUTPUT_TOO_SMALL where it does not fit (02 R68). -/
def listOut (c : Ctx) (out result : List Byte) : Res :=
  if c.room < out.length then .fail 0x000A 0
  else .fin { status := stOk, detail := 0, result := result, out := out, outLen := out.length, cflags := 0 }

/-- As a completion to be journalled. -/
def Res.journalled (r : Res) (e : Effect) : Res :=
  match r with
  | .fin c => .commit c e
  | x => x

/-- Every step of the descriptor's graph that has been declared is done. -/
def stepsOver (e : Entry) : Bool := e.steps.all (fun x => x.state == 2)

/-- The reads of the lists have returned, or there is none to make (02 R60, R62 check 6). -/
def inputReady (e : Entry) : Bool :=
  !dSgl e.desc || (dInCount e.desc == 0 && dOutCount e.desc == 0) || e.input.isSome

/-- Every key field the command uses has had its checks and its entry (02 R62 check 5; 07 R234). -/
def keysDone (e : Entry) : Bool :=
  (keysOf e.desc).all (fun x => e.keysReady.contains x.k || (x.optional && dKey e.desc x.k == 0))

/-- The grant on a mutable record that the command changes is held, or it changes none (05 R139). -/
def grantDone (s : State) (e : Entry) : Bool :=
  match rowOf s (qpOf s e.qp).partition e.desc with
  | some r => (match r.mutField with
    | some k => e.grant || dKey e.desc k == 0
    | none => true)
  | none => true

/-- A script core runs the descriptor, or its command uses none (03 R83, R471). -/
def scriptDone (e : Entry) : Bool :=
  isTemplate (dCmd e.desc) || (match e.script with
    | .core _ => true
    | _ => false)

/-- A descriptor whose work may run to its end. -/
def bodyReady (s : State) (e : Entry) : Bool :=
  e.tile.isSome && e.cpl.isNone && !unitQueued s e.qp e.asn && e.park == .none && !s.tamper.halt && keysDone e &&
    inputReady e && grantDone s e && scriptDone e

/-- The engine of a command's work (03 R83, R85; 05 R133; 06 R180, R189, R192, R196): the hash unit for HMAC, hash and one-time code
commands, the public-key cores for classes 0x08, 0x09 and 0x0E, the key transport and the signed token commands, none for class
0x0F, the twin pairs for the rest. -/
def workEngine (c : Nat) : Option StepKind :=
  let cls := c / 256
  if cls = 0x0A ∨ cls = 0x0D ∨ cls = 0x0F then none
  else if cls = 0x0B ∨ c = 0x0420 ∨ c = 0x0421 ∨ c = 0x0C01 ∨ c = 0x0C02 ∨ c = 0x0C03 ∨ c = 0x0C04 then some .hash
  else if cls = 0x08 ∨ cls = 0x09 ∨ cls = 0x0E ∨ c = 0x0710 ∨ c = 0x0711 ∨ c = 0x0C10 ∨ c = 0x0C11 then some .pke
  else some .lane

/-- The steps of a template command (03 R83): one of its engine's kind; the attestation commands' build step and their two identity
signing steps (11 R376). A standard script declares its steps as it runs. -/
def templateSteps (c : Nat) : List Step :=
  let one (k : StepKind) : Step := { kind := k, state := 0 }
  if c / 256 = 0x0E then [one .build, one .pke, one .pke]
  else if isTemplate c then (workEngine c).toList.map one
  else []

/-- Step i of a graph may fire: it waits, and every earlier step of another kind is done (03 R85; 11 R376). -/
def stepReady (l : List Step) (i : Nat) : Bool :=
  match l[i]? with
  | none => false
  | some x => x.state == 0 && (l.take i).all (fun y => y.kind == x.kind || y.state == 2)

/-- The lowest step of a kind that may fire: one of a template's, or the next that a standard script on its core declares, up to 64
(03 R83, R85). The script's code is in the firmware, not in the spec: which kinds of step it declares stays open but for the
engines that its command uses (log 27). -/
def nextStep (e : Entry) (k : StepKind) : Option Nat :=
  if isTemplate (dCmd e.desc) then
    (List.range e.steps.length).find? (fun i => stepReady e.steps i && (e.steps[i]?).any (fun x => x.kind == k))
  else if e.steps.length < 64 ∧ (workEngine (dCmd e.desc)).isSome ∧ (k ≠ .pke ∨ workEngine (dCmd e.desc) = some .pke) then
    some e.steps.length
  else none

/-- The descriptor has a step that waits for an engine of a kind: of its command, or one that its script has issued (03 R85). -/
def wantsEngine (s : State) (e : Entry) (k : StepKind) : Bool :=
  (bodyReady s e && dClass e.desc != 0x0D && (nextStep e k).isSome) || kopWaits s e k

/-- The descriptors of tile t with a step ready for an engine of a kind (03 R85). -/
def readyFor (s : State) (t : Nat) (k : StepKind) : List Entry := (homedOn s t).filter (fun e => wantsEngine s e k)

/-- Does a command generate a key pair on the public-key cores? Only K1 runs key generation (06 R196). -/
def isPkGenerate (c : Nat) : Bool := c == 0x0830 || c == 0x0930

/-- An engine of a kind in tile t that e's step may take now, with the state once the turn is taken: a free pair that is not
quarantined, a free loaded public-key core, the free hash unit, each by its round robin (03 R85, R90, R98; 06 R190, R196). A
fixed-function check waits for none. -/
def engineFree (s : State) (t : Nat) (e : Entry) (k : StepKind) : Option (Nat × State) :=
  let m := tmemOf s t
  let p := (qpOf s e.qp).partition
  let take (f : TileMem → TileMem) : State := modTmem s t (fun m => { f m with heart := s.now })
  match k with
  | .lane =>
    if (turnOf s m.rrPair (readyFor s t k)).any (fun x => x.isOf e.qp e.asn) then
      ((List.range 2).find? (fun i => (pairRun m i).isNone && !pairQuar (tileOf s t) i)).map
        (fun i => (i, take (fun m => { m with rrPair := p })))
    else none
  | .hash =>
    if m.hashRun.isNone ∧ (turnOf s m.rrHash (readyFor s t k)).any (fun x => x.isOf e.qp e.asn) then
      some (0, take (fun m => { m with rrHash := p }))
    else none
  | .pke =>
    let free (i : Nat) : Bool := !(pkeOf (tileOf s t) i).busy && (pkeOf (tileOf s t) i).loaded && (i == 1 || !isPkGenerate (dCmd e.desc))
    (match pkeTurn s t (readyFor s t k) with
      | none => none
      | some (q, left) =>
        if q = p ∧ (lowestOf s (readyFor s t k) p).any (fun x => x.isOf e.qp e.asn) then
          ((List.range 2).find? free).map (fun i => (i, take (fun m => { m with pkeAt := q, pkeLeft := left })))
        else none)
  | _ => some (0, take (fun m => m))

/-- The blocks of a lane step (06 R178, R180): its message in blocks of 16 bytes, 32 bytes where it is in the descriptor (log 27). -/
def laneBlocks (d : List Byte) : Nat := max 1 (cdiv (if dSgl d then dInTotal d else 32) 16)

/-- A whole lane command has had fresh shares of its keys for every block (06 R178). -/
def drawMask (s : State) (t : Nat) (e : Entry) (k : StepKind) : State :=
  if k = .lane then modTmem s t (fun m => { m with mask := (drawShares m e.qp e.asn (laneBlocks e.desc)).2 }) else s

/-- The work of a command that runs whole in its tile (log 27): its steps have run in their engines already, or an engine that it is
the turn of takes it, on a twin pair with both lanes in agreement (03 R85, R90, R95). None where it must wait. -/
def takeEngine (s : State) (e : Entry) : Option State :=
  match workEngine (dCmd e.desc), e.tile with
  | some k, some t =>
    if e.steps.any (fun x => x.state == 2) then (if stepsOver e then some s else none)
    else if e.steps.any (fun x => x.state == 1) then none
    else (engineFree s t e k).map (fun x => drawMask x.2 t e k)
  | _, _ => some s

/-- A use word is free: no queued unit names it, and no head record that is not DONE or ABANDONED (06 R186). -/
def useFree (s : State) (w : Nat) : Bool :=
  let names (e : Effect) : Bool := match e with
    | .nonceUse x _ _ => x == w
    | _ => false
  !(s.journal.units.any (fun u => names u.rcd.effect)) && !(s.journal.records.any (fun r => r.state == 1 && names r.effect))

/-- The next free word of a quarter's use ring (06 R186). -/
def nextUse (s : State) (q : Nat) : Nat :=
  let n := (quarterOf s q).useNext
  (((List.range 16384).map (fun i => (n + i) % 16384)).find? (fun i => useFree s (q * 16384 + i))).getD n

/-- Extension slots of a record that stand written before its unit runs: a change of a live record leaves them (07 R221, R229). -/
def extWritten (s : State) (e : Effect) : Nat :=
  match e with
  | .record phys r _ => if (slotOf s phys).state = recActive ∧ (slotOf s phys).handle = r.handle then r.extCount else 0
  | _ => 0

/-- Hand an SE descriptor's result to the journal controller (04 R117): the tile plays no further part, and the home
re-sequencer waits for the commit. The unit takes the reservation and the line with it (04 R118; 07 R229). A nonce-using
descriptor takes the next free use word of its quarter (06 R186). -/
def queueUnit (s : State) (e : Entry) (c : Cpl) (eff : Effect) : State :=
  let s1 := leaveTile s e
  let s2 := match eff with
    | .nonceUse _ _ _ => modQuarter s1 e.quarter (fun x => { x with useNext := (nextUse s1 e.quarter + 1) % 16384 })
    | _ => s1
  let eff' := match eff with
    | .nonceUse _ a i => .nonceUse (e.quarter * 16384 + nextUse s1 e.quarter) a i
    | x => x
  let r : JRec := { isn := 0, qp := e.qp, asn := e.asn, cmd := dCmd e.desc, cpl := c, tag := dTag e.desc, effect := eff',
                    state := 1, stA := 0, stB := 0, pos := 0 }
  let u : CUnit := { part := (qpOf s e.qp).partition, rcd := r, quarter := e.quarter, held := e.records, line := e.line,
                     extDone := extWritten s eff' }
  let s3 := modJournal s2 (fun j => { j with units := j.units ++ [u] })
  modEntry s3 e.qp e.asn (fun x => { x with cpl := some c, committed := false, deadline := none, park := .none, records := 0,
                                            line := none })

/-- Post what a command's work ended in. -/
def postRes (s : State) (e : Entry) (r : Res) : State :=
  match r with
  | .fail st det => finishEntry s e (Cpl.fail st det)
  | .fin c => finishEntry s e c
  | .commit c eff => queueUnit s e c eff
  | .wait => s

/-- A command's work in its tile. -/
abbrev Work := State → Ctx → Res × State

/-- Work that changes nothing and draws nothing. -/
def pureWork (f : State → Ctx → Res) : Work := fun s c => (f s c, s)

/-- What a descriptor's work sees. -/
def ctxOf (s : State) (e : Entry) : Ctx := { e := e, q := qpOf s e.qp, p := (qpOf s e.qp).partition }

/-- Run the work of a homed descriptor whose command code satisfies is, to its completion, once its engines can have it. Its first
step has fired with it (02 R61). -/
def runCommand (s : State) (qp asn : Nat) (is : Nat → Bool) (w : Work) : State :=
  match entryOf s qp asn with
  | none => s
  | some e =>
    if is (dCmd e.desc) && bodyReady s e then
      match takeEngine s e with
      | none => s
      | some u =>
        let (r, t) := w u (ctxOf u e)
        match r with
        | .wait => modEntry s qp asn (fun x => { x with rngWait := true })
        | _ => postRes (modEntry t qp asn (fun x => { x with fired := true, deadline := none })) { e with fired := true } r
    else s

/-- A data command's meaning: the descriptor at ASN asn of queue pair qp, which holds command code code, is worked to its
completion. -/
def dataCommand (qp asn code : Nat) (w : Work) (s : State) : Host.Outcome State Fault Refusal :=
  guardUnit (qpOk qp) qp s (runCommand s qp asn (fun c => c == code) w)

/-- Attributes of a record to be created. -/
structure NewKey where
  alg    : Nat
  usage  : Nat
  export_ : Nat
  worlds : Nat
  masters : Nat
  lcSet  : Nat
  kvn    : Nat
  kcv    : List Byte
  mat    : List Byte
  mutv   : Nat
  parent : Option KeyRec

/-- Create a key record of partition p through a line: the lowest free index, or the lowest run that holds its extensions
(07 R214, R215, R222, R236), by a lane whose handle check base is base and under capture c. None where no such run exists. -/
def newRecord (s : State) (base : List Byte) (c : Option Nat) (p line : Nat) (n : NewKey) : Option (KeyRec × Effect) :=
  let ext := extCountOf n.alg
  match allocRun s p (1 + ext) with
  | none => none
  | some i =>
    match physOf s p i with
    | none => none
    | some phys =>
      let old := slotOf s phys
      let inc := (partOf s p).incarnation % 2 ^ 20
      let h := issueHandle base (some (p, (partOf s p).incarnation)) i (nextGen s p phys)
      let r : KeyRec :=
        { handle := h, ver := old.ver, ownerPart := p, ownerInc := inc, state := recActive, alg := n.alg,
          keyLen := n.mat.length, usage := n.usage, exportRule := n.export_, worlds := n.worlds, masters := n.masters,
          lcSet := n.lcSet, extCount := ext, extFirst := if ext = 0 then 0 else i + 1, lgen := old.lgen, kvn := n.kvn,
          parent := (match n.parent with
            | some q => q.handle
            | none => 0),
          anc := (match n.parent with
            | some q => childAnc c q
            | none => []),
          revSeq := old.revSeq, mutv := n.mutv, kcv := n.kcv, mat := n.mat, index := 0 }
      some (r, .record phys r line)

/-- Commit a new key and answer its handle and KCV; KEY_SLOTS_EXHAUSTED where no slot is free, and KEY_NOT_PERMITTED with
the parent's key field where the parent may have no children (07 R222, R236). -/
def createKey (s : State) (c : Ctx) (pf : Nat) (n : NewKey) (out : List Byte) (result : List Byte → List Byte) : Res :=
  if (match n.parent with
      | some q => decide (6 ≤ q.anc.length)
      | none => false) then .fail 0x0010 pf
  else match newRecord s (tileHcb s (c.e.tile.getD 0)) c.e.capture c.p (c.e.line.getD 0) n with
    | none => .fail 0x0019 0
    | some (r, eff) =>
      .commit { status := stOk, detail := 0, result := result (leBytes 8 r.handle), out := out, outLen := out.length,
                cflags := 0 } eff

/-- Write the mutable state of the record in key field k (05 R139). -/
def mutEffect (s : State) (c : Ctx) (k v : Nat) : Effect :=
  match physOf s c.p (hSlot (dKey c.d k)) with
  | some phys => .record phys { slotOf s phys with mutv := v } (c.e.line.getD 0)
  | none => .none

end Sys2Proof.Machine
end

