-- ==== Sys2Proof/Machine/Admin.lean ====
section
/-!
DEFINITION. The partition commands of class 0x0F: PART_INFO, KEY_INFO and the try counters (08 R273 to R276).
-/

namespace Sys2Proof.Machine

open Sys2Proof

/-- The format checks of class 0x0F: IN_LEN is 0, CMD_PARAM reserved but for the bits the command reads, no unused key
(08 R273). -/
def adminFormat (c : Ctx) (low : Nat) (bad : Bool) : List (Bool × Nat) :=
  [(dInLen c.d != 0, 0x04)] ++ unusedKeys c.d ++ [(decide (2 ^ low ≤ c.prm) || bad, 0x38)]

/-- The 32 bytes of PART_INFO (08 R274). -/
def partInfoBytes (s : State) (c : Ctx) : List Byte :=
  let p := partOf s c.p
  let obj (sub d : Nat) : Nat := objNat s (0x4000 + c.p) sub d
  leBytes 4 (512 * p.extents.length) ++ leBytes 4 (slotsUsed s c.p) ++ leBytes 2 (tblGet 0 p.quota c.q.home) ++
    leBytes 2 p.journalExtents.length ++ leBytes 2 (lineAllotment s c.p) ++ leBytes 1 p.qps.length ++
    leBytes 1 p.scripts.length ++ leBytes 4 (obj 0x28 1000000) ++ leBytes 4 (obj 0x2A 100000) ++
    leBytes 2 (obj 0x24 1) ++ leBytes 2 c.q.allowance ++ leBytes 4 p.incarnation

/-- The work of PART_INFO (08 R273, R274). -/
def partInfoBody : Work := pureWork (fun s c =>
    orFormat (adminFormat c 0 false) Res.fail (.fin (Cpl.ok (partInfoBytes s c))))

/-- PART_INFO (08 R273, R274). -/
def execPartInfo (qp asn : Nat) (s : State) : Host.Outcome State Fault Refusal :=
  dataCommand qp asn 0x0F01 partInfoBody s

/-- The 28 bytes of KEY_INFO: DEPTH counts the listed ancestors (08 R275). -/
def keyInfoBytes (r : KeyRec) : List Byte :=
  leBytes 1 r.alg ++ leBytes 1 r.exportRule ++ leBytes 1 r.worlds ++ leBytes 1 r.masters ++ leBytes 2 r.usage ++
    leBytes 1 r.lcSet ++ leBytes 1 r.anc.length ++ leBytes 2 r.kvn ++ leBytes 2 r.lgen ++ fit 5 r.kcv ++
    leBytes 1 r.extCount ++ leBytes 2 r.keyLen ++ leBytes 8 r.parent

/-- The work of KEY_INFO (08 R273, R275). -/
def keyInfoBody : Work := pureWork (fun s c =>
    orFormat (adminFormat c 0 false) Res.fail (.fin (Cpl.ok (keyInfoBytes (keyAt s c 0)))))

/-- KEY_INFO (08 R273, R275). -/
def execKeyInfo (qp asn : Nat) (s : State) : Host.Outcome State Fault Refusal :=
  dataCommand qp asn 0x0F02 keyInfoBody s

/-- MUT of a counter record: LIMIT in bits [3:0], REMAINING in bits [11:8] (07 R218). -/
def counterMut (limit remaining : Nat) : Nat := limit + 256 * remaining

/-- LIMIT of a counter record. -/
def limitOf (mutv : Nat) : Nat := bits mutv 3 0

/-- The work of TRY_COUNTER_CREATE (08 R273, R276). -/
def tryCounterCreateBody : Work := pureWork (fun s c =>
    let limit := limitOf c.prm
    orFormat (adminFormat c 4 (limit == 0)) Res.fail
      (createKey s c 0
        { alg := 0x70, usage := 2 ^ uPinVer, export_ := 0, worlds := 2 ^ wData + 2 ^ wScript, masters := 1, lcSet := 8,
          kvn := 0, kcv := zeros 5, mat := [], mutv := counterMut limit limit, parent := none } [] id))

/-- TRY_COUNTER_CREATE (08 R273, R276). -/
def execTryCounterCreate (qp asn : Nat) (s : State) : Host.Outcome State Fault Refusal :=
  dataCommand qp asn 0x0F10 tryCounterCreateBody s

/-- The work of TRY_COUNTER_RESET (08 R273, R276; 05 R139). -/
def tryCounterResetBody : Work := pureWork (fun s c =>
    let limit := limitOf (keyAt s c 0).mutv
    orFormat (adminFormat c 0 false) Res.fail
      (.commit (Cpl.ok []) (mutEffect s c 0 (counterMut limit limit))))

/-- TRY_COUNTER_RESET (08 R273, R276; 05 R139). -/
def execTryCounterReset (qp asn : Nat) (s : State) : Host.Outcome State Fault Refusal :=
  dataCommand qp asn 0x0F11 tryCounterResetBody s

/-- The work of TRY_COUNTER_READ (08 R273, R276). -/
def tryCounterReadBody : Work := pureWork (fun s c =>
    let m := (keyAt s c 0).mutv
    orFormat (adminFormat c 0 false) Res.fail (.fin (Cpl.ok (leBytes 1 (limitOf m) ++ leBytes 1 (bits m 11 8)))))

/-- TRY_COUNTER_READ (08 R273, R276). -/
def execTryCounterRead (qp asn : Nat) (s : State) : Host.Outcome State Fault Refusal :=
  dataCommand qp asn 0x0F12 tryCounterReadBody s

end Sys2Proof.Machine
end

