-- ==== Sys2Proof/Machine/Decimal.lean ====
section
/-!
DEFINITION. Digits: packed BCD and the PAN (05 R137, R138), ASCII decimal and hexadecimal (05 R165, R173), and scanning
a block for decimal digits (05 R151).
-/

namespace Sys2Proof.Machine

open Sys2Proof

/-- The nibbles of a byte string, the high one of each byte first. -/
def nibbles (bs : List Byte) : List Nat := bs.flatMap (fun b => [b.toNat / 16, b.toNat % 16])

/-- Bytes from nibbles, the high one first. -/
def packNibbles (ns : List Nat) : List Byte :=
  match ns with
  | a :: b :: r => BitVec.ofNat 8 (16 * a + b) :: packNibbles r
  | [a] => [BitVec.ofNat 8 (16 * a + 15)]
  | [] => []

/-- The leading decimal digits of a nibble string. -/
def leadDigits (ns : List Nat) : List Nat := ns.takeWhile (fun x => x ≤ 9)

/-- n decimal digits and then 0xF to the end (05 R138). -/
def decimalField (bs : List Byte) (n : Nat) : Bool :=
  ((nibbles bs).take n).all (fun x => decide (x ≤ 9)) && ((nibbles bs).drop n).all (fun x => x == 0xF)

/-- The digits of a PAN field: 12 to 19 of them, then 0xF to the end; none for a field that is not so (05 R137). -/
def panOf (bs : List Byte) : Option (List Nat) :=
  let d := leadDigits (nibbles bs)
  if 12 ≤ d.length ∧ d.length ≤ 19 ∧ ((nibbles bs).drop d.length).all (fun x => x == 0xF) then some d else none

/-- A PAN field that no part of a command uses (05 R137). -/
def panUnused (bs : List Byte) : Bool := bs == List.replicate 10 0xFF

/-- The last n of a list. -/
def lastN {α : Type} (n : Nat) (l : List α) : List α := l.drop (l.length - n)

/-- The n rightmost PAN digits but for the check digit (05 R143, R151). -/
def panRight (n : Nat) (d : List Nat) : List Nat := lastN n d.dropLast

/-- Nibbles as digits: the decimal ones from left to right, and if they are fewer than n, then the others minus 10
(05 R151); n of them. -/
def scanDigits (n : Nat) (bs : List Byte) : List Nat :=
  (((nibbles bs).filter (fun x => decide (x ≤ 9))) ++ ((nibbles bs).filter (fun x => decide (10 ≤ x))).map (· - 10)).take n

/-- The value of an ASCII decimal digit. -/
def decVal (b : Byte) : Option Nat := if 0x30 ≤ b.toNat ∧ b.toNat ≤ 0x39 then some (b.toNat - 0x30) else none

/-- The value of an ASCII hexadecimal digit. -/
def hexVal (b : Byte) : Option Nat :=
  let v := b.toNat
  if 0x30 ≤ v ∧ v ≤ 0x39 then some (v - 0x30)
  else if 0x41 ≤ v ∧ v ≤ 0x46 then some (v - 0x37)
  else if 0x61 ≤ v ∧ v ≤ 0x66 then some (v - 0x57)
  else none

/-- The number that ASCII digits of a base spell. -/
def asciiNum (f : Byte → Option Nat) (base : Nat) (bs : List Byte) : Option Nat :=
  bs.foldl (fun a b => match a, f b with
    | some n, some d => some (base * n + d)
    | _, _ => none) (some 0)

/-- n ASCII decimal digits of a number. -/
def asciiDec (n v : Nat) : List Byte :=
  match n with
  | 0 => []
  | n + 1 => asciiDec n (v / 10) ++ [BitVec.ofNat 8 (0x30 + v % 10)]

/-- The ASCII hexadecimal digit of a nibble, in capitals. -/
def hexDigit (n : Nat) : Byte := BitVec.ofNat 8 (if n < 10 then 0x30 + n else 0x37 + n)

/-- Bytes in ASCII hexadecimal. -/
def toHex (bs : List Byte) : List Byte := (nibbles bs).map hexDigit

/-- The bytes that ASCII hexadecimal digits spell. -/
def ofHex (bs : List Byte) : List Byte := packNibbles (bs.map (fun b => (hexVal b).getD 0))

end Sys2Proof.Machine
end

