-- ==== Sys2Proof/Machine/Sym.lean ====
section
/-!
DEFINITION. The general symmetric commands (06 R180 to R182, R187), the MAC commands (05 R159, R160) and the hash
commands (06 R192).
-/

namespace Sys2Proof.Machine

open Sys2Proof

/-- The block cipher of a key record. -/
def KeyRec.cipher (r : KeyRec) : Cipher := if isAes r.alg then aesCipher r.key else tdesCipher r.key

/-- The modes of class 0x01. -/
inductive SymMode where
  | ecb
  | cbc
  | ctr
  | hw
  | gcmEnc
  | gcmDec
  deriving DecidableEq, Repr

/-- Is the mode GCM? -/
def SymMode.gcm (m : SymMode) : Bool := m == .gcmEnc || m == .gcmDec
/-- Bytes of the IV or counter field. -/
def SymMode.ivField (m : SymMode) : Nat := if m = .cbc ∨ m = .ctr then 16 else 0
/-- The range of an inline MSG_LEN (06 R181). -/
def SymMode.range (m : SymMode) (n : Nat) : Bool :=
  match m with
  | .ctr => decide (1 ≤ n ∧ n ≤ 32)
  | .hw => decide (1 ≤ n ∧ n ≤ 16)
  | _ => decide (8 ≤ n ∧ n ≤ 32)

/-- Data and additional data of a class 0x01 command. -/
structure SymIn where
  iv   : List Byte
  aad  : List Byte
  data : List Byte

/-- The operands of a class 0x01 command (06 R181). -/
def symIn (c : Ctx) (m : SymMode) : SymIn :=
  let d := c.d
  let n := bits c.prm 7 0
  if !dSgl d then { iv := slice d 0x40 m.ivField, aad := [], data := slice d (0x40 + m.ivField) n }
  else if m.gcm then
    let a := field d 0x7C 4
    { iv := slice d 0x70 12, aad := c.data.take a, data := c.data.drop a }
  else { iv := slice d 0x60 m.ivField, aad := [], data := c.data }

/-- The format checks of a class 0x01 command, in the order of the descriptor's offsets (02 R62 check 7; 06 R181): IN_LEN,
unused key fields, CMD_PARAM, then DATA or AUX. bs is the cipher's block size. -/
def symFormat (c : Ctx) (m : SymMode) (bs : Nat) : List (Bool × Nat) :=
  let d := c.d
  let p := c.prm
  let n := bits p 7 0
  let tag := bits p 12 8
  let iv := m.ivField
  let prmBad := anyBits p 63 13 || (if m.gcm then decide (tag < 12 ∨ 16 < tag) else tag != 0) ||
    (if dSgl d then n != 0 else !m.range n)
  [(!dSgl d && dInLen d != iv + n, 0x04)] ++ unusedKeys d ++ [(prmBad, 0x38)] ++
    (if !dSgl d then [(iv != 0 && !zeroAt d (0x40 + bs) (0x40 + iv), 0x40)]
     else match m with
       | .gcmEnc => [(!zeroAt d 0x60 0x7C, 0x60)]
       | .gcmDec => [(!zeroAt d (0x60 + tag) 0x70, 0x60)]
       | _ => [(iv != 0 && !zeroAt d (0x60 + bs) (0x60 + iv), 0x60), (!zeroAt d (0x60 + iv) 0x80, 0x60 + iv)])

/-- The length checks of a class 0x01 command, and then its room for output (06 R180, R181). -/
def symLength (c : Ctx) (m : SymMode) (bs : Nat) : Option Nat :=
  let d := c.d
  let a := field d 0x7C 4
  let x := symIn c m
  if dSgl d ∧ m.gcm ∧ (2 ^ 20 < a ∨ c.data.length < a) then some 0x0009
  else if dSgl d ∧ !m.gcm ∧ c.data.isEmpty then some 0x0009
  else if (m = .ecb ∨ m = .cbc) ∧ x.data.length % bs ≠ 0 then some 0x0009
  else if (m = .hw ∨ m = .gcmEnc) ∧ 8192 < x.data.length then some 0x0009
  else if dSgl d ∧ c.room < x.data.length then some 0x000A
  else none

/-- The output in the place of 06 R181: inline with SGL = 0, through the output list with SGL = 1. -/
def symOut (c : Ctx) (pre out : List Byte) : Res :=
  if dSgl c.d then listOut c out pre else .fin (Cpl.ok (pre ++ out))

/-- The work of a class 0x01 command, whose operation f takes the key's cipher and the operands. -/
def symWork (m : SymMode) (f : State → Ctx → Cipher → SymIn → Res) : Work := pureWork (fun s c =>
  let k := (keyAt s c 0).cipher
  orFormat (symFormat c m k.size) Res.fail
    (match symLength c m k.size with
      | some st => .fail st 0
      | none => f s c k (symIn c m)))

/-- The 12-byte hardware nonce of a descriptor: its partition's prefix and the counter drawn at homing (06 R182). -/
def nonceOf (s : State) (c : Ctx) : List Byte :=
  beBytes 4 (c.p * 2 ^ 20 + (partOf s c.p).incarnation % 2 ^ 20) ++ beBytes 8 (c.e.nonce.getD 0)

/-- The effect of a commit unit that uses a nonce (06 R186). -/
def nonceEffect (c : Ctx) : Effect := .nonceUse 0 c.e.asn 0

/-- AES_ECB_ENC (06 R180, R181). -/
def execAesEcbEnc (qp asn : Nat) (s : State) : Host.Outcome State Fault Refusal :=
  dataCommand qp asn 0x0101 (symWork .ecb (fun _ c k x => symOut c [] (ecb k.size k.enc x.data))) s
/-- AES_ECB_DEC (06 R180, R181). -/
def execAesEcbDec (qp asn : Nat) (s : State) : Host.Outcome State Fault Refusal :=
  dataCommand qp asn 0x0102 (symWork .ecb (fun _ c k x => symOut c [] (ecb k.size k.dec x.data))) s
/-- AES_CBC_ENC (06 R180, R181). -/
def execAesCbcEnc (qp asn : Nat) (s : State) : Host.Outcome State Fault Refusal :=
  dataCommand qp asn 0x0103 (symWork .cbc (fun _ c k x => symOut c [] (cbcEnc k x.iv x.data))) s
/-- AES_CBC_DEC (06 R180, R181). -/
def execAesCbcDec (qp asn : Nat) (s : State) : Host.Outcome State Fault Refusal :=
  dataCommand qp asn 0x0104 (symWork .cbc (fun _ c k x => symOut c [] (cbcDec k x.iv x.data))) s
/-- AES_CTR (06 R180, R181). -/
def execAesCtr (qp asn : Nat) (s : State) : Host.Outcome State Fault Refusal :=
  dataCommand qp asn 0x0105 (symWork .ctr (fun _ c k x => symOut c [] (ctrMode k x.iv x.data))) s
/-- The work of AES_CTR_HW (06 R180 to R186): the block counter starts at 0. -/
def aesCtrHwBody : Work := symWork .hw (fun t c k x =>
    (symOut c (nonceOf t c) (ctrMode k (nonceOf t c ++ zeros 4) x.data)).journalled (nonceEffect c))

/-- AES_CTR_HW. -/
def execAesCtrHw (qp asn : Nat) (s : State) : Host.Outcome State Fault Refusal :=
  dataCommand qp asn 0x0106 aesCtrHwBody s
/-- The work of AES_GCM_ENC (06 R180 to R186): RESULT is the nonce and the tag. -/
def aesGcmEncBody : Work := symWork .gcmEnc (fun t c k x =>
    let n := nonceOf t c
    let ct := gcmCrypt k n x.data
    (symOut c (n ++ (gcmTag k n x.aad ct).take (bits c.prm 12 8)) ct).journalled (nonceEffect c))

/-- AES_GCM_ENC (06 R180 to R186). -/
def execAesGcmEnc (qp asn : Nat) (s : State) : Host.Outcome State Fault Refusal :=
  dataCommand qp asn 0x0107 aesGcmEncBody s
/-- The work of AES_GCM_DEC (06 R180, R181, R187): a tag that does not verify zeroes the whole output list and gives AUTH_FAIL. -/
def aesGcmDecBody : Work := symWork .gcmDec (fun _ c k x =>
    let n := bits c.prm 12 8
    if (gcmTag k x.iv x.aad x.data).take n = slice c.d 0x60 n then symOut c [] (gcmCrypt k x.iv x.data)
    else .fin { Cpl.fail 0x0013 0 with out := zeros c.room })

/-- AES_GCM_DEC (06 R180, R181, R187). -/
def execAesGcmDec (qp asn : Nat) (s : State) : Host.Outcome State Fault Refusal :=
  dataCommand qp asn 0x0108 aesGcmDecBody s
/-- TDES_ECB_ENC (06 R180, R181). -/
def execTdesEcbEnc (qp asn : Nat) (s : State) : Host.Outcome State Fault Refusal :=
  dataCommand qp asn 0x0111 (symWork .ecb (fun _ c k x => symOut c [] (ecb k.size k.enc x.data))) s
/-- TDES_ECB_DEC (06 R180, R181). -/
def execTdesEcbDec (qp asn : Nat) (s : State) : Host.Outcome State Fault Refusal :=
  dataCommand qp asn 0x0112 (symWork .ecb (fun _ c k x => symOut c [] (ecb k.size k.dec x.data))) s
/-- The work of TDES_CBC_ENC (06 R180, R181). -/
def tdesCbcEncBody : Work := symWork .cbc (fun _ c k x => symOut c [] (cbcEnc k (x.iv.take 8) x.data))

/-- TDES_CBC_ENC (06 R180, R181). -/
def execTdesCbcEnc (qp asn : Nat) (s : State) : Host.Outcome State Fault Refusal :=
  dataCommand qp asn 0x0113 tdesCbcEncBody s
/-- The work of TDES_CBC_DEC (06 R180, R181). -/
def tdesCbcDecBody : Work := symWork .cbc (fun _ c k x => symOut c [] (cbcDec k (x.iv.take 8) x.data))

/-- TDES_CBC_DEC (06 R180, R181). -/
def execTdesCbcDec (qp asn : Nat) (s : State) : Host.Outcome State Fault Refusal :=
  dataCommand qp asn 0x0114 tdesCbcDecBody s

/-- A message padded for MAC algorithms 1 and 3: PAD 0 method 1, PAD 1 method 2, PAD 2 method 3 (05 R159). -/
def padMac (pad n : Nat) (m : List Byte) : List Byte :=
  if pad = 2 then beBytes n (8 * m.length) ++ m ++ zeros ((n - m.length % n) % n) else macPad (pad + 1) n m

/-- A hash by its number in 05 R160, with its block length. -/
def hashBy (h : Nat) : (List Byte → List Byte) × Nat :=
  if h = 0 then (sha256, 64) else if h = 1 then (sha384, 128) else if h = 2 then (sha512, 128) else (sha3_256, 136)

/-- The four MAC algorithms (05 R159). -/
inductive MacAlg where
  | alg1
  | alg3
  | cmac
  | hmac
  deriving DecidableEq, Repr

/-- The full MAC of a message (05 R159). -/
def macOf (a : MacAlg) (r : KeyRec) (pad hash : Nat) (m : List Byte) : List Byte :=
  match a with
  | .alg1 => cbcMac r.cipher.enc r.cipher.size (padMac pad r.cipher.size m)
  | .alg3 => macAlg3 r.key (padMac pad 8 m)
  | .cmac => Sys2Proof.Machine.cmac r.cipher m
  | .hmac => let (f, n) := hashBy hash; Sys2Proof.Machine.hmac f n r.key m

/-- MAC_LEN lies in its range (05 R159). -/
def macLenOk (a : MacAlg) (r : KeyRec) (n : Nat) : Bool :=
  match a with
  | .hmac => decide (10 ≤ n ∧ n ≤ 32)
  | .alg3 => decide (4 ≤ n ∧ n ≤ 8)
  | _ => decide (4 ≤ n ∧ n ≤ r.cipher.size)

/-- The work of a MAC command (05 R135, R136, R159, R160). -/
def macWork (a : MacAlg) (ver : Bool) : Work := pureWork (fun s c =>
  let d := c.d
  let p := c.prm
  let r := keyAt s c 0
  let n := bits p 7 0
  let len := bits p 15 8
  let pad := bits p 17 16
  let hash := bits p 21 20
  let k := if ver then len else 0
  let prmBad := anyBits p 19 18 || anyBits p 63 22 || !macLenOk a r len ||
    (if a = .alg1 ∨ a = .alg3 then decide (2 < pad) else pad != 0) || (a != .hmac && hash != 0) || (dSgl d && n != 0)
  orFormat ([(!dSgl d && dInLen d != n + k, 0x04)] ++ unusedKeys d ++
      [(prmBad, 0x38), (dSgl d && !zeroAt d (0x60 + k) 0x80, 0x60 + k)]) Res.fail
    (let m := if dSgl d then c.data else slice d 0x40 n
     let given := if dSgl d then slice d 0x60 len else slice d (0x40 + n) len
     let t := (macOf a r pad hash m).take len
     if !ver then .fin (Cpl.ok t)
     else if t = given then .fin (Cpl.ok [])
     else .fail 0x0013 0))

/-- MAC_ALG1_GEN (05 R159, R160). -/
def execMacAlg1Gen (qp asn : Nat) (s : State) : Host.Outcome State Fault Refusal :=
  dataCommand qp asn 0x0401 (macWork .alg1 false) s
/-- MAC_ALG1_VER (05 R159, R160). -/
def execMacAlg1Ver (qp asn : Nat) (s : State) : Host.Outcome State Fault Refusal :=
  dataCommand qp asn 0x0402 (macWork .alg1 true) s
/-- MAC_ALG3_GEN (05 R159, R160). -/
def execMacAlg3Gen (qp asn : Nat) (s : State) : Host.Outcome State Fault Refusal :=
  dataCommand qp asn 0x0403 (macWork .alg3 false) s
/-- MAC_ALG3_VER (05 R159, R160). -/
def execMacAlg3Ver (qp asn : Nat) (s : State) : Host.Outcome State Fault Refusal :=
  dataCommand qp asn 0x0404 (macWork .alg3 true) s
/-- CMAC_GEN (05 R159, R160). -/
def execCmacGen (qp asn : Nat) (s : State) : Host.Outcome State Fault Refusal :=
  dataCommand qp asn 0x0410 (macWork .cmac false) s
/-- CMAC_VER (05 R159, R160; 03 R104). -/
def execCmacVer (qp asn : Nat) (s : State) : Host.Outcome State Fault Refusal :=
  dataCommand qp asn 0x0411 (macWork .cmac true) s
/-- HMAC_GEN (05 R159, R160). -/
def execHmacGen (qp asn : Nat) (s : State) : Host.Outcome State Fault Refusal :=
  dataCommand qp asn 0x0420 (macWork .hmac false) s
/-- HMAC_VER (05 R159, R160). -/
def execHmacVer (qp asn : Nat) (s : State) : Host.Outcome State Fault Refusal :=
  dataCommand qp asn 0x0421 (macWork .hmac true) s

/-- The work of a hash command: len is the digest length, 0 for SHAKE, whose OUT_BYTES it gives the hash (06 R192). -/
def hashWork (len : Nat) (f : List Byte → Nat → List Byte) : Work := pureWork (fun _ c =>
  let d := c.d
  let p := c.prm
  let n := bits p 7 0
  let ob := bits p 20 8
  let prmBad := anyBits p 63 21 || (if len = 0 then decide (ob < 1 ∨ 4096 < ob) else ob != 0) || (dSgl d && n != 0)
  orFormat ([(!dSgl d && dInLen d != n, 0x04)] ++ unusedKeys d ++ [(prmBad, 0x38)]) Res.fail
    (let m := if dSgl d then c.data else slice d 0x40 n
     let l := if len = 0 then ob else len
     let out := f m l
     if l ≤ 32 then .fin (Cpl.ok out) else listOut c out []))

/-- SHA_256 (06 R192). -/
def execSha256 (qp asn : Nat) (s : State) : Host.Outcome State Fault Refusal :=
  dataCommand qp asn 0x0B01 (hashWork 32 (fun m _ => sha256 m)) s
/-- SHA_384 (06 R192). -/
def execSha384 (qp asn : Nat) (s : State) : Host.Outcome State Fault Refusal :=
  dataCommand qp asn 0x0B02 (hashWork 48 (fun m _ => sha384 m)) s
/-- SHA_512 (06 R192). -/
def execSha512 (qp asn : Nat) (s : State) : Host.Outcome State Fault Refusal :=
  dataCommand qp asn 0x0B03 (hashWork 64 (fun m _ => sha512 m)) s
/-- SHA3_256 (06 R192). -/
def execSha3_256 (qp asn : Nat) (s : State) : Host.Outcome State Fault Refusal :=
  dataCommand qp asn 0x0B11 (hashWork 32 (fun m _ => sha3_256 m)) s
/-- SHA3_384 (06 R192). -/
def execSha3_384 (qp asn : Nat) (s : State) : Host.Outcome State Fault Refusal :=
  dataCommand qp asn 0x0B12 (hashWork 48 (fun m _ => sha3_384 m)) s
/-- SHA3_512 (06 R192). -/
def execSha3_512 (qp asn : Nat) (s : State) : Host.Outcome State Fault Refusal :=
  dataCommand qp asn 0x0B13 (hashWork 64 (fun m _ => sha3_512 m)) s
/-- SHAKE128 (06 R192). -/
def execShake128 (qp asn : Nat) (s : State) : Host.Outcome State Fault Refusal :=
  dataCommand qp asn 0x0B21 (hashWork 0 shake128) s
/-- SHAKE256 (06 R192). -/
def execShake256 (qp asn : Nat) (s : State) : Host.Outcome State Fault Refusal :=
  dataCommand qp asn 0x0B22 (hashWork 0 shake256) s

end Sys2Proof.Machine
end

