-- ==== Sys2Proof/Machine/KeyBlock.lean ====
section
/-!
DEFINITION. Key blocks: header, unwrapping, building, key check values, strengths and weak keys (05 R165 to R168). X9.143
versions D and B after that standard (log 16); ISO 20038 opaque (log 12).
-/

namespace Sys2Proof.Machine

open Sys2Proof

/-- The column of 05 R166 of a mode of use, N being B. -/
def kbColumn (m : Byte) : Option Nat :=
  let c := Char.ofNat m.toNat
  if c = 'B' ∨ c = 'C' ∨ c = 'N' then some 0
  else if c = 'E' ∨ c = 'G' then some 1
  else if c = 'D' ∨ c = 'V' then some 2
  else if c = 'X' then some 3
  else none

/-- The usage sets of a key usage by column, in the bits of 07 R217 (05 R166). -/
def kbRow (u : List Byte) : List (Option Nat) :=
  let l (t : List String) : Bool := t.any (fun x => ascii x == u)
  if l ["B0", "B1", "E0", "E1", "E2"] then [none, none, none, some 0x0100]
  else if l ["C0", "M1", "M3", "M6", "M7"] then [some 0x000C, some 0x0004, some 0x0008, none]
  else if l ["D0"] then [some 0x0003, some 0x0001, some 0x0002, none]
  else if l ["K0", "K1"] then [some 0x00C0, some 0x0040, some 0x0080, none]
  else if l ["P0"] then [some 0x0010, some 0x2010, some 0x1010, none]
  else if l ["V1", "V2"] then [some 0x0020, none, some 0x0020, none]
  else []

/-- The usage set of a key usage and mode of use, none for a pair that is not listed (05 R166). -/
def kbUsage (u : List Byte) (m : Byte) : Option Nat :=
  match kbColumn m with
  | some c => ((kbRow u)[c]?).getD none
  | none => none

/-- The pairs of key usage and mode of use whose usage set is s (05 R166). -/
def kbPairs (s : Nat) : List (List Byte) :=
  (["B0", "B1", "C0", "D0", "E0", "E1", "E2", "K0", "K1", "M1", "M3", "M6", "M7", "P0", "V1", "V2"].flatMap (fun u =>
    ["B", "C", "E", "G", "D", "V", "X"].map (fun m => ascii u ++ ascii m))).filter
      (fun x => kbUsage (x.take 2) (byteAt x 2) == some s)

/-- What a key block's header gives (05 R165): alg 0 AES, 1 TDES, 2 HMAC; exp as EXPORT of 07 R217; hlen its whole length;
opts the optional blocks. -/
structure KbHead where
  version : Byte
  usage   : Nat
  alg     : Nat
  kvn     : Nat
  exp     : Nat
  hlen    : Nat
  opts    : List (List Byte × List Byte)

/-- The byte of a letter. -/
def chr (c : Char) : Byte := BitVec.ofNat 8 c.toNat

/-- A version whose block is X9.143's (05 R165). -/
def isX9143 (v : Byte) : Bool := v == chr 'D' || v == chr 'B'

/-- The optional blocks of a header from offset off on: n of them. An unknown ID or a bad length gives its offset (05
R165). -/
def kbOpts (b : List Byte) (off n : Nat) : Except Nat (List (List Byte × List Byte) × Nat) :=
  match n with
  | 0 => .ok ([], off)
  | n + 1 =>
    let id := slice b off 2
    if !(["KS", "KV", "KC", "KP", "IK", "HM", "TS", "PB"].any (fun x => ascii x == id)) then .error off
    else match asciiNum hexVal 16 (slice b (off + 2) 2) with
      | none => .error (off + 2)
      | some l =>
        if l < 4 ∨ b.length < off + l then .error (off + 2)
        else match kbOpts b (off + l) n with
          | .error e => .error e
          | .ok (r, e) => .ok ((id, slice b (off + 4) (l - 4)) :: r, e)

/-- The algorithm letter of a header. -/
def kbAlg (b : Byte) : Option Nat :=
  if b = chr 'A' then some 0 else if b = chr 'T' then some 1 else if b = chr 'H' then some 2 else none

/-- The exportability letter of a header, as EXPORT. -/
def kbExport (b : Byte) : Option Nat :=
  if b = chr 'N' then some 0 else if b = chr 'S' then some 1 else if b = chr 'E' then some 2 else none

/-- The fields from the key usage to the exportability, or the first offending offset (05 R165, R166). A version B block
holds only TDES keys. -/
def kbFields (b : List Byte) : Except Nat KbHead :=
  match kbUsage (slice b 5 2) (byteAt b 8), kbAlg (byteAt b 7), kbExport (byteAt b 11) with
  | none, _, _ => .error 5
  | _, none, _ => .error 7
  | _, _, none => .error 11
  | some u, some a, some x =>
    if byteAt b 0 = chr 'B' ∧ a ≠ 1 then .error 7
    else .ok { version := byteAt b 0, usage := u, alg := a, kvn := field b 9 2, exp := x, hlen := 16, opts := [] }

/-- Bytes of the cipher block that a version's payload and MAC are made of. -/
def kbBlock (v : Byte) : Nat := if v = chr 'B' then 8 else 16

/-- Header and structure of a block (05 R165, R167 step 1): the head or the first offending offset. std permits ISO 20038. -/
def kbHeader (std : Bool) (b : List Byte) : Except Nat KbHead :=
  let v := byteAt b 0
  if !isX9143 v && (v == chr 'A' || v == chr 'C' || !std || !Config.pkCheck "ISO 20038 structure" [b]) then .error 0
  else if asciiNum decVal 10 (slice b 1 4) ≠ some b.length ∨ 1024 < b.length ∨ b.length < 16 then .error 1
  else match kbFields b with
    | .error e => .error e
    | .ok h =>
      match asciiNum decVal 10 (slice b 12 2) with
      | none => .error 12
      | some n =>
        match kbOpts b 16 n with
        | .error e => .error e
        | .ok (o, e) =>
          let k := kbBlock v
          if !isX9143 v then .ok { h with hlen := e, opts := o }
          else if e % k ≠ 0 ∨ b.length < e + 4 * k ∨ (b.length - e) % (2 * k) ≠ 0 then .error e
          else if (b.drop e).any (fun x => (hexVal x).isNone) then .error e
          else .ok { h with hlen := e, opts := o }

/-- The header template of 05 R169: a header with length "0000" and no optional blocks. -/
def kbTemplate (b : List Byte) : Except Nat KbHead :=
  if !isX9143 (byteAt b 0) then .error 0
  else if slice b 1 4 ≠ ascii "0000" then .error 1
  else match kbFields b with
    | .error e => .error e
    | .ok h => if slice b 12 2 ≠ ascii "00" then .error 12 else .ok h

/-- The key that protects a block's payload (use 0) or its MAC (use 1), derived from the protection key by CMAC. -/
def kbDerived (v : Byte) (prot : List Byte) (use : Nat) : List Byte :=
  let c := if v = chr 'B' then tdesCipher prot else aesCipher prot
  let a := if v = chr 'B' then prot.length / 8 - 2 else prot.length / 8
  ((List.range (cdiv prot.length c.size)).flatMap (fun i => cmac c
    ([BitVec.ofNat 8 (i + 1)] ++ beBytes 2 use ++ [0] ++ beBytes 2 a ++ beBytes 2 (8 * prot.length)))).take prot.length

/-- The cipher under a derived key. -/
def kbCipher (v : Byte) (prot : List Byte) (use : Nat) : Cipher :=
  if v = chr 'B' then tdesCipher (kbDerived v prot use) else aesCipher (kbDerived v prot use)

/-- ALG of 07 R218 of a key of n bytes. -/
def kbKeyAlg (a n : Nat) : Option Nat :=
  if a = 0 then (if n = 16 then some 0x10 else if n = 24 then some 0x11 else if n = 32 then some 0x12 else none)
  else if a = 1 then (if n = 16 then some 0x01 else if n = 24 then some 0x02 else none)
  else if 16 ≤ n ∧ n ≤ 128 then some 0x20
  else none

/-- The protection key's algorithm suits the version (05 R165). -/
def kbProtOk (v : Byte) (alg : Nat) : Bool := if v = chr 'B' then isTdes alg else isAes alg

/-- Steps 1 to 4 of 05 R167: the head, the key's ALG and the key, or the status and DETAIL of the first failure. -/
def kbUnwrap (std : Bool) (protAlg : Nat) (prot b : List Byte) : Except (Nat × Nat) (KbHead × Nat × List Byte) :=
  match kbHeader std b with
  | .error e => .error (0x0016, e)
  | .ok h =>
    if !kbProtOk h.version protAlg then .error (0x0014, 0)
    else
      let k := kbBlock h.version
      let body := b.drop h.hlen
      let x := isX9143 h.version
      let mac := ofHex (lastN (2 * k) body)
      let pay := if x then cbcDec (kbCipher h.version prot 0) mac (ofHex (body.take (body.length - 2 * k)))
        else Config.pkBytes "ISO 20038 payload" [prot, b]
      let good := if x then cmac (kbCipher h.version prot 1) (b.take h.hlen ++ pay) == mac
        else Config.pkCheck "ISO 20038 MAC" [prot, b]
      if !good then .error (0x0017, 0)
      else
        let n := beNat (slice pay 0 2)
        match (if n % 8 = 0 ∧ 2 + n / 8 ≤ pay.length then kbKeyAlg h.alg (n / 8) else none) with
        | none => .error (0x0016, h.hlen)
        | some a => .ok (h, a, slice pay 2 (n / 8))

/-- The key check value of a key (05 R165). -/
def kcvOf (alg : Nat) (k : List Byte) : List Byte :=
  if isTdes alg then slice (tdesEnc k (zeros 8)) 0 3 ++ zeros 2
  else if isAes alg then slice (cmac (aesCipher k) (zeros 16)) 0 5
  else slice (hmac sha256 64 k []) 0 5

/-- A KC or KP value agrees with a key's check value: an algorithm number of two digits, then its leftmost bytes. -/
def kcvAgrees (v kcv : List Byte) : Bool :=
  let x := v.drop 2
  decide (2 ≤ x.length ∧ x.length ≤ 10) && x.length % 2 == 0 && x.all (fun b => (hexVal b).isSome) &&
    ofHex x == kcv.take (x.length / 2)

/-- The strength of a key in bits (05 R168). -/
def strengthOf (alg n : Nat) : Nat :=
  let a := alg % 0x80
  if a = 0x01 then 80 else if a = 0x02 ∨ a = 0x30 then 112
  else if a = 0x10 ∨ a = 0x31 ∨ a = 0x32 ∨ a = 0x40 ∨ a = 0x42 ∨ a = 0x50 then 128
  else if a = 0x11 ∨ a = 0x41 ∨ a = 0x51 then 192
  else if a = 0x12 ∨ a = 0x52 then 256
  else if a = 0x20 then min (8 * n) 256
  else 0

/-- A key without its parity bits. -/
def noParity (k : List Byte) : List Byte := k.map (fun b => b &&& 0xFE)

/-- The weak and semi-weak DES keys, without parity. -/
def desWeak : List (List Byte) :=
  let two (a b : Nat) : List Byte := (List.replicate 4 [BitVec.ofNat 8 a, BitVec.ofNat 8 b]).flatten
  let half (a b : Nat) : List Byte := List.replicate 4 (BitVec.ofNat 8 a) ++ List.replicate 4 (BitVec.ofNat 8 b)
  let quad (a b c d : Nat) : List Byte :=
    [a, b, a, b, c, d, c, d].map (BitVec.ofNat 8)
  ([two 0x01 0x01, two 0xFE 0xFE, half 0xE0 0xF1, half 0x1F 0x0E, quad 0x01 0xFE 0x01 0xFE, quad 0xFE 0x01 0xFE 0x01] ++
   [quad 0x1F 0xE0 0x0E 0xF1, quad 0xE0 0x1F 0xF1 0x0E, quad 0x01 0xE0 0x01 0xF1, quad 0xE0 0x01 0xF1 0x01,
    quad 0x1F 0xFE 0x0E 0xFE, quad 0xFE 0x1F 0xFE 0x0E] ++
   [quad 0x01 0x1F 0x01 0x0E, quad 0x1F 0x01 0x0E 0x01, quad 0xE0 0xFE 0xF1 0xFE, quad 0xFE 0xE0 0xFE 0xF1]).map noParity

/-- A weak key (05 R168): on the 56 key bits for TDES. -/
def weakKey (alg : Nat) (k : List Byte) : Bool :=
  if isTdes alg then
    let c := chunks 8 (noParity k)
    c.any desWeak.contains || c.getD 0 [] == c.getD 1 [] || (k.length == 24 && c.getD 1 [] == c.getD 2 [])
  else isAes alg && allZero k

/-- Steps 5 to 7 of 05 R167: the first failing status. -/
def kbChecks (h : KbHead) (alg : Nat) (k : List Byte) (protAlg : Nat) (prot : List Byte) : Option Nat :=
  let bad (x : List Byte × List Byte) : Bool :=
    (x.1 == ascii "KC" && !kcvAgrees x.2 (kcvOf alg k)) || (x.1 == ascii "KP" && !kcvAgrees x.2 (kcvOf protAlg prot))
  if h.opts.any bad then some 0x001A
  else if strengthOf protAlg prot.length < strengthOf alg k.length then some 0x001C
  else if weakKey alg k then some 0x001B
  else none

/-- The record of a key that a block brings (05 R167): masters the partition, worlds DATA and SCRIPT, life cycle FIELD. -/
def kbNewKey (h : KbHead) (alg : Nat) (k : List Byte) (parent : Option KeyRec) : NewKey :=
  { alg := alg, usage := h.usage, export_ := h.exp, worlds := 0x0C, masters := 0x01, lcSet := 0x08, kvn := h.kvn,
    kcv := kcvOf alg k, mat := k, mutv := 0, parent := parent }

/-- A KC optional block and the padding block that fills the header to whole cipher blocks, with their number. -/
def kbKcBlocks (v : Byte) (alg : Nat) (k : List Byte) : Nat × List Byte :=
  let kcv := toHex ((kcvOf alg k).take (if isTdes alg then 3 else 5))
  let kc := ascii "KC" ++ toHex [BitVec.ofNat 8 (6 + kcv.length)] ++ ascii (if isTdes alg then "00" else "01") ++ kcv
  let m := kbBlock v
  let gap := (m - kc.length % m) % m
  if gap = 0 then (1, kc)
  else
    let n := if gap < 4 then gap + m else gap
    (2, kc ++ ascii "PB" ++ toHex [BitVec.ofNat 8 n] ++ List.replicate (n - 4) (chr '0'))

/-- Bytes of padding after a key of n bytes. -/
def kbPadLen (v : Byte) (n : Nat) : Nat := let m := kbBlock v; (m - (2 + n) % m) % m

/-- The length of the block built around a key of n bytes. -/
def kbLength (v : Byte) (opts n : Nat) : Nat := 16 + opts + 2 * (2 + n + kbPadLen v n) + 2 * kbBlock v

/-- Build an X9.143 block: f gives usage, algorithm, mode, key version and exportability (bytes 5 to 11 of the header). -/
def kbBuild (v : Byte) (prot f k pad : List Byte) (nOpt : Nat) (opts : List Byte) : List Byte :=
  let hdr := [v] ++ asciiDec 4 (kbLength v opts.length k.length) ++ fit 7 f ++ asciiDec 2 nOpt ++ ascii "00" ++ opts
  let pay := beBytes 2 (8 * k.length) ++ k ++ pad
  let mac := cmac (kbCipher v prot 1) (hdr ++ pay)
  hdr ++ toHex (cbcEnc (kbCipher v prot 0) mac pay) ++ toHex mac

/-- The letter of an ALG that key blocks carry. -/
def kbLetter (alg : Nat) : Option Char :=
  if isAes alg then some 'A' else if isTdes alg then some 'T' else if alg = 0x20 then some 'H' else none

/-- Bytes 5 to 11 of the header of a record's block (05 R166, R169): the row is a free choice among those that express the
set (log 19); S and N carry N. -/
def kbFieldsOf (r : KeyRec) (letter : Char) (pair : List Byte) : List Byte :=
  pair.take 2 ++ [chr letter] ++ pair.drop 2 ++ leBytes 2 (if r.kvn = 0 then 0x3030 else r.kvn) ++
    [if r.exportRule = 2 then chr 'E' else chr 'N']

end Sys2Proof.Machine
end

