-- ==== Sys2Proof/Machine/Pin.lean ====
section
/-!
DEFINITION. PIN blocks and the PIN commands, and card verification codes (05 R137 to R155).
-/

namespace Sys2Proof.Machine

open Sys2Proof

/-- Is a format bound to a PAN (05 R143)? -/
def fmtUsesPan (f : Nat) : Bool := f == 0 || f == 3 || f == 4

/-- Bytes of a PIN block (05 R143). -/
def fmtSize (f : Nat) : Nat := if f = 4 then 16 else 8

/-- The PAN field of a format (05 R143). -/
def panField (f : Nat) (pan : List Nat) : List Byte :=
  if f = 4 then packNibbles ([pan.length - 12] ++ pan ++ List.replicate (31 - pan.length) 0)
  else if f = 1 then zeros 8
  else packNibbles (List.replicate 4 0 ++ List.replicate (12 - (panRight 12 pan).length) 0 ++ panRight 12 pan)

/-- Decipher a PIN block to its clear field (05 R143). -/
def pinOpenField (f : Nat) (k : Cipher) (pan : List Nat) (b : List Byte) : List Byte :=
  if f = 4 then k.dec (xorB (k.dec b) (panField 4 pan)) else xorB (k.dec b) (panField f pan)

/-- Encipher a clear field to a PIN block (05 R143). -/
def pinSealField (f : Nat) (k : Cipher) (pan : List Nat) (x : List Byte) : List Byte :=
  if f = 4 then k.enc (xorB (k.enc x) (panField 4 pan)) else k.enc (xorB x (panField f pan))

/-- The fill nibbles of a clear field satisfy its format (05 R143). -/
def fillOk (f x : Nat) : Bool :=
  if f = 0 ∨ f = 2 then x == 0xF else if f = 3 then decide (0xA ≤ x) else if f = 4 then x == 0xA else true

/-- The checks of 05 R144 on a clear field of format f: the first failing status. -/
def pinFieldBad (f : Nat) (x : List Byte) : Option Nat :=
  let ns := nibbles (slice x 0 8)
  let n := ns.getD 1 0
  if ns.getD 0 0 ≠ f then some 0x0040
  else if n < 4 ∨ 12 < n then some 0x0041
  else if ((ns.drop 2).take n).any (fun d => decide (9 < d)) || (ns.drop (2 + n)).any (fun d => !fillOk f d) then some 0x0040
  else none

/-- The PIN digits of a clear field. -/
def pinDigits (x : List Byte) : List Nat := let ns := nibbles (slice x 0 8); (ns.drop 2).take (ns.getD 1 0)

/-- A translation draws fresh fill (05 R146). -/
def drawsFill (f g : Nat) : Bool := f != g && g != 0

/-- The format pair is refused (05 R145): allow is the policy's translation from AES to TDES. -/
def pairRefused (allow : Bool) (f g : Nat) : Bool :=
  f == 2 || g == 2 || (g == 1 && f != 1) || (f == 4 && (g == 0 || g == 3) && !allow)

/-- Translation from AES to TDES is enabled by the partition's policy and by DP_POLICY (05 R145; 10 R350). -/
def aesToTdes (s : State) (p : Nat) : Bool := bit (objNat s (0x4000 + p) 0x30 0) 0 && bit (objNat s 0x3020 0x01 3) 1

/-- Random bytes that the fill of format g for an n-digit PIN takes. -/
def fillBytes (g n : Nat) : Nat := if g = 4 then 8 else 14 - n

/-- The output field (05 R146): the same field where the formats are equal, else control nibble, length and digits with
fill from r (log 21). -/
def outField (f g : Nat) (x r : List Byte) : List Byte :=
  if f = g then x
  else
    let d := pinDigits x
    let k := 14 - d.length
    let fill := if g = 0 ∨ g = 2 then List.replicate k 0xF
      else if g = 4 then List.replicate k 0xA
      else if g = 1 then (r.take k).map (fun b => b.toNat % 16)
      else (r.take k).map (fun b => 10 + b.toNat % 6)
    packNibbles ([g, d.length] ++ d ++ fill) ++ (if g = 4 then fit 8 r else [])

/-- A working key as PIN_TRANSLATE uses it. -/
structure WorkKey where
  alg   : Nat
  usage : Nat
  key   : List Byte

/-- The cipher of a working key. -/
def WorkKey.cipher (w : WorkKey) : Cipher := if isAes w.alg then aesCipher w.key else tdesCipher w.key

/-- A working key from a record. -/
def WorkKey.of (r : KeyRec) : WorkKey := { alg := r.alg, usage := r.usage, key := r.key }

/-- The key-block entry of partition p in a tile whose digest begins with dg and whose protection key is prot, usable with
capture cap (05 R141, R142; 07 R239). -/
def findBlock (m : TileMem) (p prot cap : Nat) (dg : List Byte) : Option CacheEnt :=
  m.cache.find? (fun e => e.colour == p && e.filled && (match e.pending with
    | some r => decide (cap < r)
    | none => true) && (match e.name with
      | .block d h => h == prot && d.take dg.length == dg
      | _ => false))

/-- Write a key-block entry, from the descriptor's transient space (05 R141; 07 R232, R233). -/
def cacheBlock (m : TileMem) (p : Nat) (c : Option Nat) (d : Nat × Nat) (dg : List Byte) (prot : KeyRec) (h : KbHead) (alg : Nat)
    (k : List Byte) : TileMem :=
  let spend (e : CacheEnt) : CacheEnt := if e.name = .transient d.1 d.2 0 then { e with blocks := e.blocks - 2 } else e
  let r : KeyRec := { KeyRec.reset with alg := alg, usage := h.usage, keyLen := k.length, mat := k, exportRule := h.exp,
                                        anc := childAnc c prot }
  let e : CacheEnt := { colour := p, name := .block dg prot.handle, blocks := 2, pins := [], pending := none,
                        filled := true, hashes := [], key := r }
  { m with cache := e :: (m.cache.map spend).filter (fun x => x.blocks != 0) }

/-- Use a cached key block: it becomes the most recently used. -/
def touchBlock (m : TileMem) (e : CacheEnt) : TileMem := { m with cache := e :: m.cache.filter (fun x => x.name != e.name) }

/-- A working key given as a key block (05 R141). -/
def blockKey (s : State) (c : Ctx) (b : List Byte) : Except (Nat × Nat) WorkKey × State :=
  let t := c.e.tile.getD 0
  let dg := sha3_256 b
  let prot := keyAt s c 0
  match findBlock (tmemOf s t) c.p prot.handle (c.e.capture.getD 0) dg with
  | some e => (.ok (WorkKey.of e.key), modTmem s t (fun m => touchBlock m e))
  | none =>
    match kbUnwrap true prot.alg prot.key b with
    | .error e => (.error e, s)
    | .ok (h, a, k) =>
      (.ok { alg := a, usage := h.usage, key := k },
       modTmem s t (fun m => cacheBlock m c.p c.e.capture (c.e.qp, c.e.asn) dg prot h a k))

/-- A working key given by reference (05 R142): which is 1 for the inbound key and 2 for the outbound one. -/
def refKey (s : State) (c : Ctx) (which : Nat) (dg : List Byte) : Except (Nat × Nat) WorkKey × State :=
  let t := c.e.tile.getD 0
  match findBlock (tmemOf s t) c.p (dKey c.d 0) (c.e.capture.getD 0) dg with
  | some e => (.ok (WorkKey.of e.key), modTmem s t (fun m => touchBlock m e))
  | none => (.error (0x0012, which), s)

/-- Usage and algorithm of a working key that did not come by handle (05 R141, R166). -/
def workKeyBad (which fmt : Nat) (w : WorkKey) : Option (Nat × Nat) :=
  let shut := if which = 1 then uPinOutOnly else uPinInOnly
  if !bit w.usage uPinXlate || bit w.usage shut then some (0x0010, which)
  else if !fmtAlg fmt w.alg then some (0x0014, which)
  else none

/-- The inbound (which = 1) or outbound (2) working key in the form given (05 R140); blk is its block in form 1. -/
def workKey (s : State) (c : Ctx) (which form fmt : Nat) (blk : List Byte) : Except (Nat × Nat) WorkKey × State :=
  if form = 0 then (.ok (WorkKey.of (keyAt s c which)), s)
  else
    let (r, t) := if form = 1 then blockKey s c blk else refKey s c which (slice c.d (0x50 + 0x10 * which) 16)
    match r with
    | .error e => (.error e, t)
    | .ok w =>
      match workKeyBad which fmt w with
      | some e => (.error e, t)
      | none => (.ok w, t)

/-- The length that a key block's header states, 0 where it states none. -/
def blkLen (b : List Byte) : Nat := (asciiNum decVal 10 (slice b 1 4)).getD 0

/-- The key blocks of the input list, one for each key in form 1, the inbound first, where the lengths that their headers state add up
to the list's (05 R148). -/
def formBlocks (p : Nat) (data : List Byte) : Option (List Byte × List Byte) :=
  let n1 := if bits p 9 8 = 1 then blkLen data else 0
  let n2 := if bits p 11 10 = 1 then blkLen (data.drop n1) else 0
  if n1 + n2 = data.length then some (data.take n1, data.drop n1) else none

/-- Format checks of PIN_TRANSLATE (05 R135 item 1, R145, R147, R148). -/
def pinTransFormat (c : Ctx) : List (Bool × Nat) :=
  let d := c.d
  let p := c.prm
  let f := bits p 2 0
  let g := bits p 6 4
  let a := bits p 9 8
  let b := bits p 11 10
  let prmBad := bit p 3 || bit p 7 || anyBits p 63 12 || decide (4 < f ∨ 4 < g) || a == 3 || b == 3 ||
    (if dSgl d then a == 2 || b == 2 else a == 1 || b == 1)
  [(!dSgl d && dInLen d != (if a = 2 ∨ b = 2 then 64 else 32), 0x04)] ++ unusedKeys d ++ [(prmBad, 0x38)] ++
    (if dSgl d then
      [(dOutList d != 0, 0x50), (!zeroAt d (0x60 + fmtSize f) 0x70, 0x60), (!zeroAt d 0x7A 0x80, 0x7A)]
    else
      [(!zeroAt d (0x40 + fmtSize f) 0x50, 0x40), (!zeroAt d 0x5A 0x60, 0x5A), (a != 2 && !zeroAt d 0x60 0x70, 0x60),
       (b != 2 && !zeroAt d 0x70 0x80, 0x70)])

/-- The PAN of a command whose formats are f and g: PAN_FORMAT_ERROR, the pair's refusal, or its digits (05 R135 item 3,
R137, R145). -/
def panAndPair (s : State) (p f g : Nat) (field : List Byte) : Except Nat (List Nat) :=
  let pan := if fmtUsesPan f || fmtUsesPan g then panOf field else if panUnused field then some [] else none
  match pan with
  | none => .error 0x0042
  | some l => if pairRefused (aesToTdes s p) f g then .error 0x0043 else .ok l

/-- Translate a block once both keys are at hand (05 R143 to R146, R148). journal tells whether fresh fill makes the
completion a journalled one. -/
def pinTranslate (s : State) (c : Ctx) (f g : Nat) (pan : List Nat) (k1 k2 : Cipher) (blk : List Byte) (journal : Bool) :
    Res × State :=
  let x := pinOpenField f k1 pan blk
  match pinFieldBad f x with
  | some e => (.fail e 0, s)
  | none =>
    let out (r : List Byte) : Res := .fin (Cpl.ok (pinSealField g k2 pan (outField f g x r)))
    if drawsFill f g then
      withRandom s c (fillBytes g (pinDigits x).length) (fun r t =>
        (if journal then (out r).journalled .none else out r, t))
    else (out [], s)

/-- PIN_TRANSLATE's work (05 R135, R140 to R148). -/
def pinTransWork : Work := fun s c =>
  let d := c.d
  let p := c.prm
  let f := bits p 2 0
  let g := bits p 6 4
  let at_ := if dSgl d then 0x60 else 0x40
  orFormat (pinTransFormat c) (fun a b => (Res.fail a b, s))
    (match formBlocks p c.data with
    | none => (.fail 0x0009 0, s)
    | some (b1, b2) =>
      match panAndPair s c.p f g (slice d (at_ + 0x10) 10) with
      | .error e => (.fail e 0, s)
      | .ok pan =>
        match workKey s c 1 (bits p 9 8) f b1 with
        | (.error (e, x), t) => (.fail e x, t)
        | (.ok w1, t) =>
          match workKey t c 2 (bits p 11 10) g b2 with
          | (.error (e, x), u) => (.fail e x, u)
          | (.ok w2, u) => pinTranslate u c f g pan w1.cipher w2.cipher (slice d at_ (fmtSize f)) true)

/-- PIN_TRANSLATE (05 R140 to R148). -/
def execPinTranslate (qp asn : Nat) (s : State) : Host.Outcome State Fault Refusal :=
  dataCommand qp asn 0x0201 pinTransWork s

/-- The natural PIN of the offset method (05 R149). -/
def naturalPin (k : Cipher) (val dectab : List Byte) (n : Nat) : List Nat :=
  ((nibbles (k.enc val)).map (fun x => (nibbles dectab).getD x 0)).take n

/-- The PIN verification value (05 R151). -/
def pvvOf (k : Cipher) (pan : List Nat) (pvki : Nat) (pin : List Nat) : List Nat :=
  scanDigits 4 (k.enc (packNibbles (panRight 11 pan ++ [pvki] ++ pin.take 4)))

/-- A decimal field of n digits in an m-byte space, left-aligned and filled with 0xF (05 R138). -/
def packDigits (m : Nat) (l : List Nat) : List Byte := packNibbles (l ++ List.replicate (2 * m - l.length) 0xF)

/-- DECTAB is one of the partition's enrolled tables, an all-zero entry being none (05 R150; 08 R277). -/
def dectabOk (s : State) (p : Nat) (t : List Byte) : Bool :=
  !allZero t && (chunks 8 (objBytes s (0x4000 + p) 0x31 64)).contains t

/-- Format checks of commands 0x0202 to 0x0205 (05 R135 item 1, R138, R145, R152): off tells the offset method, gen a
generation. -/
def pinVerFormat (c : Ctx) (off gen : Bool) : List (Bool × Nat) :=
  let d := c.d
  let f := bits c.prm 2 0
  let n := (byteAt d 0x5A).toNat
  [(dInLen d != 64, 0x04)] ++ unusedKeys d ++ [(anyBits c.prm 63 3 || decide (4 < f), 0x38),
    (!zeroAt d (0x40 + fmtSize f) 0x50, 0x40),
    (if off then decide (n < 4 ∨ 12 < n) else decide (6 < n), 0x5A), (!zeroAt d 0x5B 0x60, 0x5B),
    (!off && !zeroAt d 0x60 0x68, 0x60), (!off && !zeroAt d 0x68 0x70, 0x68), (gen && !zeroAt d 0x70 0x76, 0x70),
    (!zeroAt d 0x76 0x80, 0x76)]

/-- REMAINING of a try counter (07 R217). -/
def triesLeft (mutv : Nat) : Nat := bits mutv 11 8

/-- The end of a PIN verification (05 R152, R153), given whether the PIN verifies. -/
def pinVerdict (s : State) (c : Ctx) (ok : Bool) : Res :=
  if dKey c.d 3 = 0 then (if ok then .fin (Cpl.ok []) else .fail 0x0044 0xFFFF)
  else
    let m := (keyAt s c 3).mutv
    let lim := bits m 3 0
    let left := if ok then lim else triesLeft m - 1
    .commit (if ok then Cpl.ok [] else Cpl.fail 0x0044 left) (mutEffect s c 3 (lim + 256 * left))

/-- The digits a PIN command's method works with: the natural PIN or nothing but the PIN itself. -/
structure PinCase where
  pin : List Nat
  pan : List Nat

/-- The work of 0x0202 to 0x0205 up to the method's own computation k, which takes the PIN and the PAN (05 R135, R143 to
R145, R149 to R153). A try counter at 0 stops it before the PIN is examined. -/
def pinVerWork (off gen : Bool) (k : State → Ctx → PinCase → Res) : Work := pureWork (fun s c =>
  let d := c.d
  let f := bits c.prm 2 0
  let pan := panOf (slice d 0x50 10)
  let blk := slice d 0x40 (fmtSize f)
  orFormat (pinVerFormat c off gen) Res.fail
    (if !(fmtUsesPan f || !off) && !panUnused (slice d 0x50 10) then .fail 0x0042 0
    else if (fmtUsesPan f || !off) && pan.isNone then .fail 0x0042 0
    else if off ∧ !decimalField (slice d 0x68 8) 16 then .fail 0x0003 0x68
    else if off ∧ !dectabOk s c.p (slice d 0x68 8) then .fail 0x0046 0
    else if !gen ∧ !decimalField (slice d 0x70 6) (if off then (byteAt d 0x5A).toNat else 4) then .fail 0x0003 0x70
    else if f = 2 then .fail 0x0043 0
    else if !gen ∧ dKey d 3 ≠ 0 ∧ triesLeft (keyAt s c 3).mutv = 0 then .fail 0x0045 0
    else
      let x := pinOpenField f (keyAt s c 0).cipher (pan.getD []) blk
      match pinFieldBad f x with
      | some e => .fail e 0
      | none => k s c { pin := pinDigits x, pan := pan.getD [] }))

/-- The natural PIN of an offset command. -/
def naturalOf (s : State) (c : Ctx) : List Nat :=
  naturalPin (keyAt s c 1).cipher (slice c.d 0x60 8) (slice c.d 0x68 8) (byteAt c.d 0x5A).toNat

/-- The work of PIN_VERIFY_OFFSET (05 R149, R150, R152, R153). -/
def pinVerifyOffsetBody : Work := pinVerWork true false (fun t c x =>
    let n := (byteAt c.d 0x5A).toNat
    let want := List.zipWith (fun a b => (a + b) % 10) (naturalOf t c) ((nibbles (slice c.d 0x70 6)).take n)
    pinVerdict t c (decide (n ≤ x.pin.length) && x.pin.take n == want))

/-- PIN_VERIFY_OFFSET. -/
def execPinVerifyOffset (qp asn : Nat) (s : State) : Host.Outcome State Fault Refusal :=
  dataCommand qp asn 0x0202 pinVerifyOffsetBody s

/-- The work of PIN_VERIFY_PVV (05 R151 to R153). -/
def pinVerifyPvvBody : Work := pinVerWork false false (fun t c x =>
    let v := pvvOf (keyAt t c 1).cipher x.pan (byteAt c.d 0x5A).toNat x.pin
    pinVerdict t c (packDigits 2 v == slice c.d 0x70 2))

/-- PIN_VERIFY_PVV (05 R151 to R153). -/
def execPinVerifyPvv (qp asn : Nat) (s : State) : Host.Outcome State Fault Refusal :=
  dataCommand qp asn 0x0203 pinVerifyPvvBody s

/-- The work of PIN_OFFSET_GENERATE (05 R149, R150, R152): over CHECK_LEN digits; a shorter PIN has no digits there, and PIN_LENGTH_ERROR
answers it (log 22). -/
def pinOffsetGenerateBody : Work := pinVerWork true true (fun t c x =>
    let n := (byteAt c.d 0x5A).toNat
    if x.pin.length < n then .fail 0x0041 0
    else .fin (Cpl.ok (packDigits 6 (List.zipWith (fun a b => (a + 10 - b) % 10) (x.pin.take n) (naturalOf t c)))))

/-- PIN_OFFSET_GENERATE (05 R149, R150, R152). -/
def execPinOffsetGenerate (qp asn : Nat) (s : State) : Host.Outcome State Fault Refusal :=
  dataCommand qp asn 0x0204 pinOffsetGenerateBody s

/-- The work of PVV_GENERATE (05 R151, R152). -/
def pvvGenerateBody : Work := pinVerWork false true (fun t c x =>
    .fin (Cpl.ok (packDigits 2 (pvvOf (keyAt t c 1).cipher x.pan (byteAt c.d 0x5A).toNat x.pin))))

/-- PVV_GENERATE (05 R151, R152). -/
def execPvvGenerate (qp asn : Nat) (s : State) : Host.Outcome State Fault Refusal :=
  dataCommand qp asn 0x0205 pvvGenerateBody s

/-- The card verification code (05 R154): T of the two blocks of joined digits, scanned. -/
def cvcOf (key : List Byte) (digits : List Nat) (n : Nat) : List Nat :=
  let ns := (digits ++ List.replicate (32 - digits.length) 0).take 32
  let b := packNibbles ns
  let a := slice key 0 8
  let t := desEnc a (desDec (slice key 8 8) (desEnc a (xorB (desEnc a (slice b 0 8)) (slice b 8 8))))
  scanDigits n t

/-- The work of the two card verification commands (05 R154, R155). -/
def cvcWork (ver : Bool) : Work := pureWork (fun s c =>
  let d := c.d
  let n := bits c.prm 3 0
  orFormat ([(dInLen d != 32, 0x04)] ++ unusedKeys d ++ [(anyBits c.prm 63 4 || decide (n < 3 ∨ 5 < n), 0x38),
      (!ver && !zeroAt d 0x4E 0x51, 0x4E), (!zeroAt d 0x51 0x60, 0x51)]) Res.fail
    (match panOf (slice d 0x40 10) with
      | none => .fail 0x0042 0
      | some pan => orFormat [(!decimalField (slice d 0x4A 2) 4, 0x4A), (!decimalField (slice d 0x4C 2) 3, 0x4C),
          (ver && !decimalField (slice d 0x4E 3) n, 0x4E)] Res.fail (
        let digits := pan ++ nibbles (slice d 0x4A 2) ++ (nibbles (slice d 0x4C 2)).take 3
        let code := packDigits 3 (cvcOf (keyAt s c 0).key digits n)
        if !ver then .fin (Cpl.ok code)
        else if code = slice d 0x4E 3 then .fin (Cpl.ok [])
        else .fail 0x0047 0)))

/-- CVC_GENERATE (05 R154, R155). -/
def execCvcGenerate (qp asn : Nat) (s : State) : Host.Outcome State Fault Refusal :=
  dataCommand qp asn 0x0601 (cvcWork false) s
/-- CVC_VERIFY (05 R154, R155). -/
def execCvcVerify (qp asn : Nat) (s : State) : Host.Outcome State Fault Refusal :=
  dataCommand qp asn 0x0602 (cvcWork true) s

end Sys2Proof.Machine
end

