-- ==== Sys2Proof/Machine/Num.lean ====
section
/-!
DEFINITION. Arithmetic of the public-key algorithms on numbers (06 R196, R199), and the hashes that CMD_PARAM names (06 R202).
-/

namespace Sys2Proof.Machine

open Sys2Proof

/-- b to the power e modulo m. -/
def powMod (b e m : Nat) : Nat :=
  (List.range (e.log2 + 1)).foldr (fun i x => let y := x * x % m; if e.testBit i then y * b % m else y) (1 % m)

/-- Euclid's algorithm on remainders r0, r1 with the coefficients of the second start value. -/
def euclid (fuel : Nat) (r0 r1 t0 t1 : Int) : Int :=
  match fuel with
  | 0 => t0
  | fuel + 1 => if r1 = 0 then t0 else euclid fuel r1 (r0 % r1) t1 (t0 - r0 / r1 * t1)

/-- The inverse of a modulo m, where a and m have no common factor. -/
def invMod (a m : Nat) : Nat := (euclid (2 * m.log2 + 4) m (a % m : Nat) 0 1 % m).toNat

/-- a − b modulo m. -/
def subMod (a b m : Nat) : Nat := (a + (m - b % m)) % m

/-- Bits of a number. -/
def bitLen (n : Nat) : Nat := if n = 0 then 0 else n.log2 + 1

/-- A number as bytes, most significant first, without leading zeros. -/
def natBytes (n : Nat) : List Byte := beBytes (cdiv (bitLen n) 8) n

/-- A hash as HASH names it: its function, its block length, its digest length and the last byte of its OID (06 R202). -/
structure HashAlg where
  fn    : List Byte → List Byte
  block : Nat
  size  : Nat
  oid   : Byte

/-- The hash that HASH names (06 R202). -/
def hashAlg (h : Nat) : HashAlg :=
  if h = 0 then { fn := sha256, block := 64, size := 32, oid := 1 }
  else if h = 1 then { fn := sha384, block := 128, size := 48, oid := 2 }
  else if h = 2 then { fn := sha512, block := 128, size := 64, oid := 3 }
  else if h = 3 then { fn := sha3_256, block := 136, size := 32, oid := 8 }
  else { fn := sha3_512, block := 72, size := 64, oid := 0x0A }

/-- The OID of a hash in DER. -/
def HashAlg.oidDer (h : HashAlg) : List Byte := [0x06, 0x09, 0x60, 0x86, 0x48, 0x01, 0x65, 0x03, 0x04, 0x02, h.oid]

/-- Mask generation by a hash: n bytes of a seed. -/
def mgf1 (h : HashAlg) (seed : List Byte) (n : Nat) : List Byte :=
  ((List.range (cdiv n h.size)).flatMap (fun i => h.fn (seed ++ beBytes 4 i))).take n

end Sys2Proof.Machine
end

