-- ==== Sys2Proof/Machine/Der.lean ====
section
/-!
DEFINITION. DER as public keys and certificates use it: SubjectPublicKeyInfo (06 R203) and X.509 v3 (05 R170), after X.690, RFC 5280
and RFC 5480 (log 16).
-/

namespace Sys2Proof.Machine

open Sys2Proof

/-- The length octets of a body of n bytes. -/
def derLen (n : Nat) : List Byte :=
  if n < 128 then [BitVec.ofNat 8 n] else let b := natBytes n; BitVec.ofNat 8 (128 + b.length) :: b

/-- An element of a tag. -/
def der (tag : Byte) (body : List Byte) : List Byte := [tag] ++ derLen body.length ++ body

/-- A non-negative INTEGER. -/
def derInt (n : Nat) : List Byte := der 0x02 (let b := natBytes n; if (byteAt b 0).toNat < 128 ∧ b ≠ [] then b else 0 :: b)

/-- A BIT STRING of whole bytes. -/
def derBits (b : List Byte) : List Byte := der 0x03 (0 :: b)

/-- The first element of a string: its tag, its body, the element whole and the rest. -/
def derTake (b : List Byte) : Option (Byte × List Byte × List Byte × List Byte) :=
  match b with
  | t :: l :: r =>
    let k := if l.toNat < 128 then 0 else l.toNat - 128
    let n := if l.toNat < 128 then l.toNat else beNat (r.take k)
    if r.length < k + n then none else some (t, (r.drop k).take n, b.take (2 + k + n), (r.drop k).drop n)
  | _ => none

/-- The elements of a string, each with its tag, body and whole; none where it does not divide into elements. -/
def derElems (fuel : Nat) (b : List Byte) : Option (List (Byte × List Byte × List Byte)) :=
  match fuel, b with
  | _, [] => some []
  | 0, _ => none
  | fuel + 1, b =>
    match derTake b with
    | none => none
    | some (t, x, w, r) => (derElems fuel r).map (fun l => (t, x, w) :: l)

/-- The elements of a SEQUENCE that is the whole of a string. -/
def derSeq (b : List Byte) : Option (List (Byte × List Byte × List Byte)) :=
  match derElems b.length b with
  | some [(0x30, x, _)] => derElems x.length x
  | _ => none

/-- The number of an INTEGER in DER. -/
def derNat (x : Byte × List Byte × List Byte) : Option Nat :=
  if x.1 = 0x02 ∧ x.2.1 ≠ [] ∧ (byteAt x.2.1 0).toNat < 128 then some (beNat x.2.1) else none

/-- The OBJECT IDENTIFIER of rsaEncryption. -/
def oidRsa : List Byte := [0x2A, 0x86, 0x48, 0x86, 0xF7, 0x0D, 0x01, 0x01, 0x01]
/-- That of an EC public key. -/
def oidEc : List Byte := [0x2A, 0x86, 0x48, 0xCE, 0x3D, 0x02, 0x01]
/-- That of P-256. -/
def oidP256 : List Byte := [0x2A, 0x86, 0x48, 0xCE, 0x3D, 0x03, 0x01, 0x07]
/-- That of P-384. -/
def oidP384 : List Byte := [0x2B, 0x81, 0x04, 0x00, 0x22]
/-- That of Ed25519. -/
def oidEd : List Byte := [0x2B, 0x65, 0x70]
/-- That of ML-KEM-768. -/
def oidKem768 : List Byte := [0x60, 0x86, 0x48, 0x01, 0x65, 0x03, 0x04, 0x04, 0x02]

/-- The SubjectPublicKeyInfo of a key: its algorithm identifier and its key bits. -/
def spki (alg key : List Byte) : List Byte := der 0x30 (der 0x30 alg ++ derBits key)

/-- The elements of the algorithm identifier and the key bits of a SubjectPublicKeyInfo. -/
def spkiParts (b : List Byte) : Option (List (Byte × List Byte × List Byte) × List Byte) :=
  match derSeq b with
  | some [(0x30, alg, _), (0x03, 0 :: key, _)] => (derElems alg.length alg).map (fun l => (l, key))
  | _ => none

/-- The modulus and the exponent of an RSA public key. -/
def spkiRsa (b : List Byte) : Option (Nat × Nat) :=
  match spkiParts b with
  | some ([(0x06, o, _), (0x05, [], _)], key) =>
    if o ≠ oidRsa then none
    else (match derSeq key with
      | some [x, y] => (match derNat x, derNat y with
        | some n, some e => some (n, e)
        | _, _ => none)
      | _ => none)
  | _ => none

/-- The key bits of a key on a named curve. -/
def spkiEc (curve b : List Byte) : Option (List Byte) :=
  match spkiParts b with
  | some ([(0x06, o, _), (0x06, c, _)], key) => if o = oidEc ∧ c = curve then some key else none
  | _ => none

/-- The key bits of a key whose algorithm identifier is one OID. -/
def spkiPlain (oid b : List Byte) : Option (List Byte) :=
  match spkiParts b with
  | some ([(0x06, o, _)], key) => if o = oid then some key else none
  | _ => none

/-- What an X.509 certificate holds that its verification reads: the signed part, the OID of its signature algorithm, the signature
and the subject's SubjectPublicKeyInfo. -/
structure Cert where
  tbs  : List Byte
  oid  : List Byte
  sig  : List Byte
  spki : List Byte

/-- The certificate that a string holds, none where it is not one. -/
def certOf (b : List Byte) : Option Cert :=
  match derSeq b with
  | some [(0x30, tbs, whole), (0x30, alg, _), (0x03, 0 :: sig, _)] =>
    (match derElems tbs.length tbs, derTake alg with
    | some l, some (0x06, o, _, _) =>
      (match (if l.any (fun x => x.1 == 0xA0) then l.drop 1 else l) with
      | (0x02, _, _) :: (0x30, _, _) :: (0x30, _, _) :: (0x30, _, _) :: (0x30, _, _) :: (0x30, _, k) :: _ =>
        some { tbs := whole, oid := o, sig := sig, spki := k }
      | _ => none)
    | _, _ => none)
  | _ => none

end Sys2Proof.Machine
end

