-- ==== Sys2Proof/Machine/Ec.lean ====
section
/-!
DEFINITION. The curves P-256 and P-384, ECDSA and ECDH (06 R196, R203), after FIPS 186-5, SP 800-186 and RFC 6979, and Ed25519
after RFC 8032 (log 16).
-/

namespace Sys2Proof.Machine

open Sys2Proof

/-- A curve y² = x³ − 3x + b over a prime field, its order and its base point. -/
structure Curve where
  p    : Nat
  b    : Nat
  n    : Nat
  gx   : Nat
  gy   : Nat
  size : Nat

/-- P-256. -/
def p256 : Curve :=
  { p := 2 ^ 256 - 2 ^ 224 + 2 ^ 192 + 2 ^ 96 - 1,
    b := 0x5ac635d8aa3a93e7b3ebbd55769886bc651d06b0cc53b0f63bce3c3e27d2604b,
    n := 0xffffffff00000000ffffffffffffffffbce6faada7179e84f3b9cac2fc632551,
    gx := 0x6b17d1f2e12c4247f8bce6e563a440f277037d812deb33a0f4a13945d898c296,
    gy := 0x4fe342e2fe1a7f9b8ee7eb4a7c0f9e162bce33576b315ececbb6406837bf51f5, size := 32 }

/-- P-384. -/
def p384 : Curve :=
  { p := 2 ^ 384 - 2 ^ 128 - 2 ^ 96 + 2 ^ 32 - 1,
    b := 0xb3312fa7e23ee7e4988e056be3f82d19181d9c6efe8141120314088f5013875ac656398d8a2ed19d2a85c8edd3ec2aef,
    n := 0xffffffffffffffffffffffffffffffffffffffffffffffffc7634d81f4372ddf581a0db248b0a77aecec196accc52973,
    gx := 0xaa87ca22be8b05378eb1c71ef320ad746e1d3b628ba79b9859f741e082542a385502f25dbf55296c3a545e3872760ab7,
    gy := 0x3617de4a96262c6f5d9e98bf9292dc29f8f41dbd289a147ce9da3113b5f0b8c00a60b1ce1d7e819d7a431d7c90ea0e5f, size := 48 }

/-- A point: none is the identity. -/
abbrev Point := Option (Nat × Nat)

/-- The sum of two points. -/
def Curve.add (c : Curve) (u v : Point) : Point :=
  match u, v with
  | none, _ => v
  | _, none => u
  | some (x1, y1), some (x2, y2) =>
    if x1 = x2 ∧ (y1 + y2) % c.p = 0 then none
    else
      let l := if x1 = x2 then (3 * x1 * x1 + (c.p - 3)) % c.p * invMod (2 * y1) c.p % c.p
        else subMod y2 y1 c.p * invMod (subMod x2 x1 c.p) c.p % c.p
      let x := subMod (subMod (l * l) x1 c.p) x2 c.p
      some (x, subMod (l * subMod x1 x c.p) y1 c.p)

/-- A multiple of a point. -/
def Curve.mul (c : Curve) (k : Nat) (u : Point) : Point :=
  (List.range (bitLen k)).foldr (fun i v => let w := c.add v v; if k.testBit i then c.add w u else w) none

/-- The base point. -/
def Curve.base (c : Curve) : Point := some (c.gx, c.gy)

/-- Does a point lie on the curve (06 R204)? -/
def Curve.on (c : Curve) (x y : Nat) : Bool :=
  decide (x < c.p) && decide (y < c.p) && y * y % c.p == (x * x * x + (c.p - 3) * x + c.b) % c.p

/-- The uncompressed encoding of a point. -/
def Curve.encode (c : Curve) (u : Point) : List Byte :=
  match u with
  | none => [0]
  | some (x, y) => [0x04] ++ beBytes c.size x ++ beBytes c.size y

/-- The point that an encoding gives, none where it is not one of the curve or is the identity (06 R204). -/
def Curve.decode (c : Curve) (b : List Byte) : Option (Nat × Nat) :=
  let x := beNat (slice b 1 c.size)
  let y := beNat (slice b (1 + c.size) c.size)
  if b.length = 1 + 2 * c.size ∧ byteAt b 0 = 0x04 ∧ c.on x y then some (x, y) else none

/-- The public key of a scalar, encoded. -/
def Curve.pubOf (c : Curve) (d : Nat) : List Byte := c.encode (c.mul d c.base)

/-- The number that the leftmost bits of a digest give. -/
def Curve.ofDigest (c : Curve) (h : List Byte) : Nat := beNat h >>> (8 * h.length - bitLen c.n)

/-- One round of the nonce generator of RFC 6979: the next K and V. -/
def rfcNext (h : HashAlg) (k v : List Byte) : List Byte × List Byte :=
  let k' := hmac h.fn h.block k (v ++ [0])
  (k', hmac h.fn h.block k' v)

/-- The candidate of RFC 6979 for the curve: enough blocks of V, and the last V. -/
def Curve.candidate (c : Curve) (h : HashAlg) (k v : List Byte) : Nat × List Byte :=
  let r := (List.range (cdiv c.size h.size)).foldl (fun (x : List Byte × List Byte) _ =>
    let w := hmac h.fn h.block k x.2
    (x.1 ++ w, w)) ([], v)
  (c.ofDigest r.1, r.2)

/-- The signature for a nonce, none where the nonce does not serve. -/
def Curve.signWith (c : Curve) (d e k : Nat) : Option (List Byte) :=
  match c.mul k c.base with
  | none => none
  | some (x, _) =>
    let r := x % c.n
    let s := invMod k c.n * ((e + r * d) % c.n) % c.n
    if k = 0 ∨ c.n ≤ k ∨ r = 0 ∨ s = 0 then none else some (beBytes c.size r ++ beBytes c.size s)

/-- The first nonce that serves, up to fuel of them. -/
def Curve.signFrom (c : Curve) (h : HashAlg) (d e fuel : Nat) (k v : List Byte) : List Byte :=
  match fuel with
  | 0 => zeros (2 * c.size)
  | fuel + 1 =>
    let (n, w) := c.candidate h k v
    match (if 1 ≤ n ∧ n < c.n then c.signWith d e n else none) with
    | some s => s
    | none => let (k', v') := rfcNext h k w; c.signFrom h d e fuel k' v'

/-- ECDSA (06 R202, R203): r joined with s, the nonce by RFC 6979; rnd is the additional input of a hedged signature, of its section
3.6 (log 12), empty for a deterministic one. -/
def ecdsaSign (c : Curve) (h : HashAlg) (d : Nat) (digest rnd : List Byte) : List Byte :=
  let e := c.ofDigest digest
  let x := beBytes c.size d ++ beBytes c.size (e % c.n) ++ rnd
  let k1 := hmac h.fn h.block (zeros h.size) (List.replicate h.size 1 ++ [0] ++ x)
  let v1 := hmac h.fn h.block k1 (List.replicate h.size 1)
  let k2 := hmac h.fn h.block k1 (v1 ++ [1] ++ x)
  c.signFrom h d e 128 k2 (hmac h.fn h.block k2 v1)

/-- Does an ECDSA signature hold under a public point? -/
def ecdsaVerify (c : Curve) (pub digest sig : List Byte) : Bool :=
  let r := beNat (slice sig 0 c.size)
  let s := beNat (slice sig c.size c.size)
  match c.decode pub with
  | none => false
  | some q =>
    if r = 0 ∨ c.n ≤ r ∨ s = 0 ∨ c.n ≤ s ∨ sig.length ≠ 2 * c.size then false
    else
      let w := invMod s c.n
      match c.add (c.mul (c.ofDigest digest * w % c.n) c.base) (c.mul (r * w % c.n) (some q)) with
      | none => false
      | some (x, _) => x % c.n == r

/-- The shared secret of ECDH: the x coordinate, none for a point that is refused (06 R203, R204). -/
def ecdh (c : Curve) (d : Nat) (peer : List Byte) : Option (List Byte) :=
  match c.decode peer with
  | none => none
  | some q =>
    match c.mul d (some q) with
    | none => none
    | some (x, _) => some (beBytes c.size x)

/-- The field of edwards25519. -/
def edP : Nat := 2 ^ 255 - 19

/-- The order of its base point. -/
def edL : Nat := 2 ^ 252 + 27742317777372353535851937790883648493

/-- The constant d. -/
def edD : Nat := (edP - 121665) * invMod 121666 edP % edP

/-- The sum of two points of edwards25519, by the complete formula. -/
def edAdd (u v : Nat × Nat) : Nat × Nat :=
  let (x1, y1) := u
  let (x2, y2) := v
  let t := edD * (x1 * x2 % edP) % edP * (y1 * y2 % edP) % edP
  ((x1 * y2 + x2 * y1) % edP * invMod (1 + t) edP % edP,
   (y1 * y2 + x1 * x2) % edP * invMod (subMod 1 t edP) edP % edP)

/-- A multiple of a point. -/
def edMul (k : Nat) (u : Nat × Nat) : Nat × Nat :=
  (List.range (bitLen k)).foldr (fun i v => let w := edAdd v v; if k.testBit i then edAdd w u else w) (0, 1)

/-- The x of a y and a sign, none where there is none. -/
def edX (y sign : Nat) : Option Nat :=
  let u := subMod (y * y) 1 edP
  let v := (edD * (y * y % edP) + 1) % edP
  let x2 := u * invMod v edP % edP
  let r := powMod x2 ((edP + 3) / 8) edP
  let x := if r * r % edP = x2 then r else r * powMod 2 ((edP - 1) / 4) edP % edP
  if edP ≤ y ∨ x * x % edP ≠ x2 ∨ (x = 0 ∧ sign = 1) then none
  else some (if x % 2 = sign then x else subMod 0 x edP)

/-- The encoding of a point. -/
def edEncode (u : Nat × Nat) : List Byte := leBytes 32 (u.2 + 2 ^ 255 * (u.1 % 2))

/-- The point of an encoding, none where decoding fails (06 R204). -/
def edDecode (b : List Byte) : Option (Nat × Nat) :=
  let v := leNat b
  if b.length ≠ 32 then none
  else (edX (v % 2 ^ 255) (v / 2 ^ 255)).map (fun x => (x, v % 2 ^ 255))

/-- The base point. -/
def edBase : Nat × Nat := let y := 4 * invMod 5 edP % edP; ((edX y 0).getD 0, y)

/-- The scalar and the prefix of a seed. -/
def edSecret (seed : List Byte) : Nat × List Byte :=
  let h := sha512 seed
  ((leNat (h.take 32) % 2 ^ 254 / 8 * 8) + 2 ^ 254, h.drop 32)

/-- The public key of a seed. -/
def edPub (seed : List Byte) : List Byte := edEncode (edMul (edSecret seed).1 edBase)

/-- The Ed25519 signature of a message. -/
def edSign (seed m : List Byte) : List Byte :=
  let (a, pre) := edSecret seed
  let pub := edPub seed
  let r := leNat (sha512 (pre ++ m)) % edL
  let big := edEncode (edMul r edBase)
  let k := leNat (sha512 (big ++ pub ++ m)) % edL
  big ++ leBytes 32 ((r + k * a) % edL)

/-- Does an Ed25519 signature hold? -/
def edVerify (pub m sig : List Byte) : Bool :=
  match edDecode pub, edDecode (sig.take 32) with
  | some a, some r =>
    let s := leNat (sig.drop 32)
    let k := leNat (sha512 (sig.take 32 ++ pub ++ m)) % edL
    decide (sig.length = 64) && decide (s < edL) && edMul s edBase == edAdd r (edMul k a)
  | _, _ => false

end Sys2Proof.Machine
end

