-- ==== Sys2Proof/Machine/Lattice.lean ====
section
/-!
DEFINITION. Polynomials of 256 coefficients and their number-theoretic transforms (06 R196), shared by ML-KEM and ML-DSA.
-/

namespace Sys2Proof.Machine

open Sys2Proof

/-- A polynomial: 256 coefficients modulo q. -/
abbrev Poly := List Nat

/-- The number whose w bits are those of v reversed. -/
def bitRev (w v : Nat) : Nat := (List.range w).foldl (fun r i => 2 * r + b2n (v.testBit i)) 0

/-- A transform's modulus, its root of unity and its depth. -/
structure Ntt where
  q     : Nat
  root  : Nat
  depth : Nat

/-- The transform of ML-KEM. -/
def nttKem : Ntt := { q := 3329, root := 17, depth := 7 }
/-- The transform of ML-DSA. -/
def nttDsa : Ntt := { q := 8380417, root := 1753, depth := 8 }

/-- The twiddle factor of node k. -/
def Ntt.zeta (t : Ntt) (k : Nat) : Nat := powMod t.root (bitRev t.depth k) t.q

/-- The sum of two polynomials. -/
def polyAdd (q : Nat) (a b : Poly) : Poly := List.zipWith (fun x y => (x + y) % q) a b
/-- Their difference. -/
def polySub (q : Nat) (a b : Poly) : Poly := List.zipWith (fun x y => subMod x y q) a b
/-- A multiple of a polynomial. -/
def polyScale (q k : Nat) (a : Poly) : Poly := a.map (fun x => x * k % q)

/-- The forward transform of the block at node k. -/
def Ntt.fwdAt (t : Ntt) (d k : Nat) (a : Poly) : Poly :=
  match d with
  | 0 => a
  | d + 1 =>
    let h := a.length / 2
    let hi := polyScale t.q (t.zeta k) (a.drop h)
    t.fwdAt d (2 * k) (polyAdd t.q (a.take h) hi) ++ t.fwdAt d (2 * k + 1) (polySub t.q (a.take h) hi)

/-- The forward transform. -/
def Ntt.fwd (t : Ntt) (a : Poly) : Poly := t.fwdAt t.depth 1 a

/-- The inverse transform of the block at node k, short of the division by the number of blocks. -/
def Ntt.invAt (t : Ntt) (d k : Nat) (a : Poly) : Poly :=
  match d with
  | 0 => a
  | d + 1 =>
    let h := a.length / 2
    let lo := t.invAt d (2 * k) (a.take h)
    let hi := t.invAt d (2 * k + 1) (a.drop h)
    polyAdd t.q lo hi ++ polyScale t.q (invMod (t.zeta k) t.q) (polySub t.q lo hi)

/-- The inverse transform. -/
def Ntt.inv (t : Ntt) (a : Poly) : Poly := polyScale t.q (invMod (2 ^ t.depth) t.q) (t.invAt t.depth 1 a)

/-- The pairs of a list. -/
def pairsOf (a : Poly) : List (Nat × Nat) :=
  match a with
  | x :: y :: r => (x, y) :: pairsOf r
  | _ => []

/-- The product of two transforms: coefficient by coefficient, or for ML-KEM pair by pair modulo X² − ζ^(2·BitRev(i)+1). -/
def Ntt.mul (t : Ntt) (a b : Poly) : Poly :=
  if t.depth = 8 then List.zipWith (fun x y => x * y % t.q) a b
  else
    ((List.range 128).zip ((pairsOf a).zip (pairsOf b))).flatMap (fun (i, x, y) =>
      let g := powMod t.root (2 * bitRev 7 i + 1) t.q
      [(x.1 * y.1 + x.2 * y.2 % t.q * g) % t.q, (x.1 * y.2 + x.2 * y.1) % t.q])

/-- The zero polynomial. -/
def polyZero : Poly := List.replicate 256 0

/-- The sum of the products of two vectors of transforms. -/
def Ntt.dot (t : Ntt) (a b : List Poly) : Poly :=
  (a.zip b).foldl (fun s x => polyAdd t.q s (t.mul x.1 x.2)) polyZero

/-- Coefficients of w bits each as bytes, least significant bit first. -/
def packBits (w : Nat) (a : Poly) : List Byte :=
  leBytes (cdiv (w * a.length) 8) (a.foldr (fun x r => x + 2 ^ w * r) 0)

/-- n coefficients of w bits from bytes. -/
def unpackBits (w n : Nat) (b : List Byte) : Poly :=
  let v := leNat b
  (List.range n).map (fun i => (v >>> (w * i)) % 2 ^ w)

/-- The first 256 of the candidates that bytes of a stream give. -/
def firstCoeffs (l : List (Option Nat)) : Poly := let c := (l.filterMap id).take 256; c ++ List.replicate (256 - c.length) 0

end Sys2Proof.Machine
end

