-- ==== Sys2Proof/Machine/MlDsa.lean ====
section
/-!
DEFINITION. ML-DSA (06 R198, R199, R202, R203), after FIPS 204 (log 16). A sampler's stream has the length that standard allows as a
bound; the rejection loop ends at the 1,000 iterations of 06 R198.
-/

namespace Sys2Proof.Machine

open Sys2Proof

/-- The modulus of ML-DSA. -/
abbrev dsaQ : Nat := 8380417

/-- A parameter set of ML-DSA: γ1 is 2 to the power g1, γ2 is (q − 1) over g2; lam is the length of c~ in bytes. -/
structure DsaSet where
  k     : Nat
  l     : Nat
  eta   : Nat
  tau   : Nat
  lam   : Nat
  g1    : Nat
  g2    : Nat
  omega : Nat

/-- The parameter set of an ALG (07 R218). -/
def dsaSet (alg : Nat) : DsaSet :=
  let a := alg % 0x80
  if a = 0x58 then { k := 4, l := 4, eta := 2, tau := 39, lam := 32, g1 := 17, g2 := 88, omega := 80 }
  else if a = 0x59 then { k := 6, l := 5, eta := 4, tau := 49, lam := 48, g1 := 19, g2 := 32, omega := 55 }
  else { k := 8, l := 7, eta := 2, tau := 60, lam := 64, g1 := 19, g2 := 32, omega := 75 }

/-- 2 γ2. -/
def DsaSet.alpha (s : DsaSet) : Nat := 2 * ((dsaQ - 1) / s.g2)
/-- The number of high parts. -/
def DsaSet.high (s : DsaSet) : Nat := s.g2 / 2
/-- β. -/
def DsaSet.beta (s : DsaSet) : Nat := s.tau * s.eta

/-- The distance of a coefficient from 0. -/
def dsaAbs (x : Nat) : Nat := min x (dsaQ - x)
/-- The largest distance of a vector's coefficients. -/
def dsaNorm (v : List Poly) : Nat := (v.flatten.map dsaAbs).foldl max 0

/-- The candidate of three bytes. -/
def dsaTriple (b : List Byte) : Option Nat :=
  let v := leNat b % 2 ^ 23
  if v < dsaQ then some v else none

/-- A uniform transform from a seed. -/
def dsaUniform (seed : List Byte) : Poly := firstCoeffs ((chunks 3 (shake128 seed 1008)).map dsaTriple)

/-- The small coefficient of a half byte. -/
def dsaSmall (eta b : Nat) : Option Nat :=
  if eta = 2 then (if b < 15 then some (subMod 2 (b % 5) dsaQ) else none) else (if b < 9 then some (subMod 4 b dsaQ) else none)

/-- A polynomial of small coefficients from a seed. -/
def dsaBounded (eta : Nat) (seed : List Byte) : Poly :=
  firstCoeffs ((shake256 seed 544).flatMap (fun b => [dsaSmall eta (b.toNat % 16), dsaSmall eta (b.toNat / 16)]))

/-- The matrix of a seed, by rows. -/
def dsaMatrix (s : DsaSet) (rho : List Byte) : List (List Poly) :=
  (List.range s.k).map (fun r => (List.range s.l).map (fun c => dsaUniform (rho ++ [BitVec.ofNat 8 c, BitVec.ofNat 8 r])))

/-- One step of the challenge's shuffle: position i takes what stands at j, which takes a sign. -/
def ballStep (h : Nat) (tau : Nat) (x : Poly × List Byte) (i : Nat) : Poly × List Byte :=
  let rest := x.2.dropWhile (fun b => decide (i < b.toNat))
  let j := (byteAt rest 0).toNat
  let p := x.1.set i (x.1.getD j 0)
  (p.set j (if h.testBit (i + tau - 256) then dsaQ - 1 else 1), rest.drop 1)

/-- The challenge polynomial of a hash. -/
def dsaBall (s : DsaSet) (c : List Byte) : Poly :=
  let b := shake256 c 272
  (((List.range s.tau).map (fun i => 256 - s.tau + i)).foldl (ballStep (leNat (b.take 8)) s.tau) (polyZero, b.drop 8)).1

/-- The high and the low part of a coefficient; the low part is an integer. -/
def dsaDecompose (s : DsaSet) (r : Nat) : Nat × Int :=
  let a := s.alpha
  let m := r % a
  let r0 : Int := if m ≤ a / 2 then (m : Int) else (m : Int) - a
  if (r : Int) - r0 = dsaQ - 1 then (0, r0 - 1) else ((((r : Int) - r0) / a).toNat, r0)

/-- The high part corrected by a hint. -/
def dsaUseHint (s : DsaSet) (h r : Nat) : Nat :=
  let (r1, r0) := dsaDecompose s r
  if h = 0 then r1 else if 0 < r0 then (r1 + 1) % s.high else (r1 + s.high - 1) % s.high

/-- Bits of a packed high part. -/
def DsaSet.w1Bits (s : DsaSet) : Nat := bitLen (s.high - 1)

/-- A secret key: ρ, K, the hash of the public key, and the vectors with their transforms taken. -/
structure DsaKey where
  rho : List Byte
  key : List Byte
  pub : List Byte
  s1  : List Poly
  s2  : List Poly
  t0  : List Poly

/-- The low 13 bits of a coefficient, centred. -/
def dsaLow (x : Nat) : Nat := let m := x % 8192; if m ≤ 4096 then m else dsaQ + m - 8192
/-- The rest of it. -/
def dsaHigh (x : Nat) : Nat := let m := x % 8192; if m ≤ 4096 then x / 8192 else x / 8192 + 1

/-- The key pair of a 32-byte seed (07 R218). -/
def dsaKeys (s : DsaSet) (seed : List Byte) : DsaKey :=
  let h := shake256 (seed ++ [BitVec.ofNat 8 s.k, BitVec.ofNat 8 s.l]) 128
  let rho := h.take 32
  let small (i : Nat) : Poly := dsaBounded s.eta (slice h 32 64 ++ leBytes 2 i)
  let s1 := ((List.range s.l).map small).map nttDsa.fwd
  let s2 := (List.range s.k).map (fun i => small (s.l + i))
  let t := List.zipWith (fun row e => polyAdd dsaQ (nttDsa.inv (nttDsa.dot row s1)) e) (dsaMatrix s rho) s2
  { rho := rho, key := h.drop 96, pub := rho ++ t.flatMap (fun p => packBits 10 (p.map dsaHigh)), s1 := s1,
    s2 := s2.map nttDsa.fwd, t0 := t.map (fun p => nttDsa.fwd (p.map dsaLow)) }

/-- The public key of a seed. -/
def dsaPub (s : DsaSet) (seed : List Byte) : List Byte := (dsaKeys s seed).pub

/-- The mask vector of a seed from counter kappa on. -/
def dsaMask (s : DsaSet) (seed : List Byte) (kappa : Nat) : List Poly :=
  (List.range s.l).map (fun r =>
    (unpackBits (s.g1 + 1) 256 (shake256 (seed ++ leBytes 2 (kappa + r)) (32 * (s.g1 + 1)))).map (fun x => subMod (2 ^ s.g1) x dsaQ))

/-- The hint of a vector: the positions of each polynomial's ones, and the count after each polynomial. -/
def dsaPackHint (s : DsaSet) (h : List Poly) : List Byte :=
  let pos := h.map (fun p => (List.range 256).filter (fun i => p.getD i 0 == 1))
  let all := pos.flatten
  all.map (BitVec.ofNat 8) ++ zeros (s.omega - all.length) ++
    (List.range s.k).map (fun i => BitVec.ofNat 8 ((pos.take (i + 1)).flatten.length))

/-- Is a list strictly rising? -/
def rising (l : List Nat) : Bool :=
  match l with
  | [] => true
  | x :: r => (match r with
    | [] => true
    | y :: _ => decide (x < y)) && rising r

/-- The hint that bytes give, none where they are malformed. -/
def dsaUnpackHint (s : DsaSet) (b : List Byte) : Option (List Poly) :=
  let ends := (List.range s.k).map (fun i => (byteAt b (s.omega + i)).toNat)
  let starts := 0 :: ends.dropLast
  let parts := List.zipWith (fun i j => ((b.take s.omega).take j).drop i |>.map (fun x => x.toNat)) starts ends
  let last := ends.getLastD 0
  if (List.zipWith (fun i j => decide (i ≤ j)) starts ends).all id && decide (last ≤ s.omega) && parts.all rising &&
      allZero ((b.take s.omega).drop last) then
    some (parts.map (fun p => (List.range 256).map (fun i => if p.contains i then 1 else 0)))
  else none

/-- One iteration of signing: the signature, or none where it is rejected. -/
def dsaTry (s : DsaSet) (k : DsaKey) (a : List (List Poly)) (mu seed : List Byte) (kappa : Nat) : Option (List Byte) :=
  let y := dsaMask s seed kappa
  let yh := y.map nttDsa.fwd
  let w := a.map (fun row => nttDsa.inv (nttDsa.dot row yh))
  let c := shake256 (mu ++ w.flatMap (fun p => packBits s.w1Bits (p.map (fun x => (dsaDecompose s x).1)))) s.lam
  let ch := nttDsa.fwd (dsaBall s c)
  let times (v : List Poly) : List Poly := v.map (fun p => nttDsa.inv (nttDsa.mul ch p))
  let z := List.zipWith (polyAdd dsaQ) y (times k.s1)
  let r := List.zipWith (polySub dsaQ) w (times k.s2)
  let low := (r.flatten.map (fun x => (dsaDecompose s x).2.natAbs)).foldl max 0
  if 2 ^ s.g1 - s.beta ≤ dsaNorm z ∨ s.alpha / 2 - s.beta ≤ low then none
  else
    let ct := times k.t0
    let hint := List.zipWith (fun p q => List.zipWith (fun x y => b2n ((dsaDecompose s x).1 != (dsaDecompose s ((x + y) % dsaQ)).1)) p q) r ct
    if s.alpha / 2 ≤ dsaNorm ct ∨ s.omega < hint.flatten.sum then none
    else some (c ++ z.flatMap (fun p => packBits (s.g1 + 1) (p.map (fun x => subMod (2 ^ s.g1) x dsaQ))) ++ dsaPackHint s hint)

/-- The first iteration that is not rejected, up to fuel of them. -/
def dsaLoop (s : DsaSet) (k : DsaKey) (a : List (List Poly)) (mu seed : List Byte) (kappa fuel : Nat) : Option (List Byte) :=
  match fuel with
  | 0 => none
  | fuel + 1 =>
    match dsaTry s k a mu seed kappa with
    | some x => some x
    | none => dsaLoop s k a mu seed (kappa + s.l) fuel

/-- The message that is signed: domain byte, context, then the message, or the OID and the digest of HashML-DSA (06 R202); FIPS 205
forms it alike. -/
def dsaMessage (pre : Option HashAlg) (ctx m : List Byte) : List Byte :=
  match pre with
  | none => [0, BitVec.ofNat 8 ctx.length] ++ ctx ++ m
  | some h => [1, BitVec.ofNat 8 ctx.length] ++ ctx ++ h.oidDer ++ m

/-- Sign with the key of a seed; rnd is 32 zero bytes for the deterministic variant. None at the iteration limit (06 R198). -/
def dsaSign (s : DsaSet) (seed m rnd : List Byte) : Option (List Byte) :=
  let k := dsaKeys s seed
  let mu := shake256 (shake256 k.pub 64 ++ m) 64
  dsaLoop s k (dsaMatrix s k.rho) mu (shake256 (k.key ++ rnd ++ mu) 64) 0 1000

/-- Does a signature hold? -/
def dsaVerify (s : DsaSet) (pub m sig : List Byte) : Bool :=
  let zn := 32 * (s.g1 + 1)
  let c := sig.take s.lam
  let z := (chunks zn (slice sig s.lam (zn * s.l))).map (fun b => (unpackBits (s.g1 + 1) 256 b).map (fun x => subMod (2 ^ s.g1) x dsaQ))
  let t1 := (chunks 320 (pub.drop 32)).map (fun b => nttDsa.fwd (polyScale dsaQ 8192 (unpackBits 10 256 b)))
  match dsaUnpackHint s (sig.drop (s.lam + zn * s.l)) with
  | none => false
  | some h =>
    let mu := shake256 (shake256 pub 64 ++ m) 64
    let ch := nttDsa.fwd (dsaBall s c)
    let zh := z.map nttDsa.fwd
    let w := List.zipWith (fun row t => nttDsa.inv (polySub dsaQ (nttDsa.dot row zh) (nttDsa.mul ch t))) (dsaMatrix s (pub.take 32)) t1
    let w1 := List.zipWith (fun p q => List.zipWith (dsaUseHint s) p q) h w
    decide (sig.length = s.lam + zn * s.l + s.omega + s.k) && decide (dsaNorm z < 2 ^ s.g1 - s.beta) &&
      shake256 (mu ++ w1.flatMap (packBits s.w1Bits)) s.lam == c

end Sys2Proof.Machine
end

