-- ==== Sys2Proof/Machine/MlKem.lean ====
section
/-!
DEFINITION. ML-KEM (06 R199, R203), after FIPS 203 (log 16). A sampler's stream has the length that standard allows as a bound.
-/

namespace Sys2Proof.Machine

open Sys2Proof

/-- A parameter set of ML-KEM. -/
structure KemSet where
  k    : Nat
  eta1 : Nat
  du   : Nat
  dv   : Nat

/-- The parameter set of an ALG (07 R218). -/
def kemSet (alg : Nat) : KemSet :=
  let a := alg % 0x80
  if a = 0x50 then { k := 2, eta1 := 3, du := 10, dv := 4 } else if a = 0x51 then { k := 3, eta1 := 2, du := 10, dv := 4 }
  else { k := 4, eta1 := 2, du := 11, dv := 5 }

/-- The two 12-bit candidates of three bytes. -/
def kemTriple (b : List Byte) : List (Option Nat) :=
  let x := (byteAt b 0).toNat + 256 * ((byteAt b 1).toNat % 16)
  let y := (byteAt b 1).toNat / 16 + 16 * (byteAt b 2).toNat
  [x, y].map (fun v => if v < 3329 then some v else none)

/-- A uniform transform from a seed. -/
def kemUniform (seed : List Byte) : Poly := firstCoeffs ((chunks 3 (shake128 seed 840)).flatMap kemTriple)

/-- A polynomial of the centred binomial distribution. -/
def kemBinomial (eta : Nat) (b : List Byte) : Poly :=
  let v := leNat b
  let ones (i : Nat) : Nat := ((List.range eta).map (fun j => b2n (v.testBit (i + j)))).sum
  (List.range 256).map (fun i => subMod (ones (2 * i * eta)) (ones (2 * i * eta + eta)) 3329)

/-- The polynomial that a seed and a counter give. -/
def kemNoise (eta : Nat) (seed : List Byte) (n : Nat) : Poly := kemBinomial eta (shake256 (seed ++ [BitVec.ofNat 8 n]) (64 * eta))

/-- Round a coefficient to d bits. -/
def kemCompress (d x : Nat) : Nat := (2 ^ (d + 1) * x + 3329) / (2 * 3329) % 2 ^ d
/-- The coefficient that d bits stand for. -/
def kemDecompress (d y : Nat) : Nat := (3329 * y + 2 ^ (d - 1)) / 2 ^ d

/-- The matrix of a seed, by rows; its transpose for encryption. -/
def kemMatrix (k : Nat) (rho : List Byte) (transpose : Bool) : List (List Poly) :=
  (List.range k).map (fun i => (List.range k).map (fun j =>
    kemUniform (rho ++ (if transpose then [BitVec.ofNat 8 i, BitVec.ofNat 8 j] else [BitVec.ofNat 8 j, BitVec.ofNat 8 i]))))

/-- A key pair of a 64-byte seed d joined with z: the encapsulation key and the secret vector (07 R218). -/
def kemKeys (s : KemSet) (seed : List Byte) : List Byte × List Poly :=
  let g := sha3_512 (seed.take 32 ++ [BitVec.ofNat 8 s.k])
  let rho := g.take 32
  let sec := (List.range s.k).map (fun i => nttKem.fwd (kemNoise s.eta1 (g.drop 32) i))
  let err := (List.range s.k).map (fun i => nttKem.fwd (kemNoise s.eta1 (g.drop 32) (s.k + i)))
  let t := List.zipWith (fun row e => polyAdd 3329 (nttKem.dot row sec) e) (kemMatrix s.k rho false) err
  (t.flatMap (packBits 12) ++ rho, sec)

/-- The encapsulation key of a seed. -/
def kemPub (s : KemSet) (seed : List Byte) : List Byte := (kemKeys s seed).1

/-- The modulus check of an encapsulation key, and its length (06 R204). -/
def kemPubOk (s : KemSet) (ek : List Byte) : Bool :=
  ek.length == 384 * s.k + 32 && (unpackBits 12 (256 * s.k) (ek.take (384 * s.k))).all (fun x => decide (x < 3329))

/-- Encrypt a 32-byte message under an encapsulation key with the randomness r. -/
def kemEncrypt (s : KemSet) (ek m r : List Byte) : List Byte :=
  let t := (chunks 384 (ek.take (384 * s.k))).map (unpackBits 12 256)
  let y := (List.range s.k).map (fun i => nttKem.fwd (kemNoise s.eta1 r i))
  let u := ((List.range s.k).zip (kemMatrix s.k (ek.drop (384 * s.k)) true)).map (fun x =>
    polyAdd 3329 (nttKem.inv (nttKem.dot x.2 y)) (kemNoise 2 r (s.k + x.1)))
  let mu := (unpackBits 1 256 m).map (kemDecompress 1)
  let v := polyAdd 3329 (polyAdd 3329 (nttKem.inv (nttKem.dot t y)) (kemNoise 2 r (2 * s.k))) mu
  u.flatMap (fun p => packBits s.du (p.map (kemCompress s.du))) ++ packBits s.dv (v.map (kemCompress s.dv))

/-- Decrypt a ciphertext with a secret vector. -/
def kemDecrypt (s : KemSet) (sec : List Poly) (c : List Byte) : List Byte :=
  let n := 32 * s.du
  let u := (chunks n (c.take (n * s.k))).map (fun b => (unpackBits s.du 256 b).map (kemDecompress s.du))
  let v := (unpackBits s.dv 256 (c.drop (n * s.k))).map (kemDecompress s.dv)
  let w := polySub 3329 v (nttKem.inv (nttKem.dot sec (u.map nttKem.fwd)))
  packBits 1 (w.map (kemCompress 1))

/-- Encapsulate with the randomness m: the shared secret and the ciphertext. -/
def kemEncaps (s : KemSet) (ek m : List Byte) : List Byte × List Byte :=
  let g := sha3_512 (m ++ sha3_256 ek)
  (g.take 32, kemEncrypt s ek m (g.drop 32))

/-- Decapsulate: an invalid ciphertext yields the implicit-rejection secret (06 R199). -/
def kemDecaps (s : KemSet) (seed c : List Byte) : List Byte :=
  let (ek, sec) := kemKeys s seed
  let m := kemDecrypt s sec c
  let g := sha3_512 (m ++ sha3_256 ek)
  if kemEncrypt s ek m (g.drop 32) = c then g.take 32 else shake256 (slice seed 32 32 ++ c) 32

end Sys2Proof.Machine
end

