-- ==== Sys2Proof/Machine/Rsa.lean ====
section
/-!
DEFINITION. RSA with the encodings of 06 R202 (PKCS#1 v1.5, PSS, OAEP), after RFC 8017 (log 16). The result of a private operation
is the same with and without the blinding of 06 R199.
-/

namespace Sys2Proof.Machine

open Sys2Proof

/-- An RSA key: modulus and public exponent, and the private exponent where the primes are known. -/
structure RsaKey where
  n : Nat
  e : Nat
  d : Nat

/-- Bytes of the modulus. -/
def RsaKey.size (k : RsaKey) : Nat := cdiv (bitLen k.n) 8

/-- The public exponent of a key that the Q4 generates (06 R197). -/
abbrev rsaExp : Nat := 65537

/-- The key whose primes are given: the modulus is recomputed from them (07 R218). -/
def rsaOfPrimes (p q : Nat) : RsaKey :=
  { n := p * q, e := rsaExp, d := invMod rsaExp (Nat.lcm (p - 1) (q - 1)) }

/-- The DigestInfo of a digest, padded to n bytes by PKCS#1 v1.5. -/
def rsaPkcs1 (h : HashAlg) (digest : List Byte) (n : Nat) : List Byte :=
  let info := [0x30, BitVec.ofNat 8 (17 + h.size), 0x30, 0x0D] ++ h.oidDer ++ [0x05, 0x00, 0x04, BitVec.ofNat 8 h.size] ++ digest
  [0x00, 0x01] ++ List.replicate (n - info.length - 3) 0xFF ++ [0x00] ++ info

/-- The PSS encoding of a digest with a salt, for a modulus of n bits. -/
def rsaPss (h : HashAlg) (digest salt : List Byte) (n : Nat) : List Byte :=
  let m := cdiv (n - 1) 8
  let x := h.fn (zeros 8 ++ digest ++ salt)
  let db := zeros (m - salt.length - h.size - 2) ++ [0x01] ++ salt
  let v := xorB db (mgf1 h x (m - h.size - 1))
  let top := 8 * m - (n - 1)
  [BitVec.ofNat 8 ((byteAt v 0).toNat % 2 ^ (8 - top))] ++ v.drop 1 ++ x ++ [0xBC]

/-- Does an encoding carry a digest under PSS with a salt as long as the digest? -/
def rsaPssOk (h : HashAlg) (digest em : List Byte) (n : Nat) : Bool :=
  let m := cdiv (n - 1) 8
  let x := slice em (m - h.size - 1) h.size
  let v := xorB (em.take (m - h.size - 1)) (mgf1 h x (m - h.size - 1))
  em == rsaPss h digest (v.drop (v.length - h.size)) n

/-- The private operation on a number, as long as the modulus. -/
def RsaKey.priv (k : RsaKey) (m : List Byte) : List Byte := beBytes k.size (powMod (beNat m) k.d k.n)

/-- The public operation on a number, as n bytes. -/
def RsaKey.pub (k : RsaKey) (m : List Byte) (n : Nat) : List Byte := beBytes n (powMod (beNat m) k.e k.n)

/-- An RSA signature of a digest: PKCS#1 v1.5, or PSS with a salt. -/
def rsaSign (k : RsaKey) (pss : Bool) (h : HashAlg) (digest salt : List Byte) : List Byte :=
  k.priv (if pss then rsaPss h digest salt (bitLen k.n) else rsaPkcs1 h digest k.size)

/-- Does an RSA signature hold? -/
def rsaVerify (k : RsaKey) (pss : Bool) (h : HashAlg) (digest sig : List Byte) : Bool :=
  decide (beNat sig < k.n) &&
    (if pss then rsaPssOk h digest (k.pub sig (cdiv (bitLen k.n - 1) 8)) (bitLen k.n)
     else k.pub sig k.size == rsaPkcs1 h digest k.size)

/-- OAEP encryption with an empty label and a seed. -/
def oaepEncrypt (k : RsaKey) (h : HashAlg) (m seed : List Byte) : List Byte :=
  let n := k.size
  let db := h.fn [] ++ zeros (n - m.length - 2 * h.size - 2) ++ [0x01] ++ m
  let x := xorB db (mgf1 h seed (n - h.size - 1))
  k.pub ([0x00] ++ xorB seed (mgf1 h x h.size) ++ x) n

/-- OAEP decryption: none where the decoding fails. -/
def oaepDecrypt (k : RsaKey) (h : HashAlg) (c : List Byte) : Option (List Byte) :=
  let n := k.size
  let em := k.priv c
  let x := em.drop (h.size + 1)
  let seed := xorB (slice em 1 h.size) (mgf1 h x h.size)
  let db := xorB x (mgf1 h seed (n - h.size - 1))
  let rest := (db.drop h.size).dropWhile (fun b => b == 0)
  if beNat c < k.n ∧ byteAt em 0 = 0 ∧ db.take h.size = h.fn [] ∧ byteAt rest 0 = 1 then some (rest.drop 1) else none

end Sys2Proof.Machine
end

