-- ==== Sys2Proof/Machine/SlhDsa.lean ====
section
/-!
DEFINITION. SLH-DSA verification (06 R197, R202), after FIPS 205 (log 16): the four 128-bit parameter sets.
-/

namespace Sys2Proof.Machine

open Sys2Proof

/-- A parameter set of SLH-DSA: h the height over d layers, a and k those of FORS, shake the hash family. -/
structure SlhSet where
  h     : Nat
  d     : Nat
  a     : Nat
  k     : Nat
  shake : Bool

/-- The parameter set of an ALG (07 R218). -/
def slhSet (alg : Nat) : SlhSet :=
  let i := alg % 4
  let shake := i == 1 || i == 3
  if i < 2 then { h := 63, d := 7, a := 12, k := 14, shake := shake } else { h := 66, d := 22, a := 6, k := 33, shake := shake }

/-- Height of one layer. -/
def SlhSet.hp (s : SlhSet) : Nat := s.h / s.d
/-- Bytes of the message digest's three parts. -/
def SlhSet.parts (s : SlhSet) : Nat × Nat × Nat := (cdiv (s.k * s.a) 8, cdiv (s.h - s.hp) 8, cdiv s.hp 8)

/-- An address of a hash call. -/
structure SlhAdrs where
  layer : Nat
  tree  : Nat
  type  : Nat
  pair  : Nat
  w2    : Nat
  w3    : Nat

/-- The bytes of an address: 22 for the SHA-2 family. -/
def SlhAdrs.bytes (x : SlhAdrs) (shake : Bool) : List Byte :=
  let tail := beBytes 4 x.pair ++ beBytes 4 x.w2 ++ beBytes 4 x.w3
  if shake then beBytes 4 x.layer ++ beBytes 12 x.tree ++ beBytes 4 x.type ++ tail
  else beBytes 1 x.layer ++ beBytes 8 x.tree ++ beBytes 1 x.type ++ tail

/-- The tweaked hash of a string. -/
def slhHash (s : SlhSet) (seed : List Byte) (x : SlhAdrs) (m : List Byte) : List Byte :=
  if s.shake then shake256 (seed ++ x.bytes true ++ m) 16
  else (sha256 (seed ++ zeros 48 ++ x.bytes false ++ m)).take 16

/-- The digest of a message. -/
def slhMsg (s : SlhSet) (r seed root m : List Byte) : List Byte :=
  let n := s.parts.1 + s.parts.2.1 + s.parts.2.2
  if s.shake then shake256 (r ++ seed ++ root ++ m) n
  else mgf1 (hashAlg 0) (r ++ seed ++ sha256 (r ++ seed ++ root ++ m)) n

/-- n digits of b bits each from bytes, most significant first. -/
def slhDigits (b n : Nat) (m : List Byte) : List Nat :=
  let v := beNat m
  (List.range n).map (fun i => (v >>> (8 * m.length - b * (i + 1))) % 2 ^ b)

/-- Climb a tree from a leaf by its authentication path; i is the leaf's index in its numbering. -/
def slhClimb (s : SlhSet) (seed : List Byte) (x : SlhAdrs) (i : Nat) (leaf : List Byte) (auth : List (List Byte)) : List Byte :=
  ((List.range auth.length).zip auth).foldl (fun node y =>
    let adrs : SlhAdrs := { x with w2 := y.1 + 1, w3 := i >>> (y.1 + 1) }
    slhHash s seed adrs (if (i >>> y.1) % 2 = 0 then node ++ y.2 else y.2 ++ node)) leaf

/-- The FORS public key that a signature gives. -/
def slhFors (s : SlhSet) (seed : List Byte) (x : SlhAdrs) (md sig : List Byte) : List Byte :=
  let parts := chunks (16 * (s.a + 1)) sig
  let roots := ((List.range s.k).zip ((slhDigits s.a s.k md).zip parts)).flatMap (fun (i, v, p) =>
    let n := i * 2 ^ s.a + v
    slhClimb s seed x n (slhHash s seed { x with w2 := 0, w3 := n } (p.take 16)) (chunks 16 (p.drop 16)))
  slhHash s seed { x with type := 4, w2 := 0, w3 := 0 } roots

/-- A WOTS chain from position i for n steps. -/
def slhChain (s : SlhSet) (seed : List Byte) (x : SlhAdrs) (v : List Byte) (i n : Nat) : List Byte :=
  (List.range n).foldl (fun v j => slhHash s seed { x with w3 := i + j } v) v

/-- The 35 digits of a 16-byte message with its checksum. -/
def slhWotsDigits (m : List Byte) : List Nat :=
  let d := slhDigits 4 32 m
  d ++ slhDigits 4 3 (beBytes 2 (16 * (d.map (fun x => 15 - x)).sum))

/-- The root of a layer's tree that a signature of a message by leaf i gives. -/
def slhXmss (s : SlhSet) (seed : List Byte) (layer tree i : Nat) (m sig : List Byte) : List Byte :=
  let x : SlhAdrs := { layer := layer, tree := tree, type := 0, pair := i, w2 := 0, w3 := 0 }
  let tips := ((List.range 35).zip ((slhWotsDigits m).zip (chunks 16 (sig.take 560)))).flatMap (fun (j, d, v) =>
    slhChain s seed { x with w2 := j } v d (15 - d))
  let leaf := slhHash s seed { x with type := 1 } tips
  slhClimb s seed { x with type := 2, pair := 0 } i leaf (chunks 16 (sig.drop 560))

/-- Does a signature of a message hold under a public key? -/
def slhVerify (s : SlhSet) (pub m sig : List Byte) : Bool :=
  let seed := pub.take 16
  let root := pub.drop 16
  let (n1, n2, n3) := s.parts
  let dg := slhMsg s (sig.take 16) seed root m
  let tree := beNat (slice dg n1 n2) % 2 ^ (s.h - s.hp)
  let leaf := beNat (slice dg (n1 + n2) n3) % 2 ^ s.hp
  let fn := 16 * s.k * (s.a + 1)
  let fors : SlhAdrs := { layer := 0, tree := tree, type := 3, pair := leaf, w2 := 0, w3 := 0 }
  let start := slhFors s seed fors (dg.take n1) (slice sig 16 fn)
  let ln := 16 * (s.hp + 35)
  let ends := ((List.range s.d).zip (chunks ln (sig.drop (16 + fn)))).foldl (fun (y : List Byte × Nat × Nat) z =>
    (slhXmss s seed z.1 y.2.1 y.2.2 y.1 z.2, y.2.1 >>> s.hp, y.2.1 % 2 ^ s.hp)) (start, tree, leaf)
  decide (sig.length = 16 + fn + s.d * ln) && decide (pub.length = 32) && ends.1 == root

end Sys2Proof.Machine
end

