-- ==== Sys2Proof/Machine/PubKey.lean ====
section
/-!
DEFINITION. Keys of the public-key algorithms as records hold them: their public keys and encodings, their validity, and what they
sign and verify (06 R202 to R204; 07 R218).
-/

namespace Sys2Proof.Machine

open Sys2Proof

/-- Is an ALG an RSA one (07 R218)? -/
def isRsa (alg : Nat) : Bool := decide (0x30 ≤ alg % 0x80 ∧ alg % 0x80 ≤ 0x32)
/-- Is an ALG an ML-KEM one? -/
def isKem (alg : Nat) : Bool := decide (0x50 ≤ alg % 0x80 ∧ alg % 0x80 ≤ 0x52)
/-- Is an ALG an ML-DSA one? -/
def isDsa (alg : Nat) : Bool := decide (0x58 ≤ alg % 0x80 ∧ alg % 0x80 ≤ 0x5A)
/-- The curve of an EC ALG. -/
def curveOf (alg : Nat) : Curve := if alg % 0x80 = 0x40 then p256 else p384

/-- Bytes of an RSA modulus. -/
def rsaSize (alg : Nat) : Nat := let a := alg % 0x80; if a = 0x30 then 256 else if a = 0x31 then 384 else 512

/-- The material of a public RSA key: the modulus, then the exponent in 4 bytes, in more where it needs them (07 R218; 06 R204 takes
exponents to 2^256 − 1, log 12). -/
def rsaMat (alg n e : Nat) : List Byte := beBytes (rsaSize alg) n ++ beBytes (max 4 (cdiv (bitLen e) 8)) e

/-- The RSA key of a record's material. -/
def rsaKeyOf (alg : Nat) (mat : List Byte) : RsaKey :=
  if 0x80 ≤ alg then { n := beNat (mat.take (rsaSize alg)), e := beNat (mat.drop (rsaSize alg)), d := 0 }
  else rsaOfPrimes (beNat (mat.take (mat.length / 2))) (beNat (mat.drop (mat.length / 2)))

/-- The public material of a key: recomputed from a private one (07 R218). -/
def publicMat (alg : Nat) (mat : List Byte) : List Byte :=
  if 0x80 ≤ alg then mat
  else if isRsa alg then let k := rsaKeyOf alg mat; rsaMat alg k.n k.e
  else if alg = 0x40 ∨ alg = 0x41 then (curveOf alg).pubOf (beNat mat)
  else if alg = 0x42 then edPub mat
  else if isKem alg then kemPub (kemSet alg) mat
  else if isDsa alg then dsaPub (dsaSet alg) mat
  else mat

/-- The encoding of a public key's material (06 R203). -/
def pubEncode (alg : Nat) (mat : List Byte) : List Byte :=
  let a := alg % 0x80
  let oid (o : List Byte) : List Byte := der 0x06 o
  if isRsa alg then
    let k := rsaKeyOf (a + 0x80) mat
    spki (oid oidRsa ++ [0x05, 0x00]) (der 0x30 (derInt k.n ++ derInt k.e))
  else if a = 0x40 then spki (oid oidEc ++ oid oidP256) mat
  else if a = 0x41 then spki (oid oidEc ++ oid oidP384) mat
  else if a = 0x42 then spki (oid oidEd) mat
  else mat

/-- The public key of a record, in its encoding (06 R203). -/
def publicOf (r : KeyRec) : List Byte := pubEncode r.alg (publicMat r.alg r.key)

/-- Bytes of a public key's encoding, 0 where it is DER (06 R203). -/
def pubLen (alg : Nat) : Nat :=
  let a := alg % 0x80
  if a = 0x50 then 800 else if a = 0x51 then 1184 else if a = 0x52 then 1568
  else if a = 0x58 then 1312 else if a = 0x59 then 1952 else if a = 0x5A then 2592
  else if 0xE0 ≤ alg then 32 else 0

/-- Is an RSA public key one of its parameter set: an odd modulus of the set's length and an odd exponent of 3 to 2^256 − 1 (06
R204)? -/
def rsaOk (alg n e : Nat) : Bool :=
  n % 2 == 1 && bitLen n == 8 * rsaSize alg && e % 2 == 1 && decide (3 ≤ e ∧ e < 2 ^ 256)

/-- Public material is valid (06 R204). -/
def pubOk (alg : Nat) (mat : List Byte) : Bool :=
  let a := alg % 0x80
  if isRsa alg then let k := rsaKeyOf (a + 0x80) mat; rsaOk alg k.n k.e
  else if a = 0x40 ∨ a = 0x41 then ((curveOf alg).decode mat).isSome
  else if a = 0x42 then (edDecode mat).isSome
  else if isKem alg then kemPubOk (kemSet alg) mat
  else mat.length == pubLen alg

/-- The material that a public key's encoding gives for an ALG, none where the input is refused (06 R203, R204). -/
def pubDecode (alg : Nat) (b : List Byte) : Option (List Byte) :=
  let a := alg % 0x80
  let m := if isRsa alg then (spkiRsa b).bind (fun x => if rsaOk alg x.1 x.2 then some (rsaMat alg x.1 x.2) else none)
    else if a = 0x40 then spkiEc oidP256 b
    else if a = 0x41 then spkiEc oidP384 b
    else if a = 0x42 then spkiPlain oidEd b
    else some b
  m.filter (pubOk alg)

/-- How a signature is made: the hash, whether its input is a digest, PSS, and the context (06 R202). -/
structure SigForm where
  hash : HashAlg
  pre  : Bool
  pss  : Bool
  ctx  : List Byte

/-- The digest that is signed. -/
def SigForm.digest (f : SigForm) (m : List Byte) : List Byte := if f.pre then m else f.hash.fn m

/-- The message of ML-DSA and SLH-DSA. -/
def SigForm.message (f : SigForm) (m : List Byte) : List Byte := dsaMessage (if f.pre then some f.hash else none) f.ctx m

/-- Sign with a private key's material; rnd is the fresh randomness, empty where there is none. None at the iteration limit (06
R198). -/
def signWith (alg : Nat) (mat : List Byte) (f : SigForm) (m rnd : List Byte) : Option (List Byte) :=
  if isRsa alg then some (rsaSign (rsaKeyOf alg mat) f.pss f.hash (f.digest m) rnd)
  else if alg = 0x40 ∨ alg = 0x41 then some (ecdsaSign (curveOf alg) f.hash (beNat mat) (f.digest m) rnd)
  else if alg = 0x42 then some (edSign mat m)
  else dsaSign (dsaSet alg) mat (f.message m) (if rnd = [] then zeros 32 else rnd)

/-- Does a signature hold under a public key's material? -/
def verifyWith (alg : Nat) (mat : List Byte) (f : SigForm) (m sig : List Byte) : Bool :=
  let a := alg % 0x80
  if isRsa alg then rsaVerify (rsaKeyOf (a + 0x80) mat) f.pss f.hash (f.digest m) sig
  else if a = 0x40 ∨ a = 0x41 then ecdsaVerify (curveOf alg) mat (f.digest m) sig
  else if a = 0x42 then edVerify mat m sig
  else if isDsa alg then dsaVerify (dsaSet alg) mat (f.message m) sig
  else slhVerify (slhSet alg) mat (f.message m) sig

/-- The form of a signature over a message with a hash, and nothing else chosen. -/
def plainForm (h : Nat) : SigForm := { hash := hashAlg h, pre := false, pss := false, ctx := [] }

/-- r joined with s from the DER form of an ECDSA signature. -/
def ecSigOf (n : Nat) (b : List Byte) : List Byte :=
  match derSeq b with
  | some [x, y] => (match derNat x, derNat y with
    | some r, some s => beBytes n r ++ beBytes n s
    | _, _ => [])
  | _ => []

/-- The hash of a certificate's signature algorithm, for RSA by PKCS#1 v1.5 and for ECDSA; none for another algorithm. -/
def certHash (oid : List Byte) : Option Nat :=
  let rsa (x : Byte) : List Byte := oidRsa.dropLast ++ [x]
  let ec (x : Byte) : List Byte := [0x2A, 0x86, 0x48, 0xCE, 0x3D, 0x04, 0x03, x]
  if oid = rsa 0x0B ∨ oid = ec 0x02 then some 0 else if oid = rsa 0x0C ∨ oid = ec 0x03 then some 1
  else if oid = rsa 0x0D ∨ oid = ec 0x04 then some 2 else none

/-- Does a certificate's signature hold under an authority's key? RSA by PKCS#1 v1.5, ECDSA, Ed25519 and ML-DSA are computed; any
other signature algorithm is opaque (log 12). -/
def certOk (ca : KeyRec) (c : Cert) : Bool :=
  let mat := publicMat ca.alg ca.key
  let a := ca.alg % 0x80
  match certHash c.oid with
  | some h =>
    if isRsa ca.alg then verifyWith ca.alg mat (plainForm h) c.tbs c.sig
    else if a = 0x40 ∨ a = 0x41 then verifyWith ca.alg mat (plainForm h) c.tbs (ecSigOf (curveOf ca.alg).size c.sig)
    else false
  | none =>
    if (a = 0x42 ∧ c.oid = oidEd) ∨
        (isDsa ca.alg ∧ c.oid = [0x60, 0x86, 0x48, 0x01, 0x65, 0x03, 0x04, 0x03, BitVec.ofNat 8 (0x11 + (a - 0x58))]) then
      verifyWith ca.alg mat (plainForm 0) c.tbs c.sig
    else Config.pkCheck "X.509 signature algorithm" [[BitVec.ofNat 8 ca.alg], mat, c.oid, c.tbs, c.sig]

end Sys2Proof.Machine
end

