-- ==== Sys2Proof/Machine/KbCmds.lean ====
section
/-!
DEFINITION. Key-block import, export and generation, and remote key loading (05 R165 to R172). The CMS encoding of a TR-34 token is opaque (log 12).
-/

namespace Sys2Proof.Machine

open Sys2Proof

/-- RESULT of a command that creates a key: HANDLE and KCV (05 R167). -/
def handleKcv (kcv : List Byte) (h : List Byte) : List Byte := h ++ fit 5 kcv

/-- The work of KB_IMPORT (05 R167). -/
def kbImportBody : Work := pureWork (fun t c =>
    let r := keyAt t c 0
    orFormat (unusedKeys c.d ++ [(anyBits c.prm 63 1, 0x38), (dOutList c.d != 0, 0x50)]) Res.fail
      (if 1024 < c.data.length then .fail 0x0009 0
      else match kbUnwrap (bit c.prm 0) r.alg r.key c.data with
        | .error (e, x) => .fail e x
        | .ok (h, a, k) =>
          match kbChecks h a k r.alg r.key with
          | some e => .fail e 0
          | none => createKey t c 0 (kbNewKey h a k (some r)) [] (handleKcv (kcvOf a k))))

/-- KB_IMPORT (05 R167). -/
def execKbImport (qp asn : Nat) (s : State) : Host.Outcome State Fault Refusal :=
  dataCommand qp asn 0x0701 kbImportBody s

/-- What an export asks for: the options of 05 R169. -/
structure KbOut where
  std   : Bool
  ver   : Byte
  addKc : Bool

/-- The options in CMD_PARAM (05 R169). -/
def KbOut.of (p : Nat) : KbOut := { std := bit p 0, ver := if bit p 1 then chr 'B' else chr 'D', addKc := bit p 2 }

/-- The optional blocks of an exported block. -/
def KbOut.opts (o : KbOut) (r : KeyRec) : Nat × List Byte := if o.addKc then kbKcBlocks o.ver r.alg r.key else (0, [])

/-- The length of an exported X9.143 block. -/
def KbOut.length (o : KbOut) (r : KeyRec) : Nat := kbLength o.ver (o.opts r).2.length r.keyLen

/-- The first failing check of an export of r under prot: the export rule and the usage set, the strength, the algorithms
(05 R165, R168, R169). f is the key field of the exported key. -/
def exportBad (o : KbOut) (prot r : KeyRec) (f : Nat) : Option (Nat × Nat) :=
  if r.exportRule = 0 ∨ kbPairs r.usage = [] then some (0x0018, 0)
  else if strengthOf prot.alg prot.keyLen < strengthOf r.alg r.keyLen then some (0x001C, 0)
  else if !kbProtOk o.ver prot.alg then some (0x0014, 0)
  else if (kbLetter r.alg).isNone ∨ (o.ver = chr 'B' ∧ !isTdes r.alg) then some (0x0014, f)
  else none

/-- The block of a record with header bytes 5 to 11 given and padding pad, with its KC block where ADD_KC asks for one. ISO 20038 is
opaque (log 12). -/
def exportBlock (o : KbOut) (prot r : KeyRec) (fields pad : List Byte) : List Byte :=
  if o.std then Config.pkBytes "ISO 20038 block" [[o.ver], prot.key, fields, r.key, pad, if o.addKc then r.kcv else []]
  else kbBuild o.ver prot.key fields r.key pad (o.opts r).1 (o.opts r).2

/-- Export r under prot with random padding, giving the block to k (05 R169). -/
def exportKey (s : State) (c : Ctx) (o : KbOut) (prot r : KeyRec) (fields : List Byte)
    (k : List Byte → State → Res × State) : Res × State :=
  withRandom s c (kbPadLen o.ver r.keyLen) (fun pad t => k (exportBlock o prot r fields pad) t)

/-- Bytes 5 to 11 of the header built from a record's attributes (05 R169). -/
def fieldsOf (r : KeyRec) : List Byte :=
  let ps := kbPairs r.usage
  kbFieldsOf r ((kbLetter r.alg).getD 'A') (ps.getD (Config.usageRow r.usage % ps.length) [])

/-- The work of KB_EXPORT (05 R169). DESIGN CHOICE: the room test takes an ISO 20038 block to be as long as the X9.143 one (log 92). -/
def kbExportBody : Work := fun t c =>
    let o := KbOut.of c.prm
    let prot := keyAt t c 0
    let r := keyAt t c 1
    orFormat (unusedKeys c.d ++ [(anyBits c.prm 63 3, 0x38)]) (fun a b => (Res.fail a b, t))
      (if c.room < o.length r then (.fail 0x000A 0, t)
      else match exportBad o prot r 1 with
        | some (e, x) => (.fail e x, t)
        | none => exportKey t c o prot r (fieldsOf r) (fun b u =>
            ((listOut c b r.kcv).journalled .none, u)))

/-- KB_EXPORT (05 R169). -/
def execKbExport (qp asn : Nat) (s : State) : Host.Outcome State Fault Refusal :=
  dataCommand qp asn 0x0702 kbExportBody s

/-- The input list of a command that takes no input but one 16-byte entry of zeros (05 R158, R169). -/
def zeroEntryBad (c : Ctx) : List (Bool × Nat) := [(!allZero c.data, 0x40), (dInCount c.d != 1, 0x48)]

/-- The bytes that a header template's algorithm gives a key: a size the spec does not state (log 20). -/
def templateSize (a : Nat) : Nat :=
  if a = 0 then 16 + 8 * (Config.generatedSize 0 % 3) else if a = 1 then 16 + 8 * (Config.generatedSize 1 % 2)
  else 16 + Config.generatedSize 2 % 113

/-- A record of a key not yet created, for its export. -/
def unborn (n : NewKey) : KeyRec :=
  { KeyRec.reset with alg := n.alg, usage := n.usage, exportRule := n.export_, keyLen := n.mat.length, kvn := n.kvn,
                      mat := n.mat, kcv := n.kcv }

/-- Bytes 5 to 11 of a header template as an exported block carries them: exportability E only under an export rule of E, N else (07
R221). -/
def exportFields (tpl : List Byte) (r : KeyRec) : List Byte :=
  slice tpl 5 6 ++ [if r.exportRule = 2 then chr 'E' else chr 'N']

/-- The length of the block that a key of a template's algorithm gives. -/
def templateBlock (o : KbOut) (tpl : List Byte) : Nat :=
  match kbAlg (byteAt tpl 7) with
  | none => 0
  | some a =>
    let n := templateSize a
    o.length { KeyRec.reset with alg := (kbKeyAlg a n).getD 0, keyLen := n }

/-- The work of KB_GENERATE (05 R135, R169). DESIGN CHOICE: without KEY0, CMD_PARAM must be 0 (log 92). -/
def kbGenerateBody : Work := fun t c =>
    let d := c.d
    let o := KbOut.of c.prm
    let prot := keyAt t c 0
    let exp := dKey d 0 != 0
    let tpl := slice d 0x60 16
    orFormat (unusedKeys d ++ [(anyBits c.prm 63 3 || (!exp && c.prm != 0), 0x38)] ++ zeroEntryBad c ++
        [(!zeroAt d 0x70 0x80, 0x70)]) (fun a b => (Res.fail a b, t))
      (if c.data.length ≠ 16 then (.fail 0x0009 0, t)
      else if exp ∧ c.room < templateBlock o tpl then (.fail 0x000A 0, t)
      else match kbTemplate tpl with
        | .error x => (.fail 0x0016 x, t)
        | .ok h => withRandom t c (templateSize h.alg) (fun k u =>
          let a := (kbKeyAlg h.alg k.length).getD 0
          let n := kbNewKey h a k (if exp then some prot else none)
          if !exp then (createKey u c 0 n [] (handleKcv n.kcv), u)
          else match exportBad o prot (unborn n) 0 with
            | some (e, x) => (.fail e x, u)
            | none => exportKey u c o prot (unborn n) (exportFields tpl (unborn n)) (fun b v =>
              (createKey v c 0 n b (handleKcv n.kcv), v))))

/-- KB_GENERATE (05 R169). -/
def execKbGenerate (qp asn : Nat) (s : State) : Host.Outcome State Fault Refusal :=
  dataCommand qp asn 0x0703 kbGenerateBody s

/-- SENDER_ID or TERM_ID of a public key (05 R171). -/
def keyId (pub : List Byte) : List Byte := (sha3_256 pub).take 16

/-- The unsigned part of the ML-KEM message (05 R171). -/
def rklBody (sender term nonce ct kb : List Byte) : List Byte :=
  leBytes 2 0x0201 ++ leBytes 2 (0x476 + kb.length + 3309) ++ sender ++ term ++ nonce ++ fit 1088 ct ++
    leBytes 2 kb.length ++ kb

/-- The AES-256 record that a transport message's secret gives. -/
def transportKey (k : List Byte) : KeyRec := { KeyRec.reset with alg := 0x12, keyLen := 32, mat := fit 32 k }

/-- A terminal's transport key: the kind TRANSPORT names, and its material. -/
structure TermKey where
  kem : Bool
  mat : List Byte
  exp : Nat

/-- The transport key of a terminal's certificate, none where it is not of the kind that TRANSPORT names (05 R170). -/
def termKeyOf (tp : Bool) (cert : List Byte) : Option TermKey :=
  match certOf cert with
  | none => none
  | some c =>
    if tp then ((spkiPlain oidKem768 c.spki).filter (kemPubOk (kemSet 0x51))).map (fun m => { kem := true, mat := m, exp := 0 })
    else (spkiRsa c.spki).map (fun x => { kem := false, mat := beBytes (cdiv (bitLen x.1) 8) x.1, exp := x.2 })

/-- The strength of a terminal's transport key (05 R168, R170). -/
def TermKey.strength (k : TermKey) : Nat := if k.kem then 192 else if 384 ≤ k.mat.length then 128 else 112

/-- Does the authority's key KEY0 verify a terminal's certificate (05 R170)? -/
def termCertOk (ca : KeyRec) (cert : List Byte) : Bool := (certOf cert).any (certOk ca)

/-- The ML-KEM message of RKL_BUILD (05 R171): rnd is the randomness of the encapsulation, pad the block's. The signature is the
deterministic one, as R170 names the content key and the encapsulation alone as random. None at the iteration limit. -/
def rklMessage (nonce fields : List Byte) (sender key : KeyRec) (term rnd pad : List Byte) : Option (List Byte) :=
  let sid := keyId (publicOf sender)
  let tid := keyId term
  let (secret, ct) := kemEncaps (kemSet 0x51) term rnd
  let o : KbOut := { std := false, ver := chr 'D', addKc := false }
  let body := rklBody sid tid nonce ct (exportBlock o (transportKey (sha3_256 (secret ++ nonce ++ sid ++ tid))) key fields pad)
  (signWith 0x59 sender.key (plainForm 0) body []).map (fun sig => body ++ sig)

/-- The length of the token of TRANSPORT 0 (05 R170; log 12). -/
def rklTokenLen (sender : KeyRec) (cert : List Byte) (kb : Nat) : Nat := Config.tr34Length sender.keyLen cert kb

/-- The key token of TR-34 (05 R170): the content key is the first half of rnd, under RSA-OAEP with SHA-256 whose seed is the second half,
and KEY1's RSA signature with SHA-256 stands over the content; its CMS encoding is opaque (log 12). -/
def rklToken (nonce fields cert : List Byte) (sender key : KeyRec) (term : TermKey) (rnd pad : List Byte) : Option (List Byte) :=
  let o : KbOut := { std := false, ver := chr 'D', addKc := false }
  let kb := exportBlock o (transportKey (rnd.take 32)) key fields pad
  let wrapped := oaepEncrypt { n := beNat term.mat, e := term.exp, d := 0 } (hashAlg 0) (rnd.take 32) (rnd.drop 32)
  let content := Config.tr34Content [nonce, wrapped, kb]
  (signWith sender.alg sender.key (plainForm 0) content []).map (fun sig =>
    fit (rklTokenLen sender cert kb.length) (Config.tr34Token content sig))

/-- The length of RKL_BUILD's message for a key and a transport (05 R170, R171). -/
def rklLength (tp : Bool) (sender key : KeyRec) (cert : List Byte) : Nat :=
  let kb := kbLength (chr 'D') 0 key.keyLen
  if tp then 0x476 + kb + 3309 else rklTokenLen sender cert kb

/-- The work of RKL_BUILD (05 R135, R170, R171). -/
def rklBuildBody : Work := fun t c =>
    let d := c.d
    let tp := bit c.prm 0
    let key := keyAt t c 2
    orFormat (unusedKeys d ++ [(anyBits c.prm 63 2, 0x38), (!bit c.prm 1 && !zeroAt d 0x68 0x70, 0x60)])
        (fun a b => (Res.fail a b, t))
      (if 4096 < c.data.length ∨ c.data = [] then (.fail 0x0009 0, t)
      else if c.room < rklLength tp (keyAt t c 1) key c.data then (.fail 0x000A 0, t)
      else match kbTemplate (slice d 0x70 16) with
        | .error x => (.fail 0x0016 x, t)
        | .ok _ =>
          if !termCertOk (keyAt t c 0) c.data then (.fail 0x001D 0, t)
          else match termKeyOf tp c.data with
            | none => (.fail 0x001D 0, t)
            | some term =>
              if key.exportRule = 0 ∨ (kbLetter key.alg).isNone then (.fail 0x0018 0, t)
              else if term.strength < strengthOf key.alg key.keyLen then (.fail 0x001C 0, t)
              else withRandom t c (64 + kbPadLen (chr 'D') key.keyLen) (fun r u =>
                let nonce := slice d 0x60 16
                let fields := exportFields (slice d 0x70 16) key
                let m := if tp then rklMessage nonce fields (keyAt t c 1) key term.mat (r.take 32) (r.drop 64)
                  else rklToken nonce fields c.data (keyAt t c 1) key term (r.take 64) (r.drop 64)
                (match m with
                  | none => .fail 0x0072 0
                  | some x => (listOut c x key.kcv).journalled .none, u)))

/-- RKL_BUILD (05 R170, R171). -/
def execRklBuild (qp asn : Nat) (s : State) : Host.Outcome State Fault Refusal :=
  dataCommand qp asn 0x0710 rklBuildBody s

/-- The inner block of a transport message and the key that protects it, none where the message fails (05 R171, R172). -/
def rklOpen (d : List Byte) (sender receiver : KeyRec) (m : List Byte) : Option (List Byte × List Byte) :=
  let nonce := slice d 0x60 16
  if bit (dParamN d) 0 then
    let n := field m 0x474 2
    let sid := keyId (publicOf sender)
    let tid := keyId (publicOf receiver)
    let body := m.take (0x476 + n)
    if m.length = 0x476 + n + 3309 ∧ field m 0 2 = 0x0201 ∧ field m 2 2 = m.length ∧ slice m 0x004 16 = sid ∧
        slice m 0x014 16 = tid ∧ slice m 0x024 16 = nonce ∧
        verifyWith 0x59 (publicMat sender.alg sender.key) (plainForm 0) body (m.drop (0x476 + n)) = true then
      some (slice m 0x476 n, sha3_256 (kemDecaps (kemSet 0x51) receiver.key (slice m 0x034 1088) ++ nonce ++ sid ++ tid))
    else none
  else match Config.tr34Split m with
    | none => none
    | some (content, sig) =>
      match Config.tr34Inner content with
      | none => none
      | some (n, wrapped, kb) =>
        if n = nonce ∧ verifyWith sender.alg (publicMat sender.alg sender.key) (plainForm 0) content sig = true then
          ((oaepDecrypt (rsaKeyOf receiver.alg receiver.key) (hashAlg 0) wrapped).filter (fun k => k.length == 32)).map (fun k => (kb, k))
        else none

/-- The work of RKL_ACCEPT (05 R172): one status for every failure before the key is authenticated. -/
def rklAcceptBody : Work := pureWork (fun t c =>
    let d := c.d
    let parent := keyAt t c 1
    orFormat (unusedKeys d ++ [(anyBits c.prm 63 1, 0x38), (!zeroAt d 0x70 0x80, 0x70)]) Res.fail
      (match rklOpen d (keyAt t c 0) parent c.data with
        | none => .fail 0x001D 0
        | some (b, kbpk) =>
          match kbUnwrap false 0x12 kbpk b with
          | .error _ => .fail 0x001D 0
          | .ok (h, a, k) =>
            if weakKey a k then .fail 0x001B 0
            else createKey t c 1 (kbNewKey h a k (some parent)) [] (handleKcv (kcvOf a k))))

/-- RKL_ACCEPT (05 R172). -/
def execRklAccept (qp asn : Nat) (s : State) : Host.Outcome State Fault Refusal :=
  dataCommand qp asn 0x0711 rklAcceptBody s

end Sys2Proof.Machine
end

