-- ==== Sys2Proof/Machine/Flags.lean ====
section
/-!
DEFINITION. The flag computations of the Eloa cores: arithmetic, shifts, rotates, division and the character operations,
each with the flags it writes (09 R291 to R298).
-/

namespace Sys2Proof.Machine

open Sys2Proof

/-- The flags an operation writes: those it leaves alone are none (09 R294). -/
structure FlagSet where
  z  : Option Bool
  n  : Option Bool
  c  : Option Bool
  v  : Option Bool
  dz : Option Bool
  deriving DecidableEq, Repr

/-- No flag is written. -/
def FlagSet.keep : FlagSet := { z := none, n := none, c := none, v := none, dz := none }

/-- Z and N of a result (09 R294). -/
def FlagSet.zn (r : Word) : FlagSet :=
  { z := some (r == 0), n := some r.msb, c := none, v := none, dz := none }

/-- V alone. -/
def FlagSet.ov (b : Bool) : FlagSet := { FlagSet.keep with v := some b }

/-- A flag as it stands after a write. -/
def pick (o : Option Bool) (b : Bool) : Bool :=
  match o with
  | some x => x
  | none => b

/-- The flags of a core after an operation. -/
def FlagSet.apply (f : FlagSet) (k : CoreCtl) : CoreCtl :=
  { k with z := pick f.z k.z, n := pick f.n k.n, c := pick f.c k.c, v := pick f.v k.v, dz := pick f.dz k.dz }

/-- What an operation computes: a value and flags. -/
abbrev Alu := Word × FlagSet

/-- A + B + cin with ZNCV: C is the carry out of bit 31, V signed overflow (09 R294). -/
def aluAdd (a b : Word) (cin : Bool) : Alu :=
  let w := a.toNat + b.toNat + b2n cin
  let r := BitVec.ofNat 32 w
  (r, { FlagSet.zn r with c := some (decide (2 ^ 32 ≤ w)), v := some (a.msb == b.msb && r.msb != a.msb) })

/-- A + ¬B + cin: subtraction and compare with cin = 1 (09 R294). -/
def aluSub (a b : Word) (cin : Bool) : Alu := aluAdd a (~~~b) cin

/-- A logic result with ZN. -/
def aluLogic (r : Word) : Alu := (r, FlagSet.zn r)

/-- C of a shift by n from 1 to 31, given the last bit shifted out, and the rules for 0 and for 32 or more (09 R295). -/
def shiftC (n : Nat) (last big : Bool) : Option Bool := if n = 0 then none else if n < 32 then some last else some big

/-- Shift left by a 32-bit count (09 R295). -/
def aluShl (a : Word) (n : Nat) : Alu :=
  let r : Word := if n < 32 then a <<< n else 0
  (r, { FlagSet.zn r with c := shiftC n (a.getLsbD (32 - n)) false })

/-- Shift right by a 32-bit count (09 R295). -/
def aluShr (a : Word) (n : Nat) : Alu :=
  let r : Word := if n < 32 then a >>> n else 0
  (r, { FlagSet.zn r with c := shiftC n (a.getLsbD (n - 1)) false })

/-- Arithmetic shift right by a 32-bit count (09 R295). -/
def aluSar (a : Word) (n : Nat) : Alu :=
  let r := a.sshiftRight (min n 32)
  (r, { FlagSet.zn r with c := shiftC n (a.getLsbD (n - 1)) a.msb })

/-- Rotate right by n mod 32: C is bit 31 of the result unless the count is 0 (09 R295). -/
def aluRor (a : Word) (n : Nat) : Alu :=
  let r := a.rotateRight (n % 32)
  (r, { FlagSet.zn r with c := if n % 32 = 0 then none else some r.msb })

/-- Rotate left by n mod 32: C is bit 0 of the result unless the count is 0 (09 R295). -/
def aluRol (a : Word) (n : Nat) : Alu :=
  let r := a.rotateLeft (n % 32)
  (r, { FlagSet.zn r with c := if n % 32 = 0 then none else some (r.getLsbD 0) })

/-- High 32 bits of the unsigned product. -/
def mulHu (a b : Word) : Word := BitVec.ofNat 32 (a.toNat * b.toNat / 2 ^ 32)

/-- High 32 bits of the signed product. -/
def mulHs (a b : Word) : Word := BitVec.ofInt 32 (a.toInt * b.toInt / 2 ^ 32)

/-- Division by zero: quotient 0, remainder the dividend, DZ := 1, V := 0 (09 R295). -/
def divZero (r : Word) : Alu := (r, { FlagSet.zn r with v := some false, dz := some true })

/-- Any other division: V := 0 but for the overflow of the most negative number by −1 (09 R295). -/
def divOk (r : Word) (v : Bool) : Alu := (r, { FlagSet.zn r with v := some v })

/-- The overflowing division of 09 R295. -/
def divOvf (a b : Word) : Bool := a == 0x80000000 && b == 0xFFFFFFFF

/-- DIVU. -/
def aluDivu (a b : Word) : Alu := if b = 0 then divZero 0 else divOk (a / b) false
/-- REMU. -/
def aluRemu (a b : Word) : Alu := if b = 0 then divZero a else divOk (a % b) false
/-- DIVS, truncated toward zero. -/
def aluDivs (a b : Word) : Alu := if b = 0 then divZero 0 else divOk (a.sdiv b) (divOvf a b)
/-- REMS: the remainder takes the sign of the dividend. -/
def aluRems (a b : Word) : Alu := if b = 0 then divZero a else divOk (a.srem b) (divOvf a b)

/-- The exclusive or of the low n bits of a word. -/
def parity (n : Nat) (a : Word) : Bool := (List.range n).foldl (fun r i => Bool.xor r (a.getLsbD i)) false

/-- PARB: bit i of the result is the parity of byte i (09 R292). -/
def parBytes (a : Word) : Word :=
  BitVec.ofNat 32 (((List.range 4).map (fun i => b2n (parity 8 (a >>> (8 * i))) * 2 ^ i)).sum)

/-- Bit order reversed within blocks of n bits, n dividing 32 (09 R292). -/
def revBlocks (n : Nat) (a : Word) : Word :=
  BitVec.ofNat 32 (((List.range 32).map (fun i => b2n (a.getLsbD i) * 2 ^ (i / n * n + (n - 1 - i % n)))).sum)

/-- Byte order reversed (09 R292). -/
def byteSwap (a : Word) : Word := BitVec.ofNat 32 (leNat (beBytes 4 a.toNat))

/-- One Luhn step: SUM and ODD in d, the digit in a (09 R297). -/
def aluLuhn (d a : Word) : Alu :=
  let sum := bits d.toNat 3 0
  let x := bits a.toNat 3 0
  let odd := d.getLsbD 4
  if 9 < x ∨ 9 < sum then (d, FlagSet.ov true)
  else
    let y := if odd then (if 9 < 2 * x then 2 * x - 9 else 2 * x) else x
    (BitVec.ofNat 32 ((sum + y) % 10 + 16 * b2n (!odd)), FlagSet.ov false)

/-- Entry i of the decimalisation table of a core (09 R280). -/
def decEntry (k : CoreCtl) (i : Nat) : Nat := bits ((k.decHi.toNat * 2 ^ 32 + k.decLo.toNat) / 16 ^ i) 3 0

/-- One decimalisation step (09 R298). -/
def aluDect (k : CoreCtl) (a : Word) : Alu :=
  let e := decEntry k (bits a.toNat 3 0)
  (BitVec.ofNat 32 e, FlagSet.ov (decide (9 < e)))

/-- The CRC width in force: values 0 to 6 of WIDTH_M1 act as 7 (09 R280). -/
def crcWidth (k : CoreCtl) : Nat := max 7 (bits k.crcCfg.toNat 4 0) + 1

/-- CRC steps over bytes into accumulator d; the bits above the width clear (09 R296). -/
def crcSteps (k : CoreCtl) (d : Word) (bs : List Byte) : Word :=
  let w := crcWidth k
  let p := k.crcPoly.toNat % 2 ^ w
  BitVec.ofNat 32 (bs.foldl (fun c b => crcByte w p (bit k.crcCfg.toNat 5) c b) (d.toNat % 2 ^ w))

/-- Does the condition of B hold (09 R293)? -/
def condHolds (k : CoreCtl) (cond : Nat) : Bool :=
  match cond with
  | 0 => true
  | 1 => k.z
  | 2 => !k.z
  | 3 => k.c
  | 4 => !k.c
  | 5 => k.n
  | 6 => !k.n
  | 7 => k.v
  | 8 => !k.v
  | 9 => k.c && !k.z
  | 10 => !k.c || k.z
  | 11 => k.n == k.v
  | 12 => k.n != k.v
  | 13 => !k.z && k.n == k.v
  | 14 => k.z || k.n != k.v
  | _ => k.dz

end Sys2Proof.Machine
end

