-- ==== Sys2Proof/Machine/Nightside.lean ====
section
/-!
DEFINITION. The Nightside log (12 R392) and the record of a module failure (01 R18).
-/

namespace Sys2Proof.Machine

open Sys2Proof

/-- LF_TIME: LFCLK cycles of 32,768 Hz since the BBRAM was last found erased, 48 bits (12 R392). -/
def lfTime (s : State) : Nat := (s.now - s.tamper.lfBase) * 32768 / 1000000 % 2 ^ 48

/-- Change the tamper logic. -/
def modTamper (s : State) (f : Tamper → Tamper) : State := { s with tamper := f s.tamper }

/-- Append a record to the circular log of 64; overwriting one that has not been copied counts (12 R392, R395). -/
def nsAppend (s : State) (r : NsRec) : State :=
  modTamper s (fun t =>
    let n := (t.logSeq + 1) % 65536
    let full := decide (64 ≤ t.log.length)
    let lost := full && decide (t.logCopied < (t.log.headD r).seq)
    { t with logSeq := n, log := (if full then t.log.drop 1 else t.log) ++ [{ r with seq := n }],
             logOvf := if lost then (t.logOvf + 1) % 65536 else t.logOvf })

/-- A Nightside record of source src with the supply and times of now. -/
def nsRec (s : State) (src asked rdone events sampleA sampleB : Nat) : NsRec :=
  { seq := 0, source := src, asked := asked, done := rdone, events := events, sampleA := sampleA, sampleB := sampleB,
    lfTime := lfTime s, powerCycles := s.evr.powerCycles, backup := !s.power.main, zeroised := false, capped := false,
    suppressed := 0 }

/-- A module failure is recorded in the Nightside log, and the block stops accepting work (01 R18). The spec names no
SOURCE for that record: it is a free value among 0 to 10 (log 26). -/
def moduleFailure (s : State) : State :=
  let (v, t) := takeFree s
  modHif (nsAppend t (nsRec t (v % 11) 0 0 0 0 0)) (fun h => { h with failed := true, dpOpen := false })

end Sys2Proof.Machine
end

