-- ==== Sys2Proof/Machine/EloaBase.lean ====
section
/-!
DEFINITION. The register file of an Eloa core, its faults, and how a descriptor's script ends (09 R279 to R285, R304 to
R306; 08 R269 to R271).
-/

namespace Sys2Proof.Machine

open Sys2Proof

/-- Fault numbers (09 R305). -/
abbrev fltUndef : Nat := 1
/-- PAIRX. -/
abbrev fltPairx : Nat := 2
/-- RSTK_OVF. -/
abbrev fltRstkOvf : Nat := 3
/-- RSTK_UNF. -/
abbrev fltRstkUnf : Nat := 4
/-- ALIGN. -/
abbrev fltAlign : Nat := 5
/-- RANGE. -/
abbrev fltRange : Nat := 6
/-- PRIV. -/
abbrev fltPriv : Nat := 7
/-- TICKET. -/
abbrev fltTicket : Nat := 8
/-- KOPARG. -/
abbrev fltKoparg : Nat := 9
/-- STEPS. -/
abbrev fltSteps : Nat := 10
/-- ENDARG. -/
abbrev fltEndarg : Nat := 11
/-- MEM_ECC. -/
abbrev fltMemEcc : Nat := 12

/-- Why a word does not complete: a precise fault of the core (09 R304). -/
inductive Stop where
  | fault (n : Nat)
  deriving DecidableEq, Repr

/-- The value of a register: globals, the visible window, ds; any other number is UNDEF (09 R279, R290). -/
def readReg (c : EloaCore) (r : Nat) : Except Stop Word :=
  if r < 8 then .ok (tblGet 0 c.g r)
  else if r < 24 then .ok (tblGet 0 c.win (8 * c.f + (r - 8)))
  else if r = 24 then .ok c.ds
  else .error (.fault fltUndef)

/-- Write a register; a number that is not defined writes nothing (its word has faulted before). -/
def writeReg (c : EloaCore) (r : Nat) (v : Word) : EloaCore :=
  if r < 8 then { c with g := tblSet c.g r v }
  else if r < 24 then { c with win := tblSet c.win (8 * c.f + (r - 8)) v }
  else if r = 24 then { c with ds := v }
  else c

/-- Is the register number defined (09 R279)? -/
def regOk (r : Nat) : Bool := decide (r ≤ 24)

/-- A core that runs tenant scripts (09 R278). -/
def isS3 (c : Nat) : Bool := decide (c < 64) && c % 4 == 3

/-- The unit and the number in it of core c (09 R307). -/
def unitOf (c : Nat) : Nat × Nat := if c < 64 then (c / 4, c % 4) else (16, c - 64)

/-- Instruction memory of a core in bytes (09 R278). -/
def codeSize (c : Nat) : Nat := if c < 64 then 0x4000 else 0x40000

/-- Data memory of a core in bytes (09 R278). -/
def dataSize (c : Nat) : Nat := if c < 64 then 0x2000 else 0x40000

/-- SCRIPT_FAULT, SCRIPT_ABORTED, SCRIPT_BUDGET_EXCEEDED (02 R69). -/
abbrev stScriptFault : Nat := 0x0080
/-- SCRIPT_ABORTED. -/
abbrev stScriptAborted : Nat := 0x0083
/-- SCRIPT_BUDGET_EXCEEDED. -/
abbrev stScriptBudget : Nat := 0x0081

/-- A script ends with a completion (08 R271): an SE script that ends well commits through its one commit unit, and one
that ends otherwise is journalled only if it drew random data (04 R111). -/
def endScript (s : State) (c : Nat) (good : Bool) (cpl : Cpl) : State :=
  match coreEntry s c with
  | none => s
  | some e =>
    let e' := { e with fired := true }
    let s1 := modEntry s e.qp e.asn (fun x => { x with fired := true, deadline := none })
    if e.se ∧ (good ∨ (coreOf s c).drew) then queueUnit s1 e' cpl .none else finishEntry s1 e' cpl

/-- A core takes a precise fault n at the word at its pc (09 R304, R306): a script core's descriptor ends; a management
core takes it as an interrupt of priority 16, or stops where one is being handled: a stopped M0 is a module failure (01 R18). -/
def takeFault (s : State) (c n : Nat) : State :=
  if c < 64 then endScript s c false (Cpl.fail stScriptFault n)
  else
    let m := c - 64
    let k := coreOf s c
    let run := (evuCoreOf s 16 m).runpri
    if run = 16 then
      let t := raiseModule (modCore s c (fun x => { x with stopped := true })) (0x88 + m)
      if m = 0 then moduleFailure (recordOpen t 7 0) else t
    else
      let x : ICtx := { pc := k.pc, flags := flagsWord k.ctl, f := k.f, runpri := run, source := 256 }
      let t := modEvuCore s 16 m (fun r => { r with runpri := 16 })
      modCore t c (fun k => slideUp
        { k with ictx := x :: k.ictx, wait := .none,
                 ctl := { k.ctl with fault := n, faultPc := k.pc },
                 pc := k.ctl.fvbase + BitVec.ofNat 32 (16 * n) } 2)

/-- A script core whose budget a descriptor has (08 R270): only tenant scripts have one. -/
def budgeted (s : State) (c : Nat) : Bool := isS3 c && (coreEntry s c).isSome

/-- A core runs words: it is not stopped or halted and does not wait; M1 to M3 from the start of their firmware; a script core runs a
descriptor's while its budget lasts (08 R270; 09 R282, R306; 11 R355). -/
def coreRuns (s : State) (c : Nat) : Bool :=
  let k := coreOf s c
  !k.stopped && k.dbg != 1 && k.wait == .none && (c == 64 || (decide (65 ≤ c) && s.fw.running) ||
    ((coreEntry s c).any (fun e => e.cpl.isNone) && !s.tamper.halt && !(budgeted s c && k.ctl.budget == 0)))

/-- A core that waits has its value and goes on: rd and the flags are written, the pc moves on (09 R291). -/
def resumeWith (c : EloaCore) (rd : Nat) (v : Word) (f : FlagSet) (cycles : Nat) : EloaCore :=
  let c1 := writeReg { c with wait := .none, ctl := f.apply c.ctl } rd v
  addCycles { c1 with pc := c1.pc + 4 } cycles

end Sys2Proof.Machine
end

