-- ==== Sys2Proof/Machine/Rights.lean ====
section
/-!
DEFINITION. Requests to the object dictionary: the paths and their rights, the answer, and the quorum rule for RWQ
writes (02 R56; 10 R323 to R341).
-/

namespace Sys2Proof.Machine

open Sys2Proof

/-- The access classes in the order of 10 R329. -/
inductive Access where
  | const
  | ro
  | rw
  | wo
  | rwq
  | rwb
  deriving DecidableEq, Repr

/-- Who asks on a path (10 R323, R330). -/
inductive Role where
  | tunnel
  | manager
  | custodian (scope index : Nat)
  deriving DecidableEq, Repr

/-- The session of a number. -/
def sessionOf (s : State) (sid : Nat) : Option Session := s.fmp.sessions.find? (fun x => x.sid == sid)

/-- The role behind a path: none for a session that is not open. -/
def roleOf (s : State) (path : Path) : Option Role :=
  match path with
  | .tunnel => some .tunnel
  | .session sid =>
    match sessionOf s sid with
    | none => none
    | some x => if x.role = 1 then some .manager else some (.custodian x.scope x.index)

/-- Byte off of the request buffer on, n bytes (02 R56). -/
def mbxField (s : State) (off n : Nat) : Nat := leNat (Memory.read s.hif.mbx.reqBuf off n)

/-- The request buffer names a request: its OP, and for READ, WRITE and INFO its INDEX and SUB (10 R331). -/
def mbxNames (s : State) (op idx sub : Nat) : Bool :=
  mbxField s 0 1 == op && (decide (3 < op) || (mbxField s 2 2 == idx && mbxField s 4 1 == sub))

/-- The FLAGS and OFFSET of the request buffer (10 R331). -/
def mbxAt (s : State) (first : Bool) (offset : Nat) : Bool :=
  bit (mbxField s 1 1) 0 == first && mbxField s 8 4 == offset

/-- The request buffer carries this piece of a value, REQ_LEN bytes with its header (02 R56; 10 R331). -/
def mbxCarries (s : State) (pc : Piece) : Bool :=
  mbxAt s pc.first pc.offset && bit (mbxField s 1 1) 1 == pc.last && mbxField s 12 4 == pc.total &&
    Memory.read s.hif.mbx.reqBuf 16 (s.hif.mbx.reqLen - 16) == pc.value

/-- The role in which a path's request is served: through the mailbox only a request that SUBMIT has sent, while BUSY is 1, and that
the request buffer holds (02 R56; 10 R331; log 82). -/
def askerOf (s : State) (path : Path) (op idx sub : Nat) : Option Role :=
  if path = .tunnel ∧ (s.hif.mbx.busy = false ∨ mbxNames s op idx sub = false) then none
  else if path ≠ .tunnel ∧ s.fmp.busState = 2 then none
  else roleOf s path

/-- A number for a path: 0 the tunnel, else the SID (10 R349 QRQ_ORIGIN). -/
def pathNo (path : Path) : Nat :=
  match path with
  | .tunnel => 0
  | .session sid => sid

/-- Bytes of a session message whose request carries a value of n bytes: SID, CTR, the header, the value, TAG (10 R325, R331). -/
def requestLen (n : Nat) : Nat := 41 + n

/-- A request on a session, with a value of n bytes, has been received and accepted (10 R322, R325, R326). -/
def touch (s : State) (path : Path) (n : Nat) : State :=
  match path with
  | .tunnel => s
  | .session sid =>
    match sessionOf s sid with
    | none => s
    | some x0 =>
      let f (x : Session) : Session := if x.sid = sid then { x with last := s.now, ctrIn := x.ctrIn + 1 } else x
      let t := receive s x0.node (requestLen n)
      { t with fmp := { t.fmp with sessions := t.fmp.sessions.map f } }

/-- The request a path makes: its OP, FLAGS, INDEX and SUB are kept for the response (10 R331). -/
def setCur (s : State) (path : Path) (op idx sub : Nat) : State :=
  { s with dict := { s.dict with cur := (path, leBytes 1 op ++ leBytes 2 idx ++ leBytes 1 sub) ::
                                          s.dict.cur.filter (fun x => x.1 != path) } }

/-- The first six bytes of a response to a path's latest request (10 R331). -/
def respHead (s : State) (path : Path) (flags : Nat) : List Byte :=
  let r := ((s.dict.cur.find? (fun x => x.1 == path)).map (fun x => x.2)).getD (zeros 4)
  slice r 0 1 ++ leBytes 1 flags ++ slice r 1 3 ++ zeros 1

/-- A response (10 R331): into the mailbox, which sets DONE and sends PF0 vector 1 (02 R56, R70), or to the session's
node. -/
def answerMsg (s : State) (path : Path) (flags result off total : Nat) (value : List Byte) : State :=
  let hdr := respHead s path flags ++ leBytes 2 result ++ leBytes 4 off ++ leBytes 4 total ++ value
  let t := send s (.response path result value)
  match path with
  | .tunnel =>
    sendMsix (modHif t (fun h => { h with mbx := { h.mbx with
      busy := false, done := true, result := result, rspBuf := hdr.take 2048, rspLen := min 2048 hdr.length,
      applied := false } })) 0 1
  | .session sid => sendSession t 0x4 sid hdr

/-- A response that carries its whole value. -/
def answer (s : State) (path : Path) (result : Nat) (value : List Byte) : State :=
  answerMsg s path 3 result 0 value.length value

/-- The right to read an object by its index (10 R330): a custodian reads identity, life cycle, quorum and ceremony
objects, and the partition objects of its own scope. -/
def readRight (r : Role) (idx : Nat) : Bool :=
  match r with
  | .custodian scope _ =>
    decide ((0x1000 ≤ idx ∧ idx ≤ 0x10FF) ∨ (0x2000 ≤ idx ∧ idx ≤ 0x2FFF) ∨ (0x5100 ≤ idx ∧ idx ≤ 0x52FF) ∨
      (0x4000 ≤ idx ∧ idx ≤ 0x4FFF ∧ scope = idx - 0x4000))
  | _ => true

/-- Objects that only a custodian session may write: QRM_APPROVE and the ceremony objects marked so; CER_ABORT is open to
a manager session too (10 R349). -/
def custodianObj (idx sub : Nat) : Bool :=
  (idx == 0x5210 && sub == 0x01) || (idx == 0x5100 && (sub == 0x04 || sub == 0x06))

/-- CER_ABORT: custodian or manager session. -/
def custodianToo (idx sub : Nat) : Bool := idx == 0x5100 && sub == 0x08

/-- The scope an RWQ object belongs to (10 R337): partition p for 0x4000 + p but PART_REMOVE, else the module. CER_OPEN is
scoped by its value. -/
def scopeOfObj (idx sub : Nat) (value : List Byte) : Nat :=
  if 0x4000 ≤ idx ∧ idx ≤ 0x4FFF ∧ sub ≠ 0xE0 then idx - 0x4000
  else if idx = 0x5100 ∧ sub = 0x01 then field value 0 2
  else 0xFFFF

/-- An entry of a scope's roster (10 R336). -/
def rosterEntry (s : State) (scope i : Nat) : List Byte :=
  if scope = 0xFFFF then objBytes s 0x5200 (0x10 + i) 2073 else objBytes s (0x4000 + scope) (0xF0 + i) 2073

/-- Enrolled custodians of a scope's roster, by index (10 R336). -/
def rosterOf (s : State) (scope : Nat) : List Nat := (List.range 16).filter (fun i => byteAt (rosterEntry s scope i) 0 == 1)

/-- M of a scope now: PART_QUORUM_M or QRM_M_MODULE. -/
def quorumM (s : State) (scope : Nat) : Nat :=
  if scope = 0xFFFF then objNat s 0x5200 0x01 2 else objNat s (0x4000 + scope) 0xE8 2

/-- The scope whose roster decides a request of an object's scope: the partition's when its roster holds M, else the
module's (10 R337). -/
def decidingScope (s : State) (scope : Nat) : Nat :=
  if scope ≠ 0xFFFF ∧ quorumM s scope ≤ (rosterOf s scope).length then scope else 0xFFFF

/-- An index that no request reaches in recovery: only identity and life-cycle objects exist there (11 R356). -/
def barredIdx (idx : Nat) : Bool := !(decide (0x1000 ≤ idx ∧ idx ≤ 0x10FF) || decide (0x2000 ≤ idx ∧ idx ≤ 0x2FFF))

/-- Codes 0x0001 to 0x0006 of 10 R334 for a write of an object that exists: 0 when the path may write it. -/
def writeRight (s : State) (r : Role) (a : Access) (idx sub : Nat) (value : List Byte) : Nat :=
  let tun := r == .tunnel
  if s.fw.recovery ∧ tun = false ∧ barredIdx idx then 0x0001
  else if tun ∧ (objNat s 0x9010 0x01 1 = 0 ∨ objNat s 0x9010 0x02 0 = 1 ∨ s.fw.recovery = true) then 0x0003
  else if tun ∧ a = .rwb then 0x0004
  else
    let roleOk : Bool :=
      match r, a with
      | .tunnel, _ => true
      | .manager, .rwb => !custodianObj idx sub
      | .manager, _ => true
      | .custodian _ _, .rwb => custodianObj idx sub || custodianToo idx sub
      | .custodian scope _, .rwq => scope == scopeOfObj idx sub value || scope == decidingScope s (scopeOfObj idx sub value)
      | .custodian _ _, .rw => false
      | .custodian _ _, .wo => false
      | .custodian _ _, _ => true
    if !roleOk then 0x0005
    else if a = .const ∨ a = .ro then 0x0006
    else 0

/-- A request of a path, with a value of n bytes: nothing on a session that is not open, nor through the mailbox where the request
buffer does not hold it, nor while the port is bus-off; else the session is touched and the request served. -/
def onPath (s : State) (path : Path) (op idx sub n : Nat) (k : Role → State → State) : State :=
  match askerOf s path op idx sub with
  | none => s
  | some r => k r (touch s path n)

/-- A write of a WO or RW object that a row of its own serves: its rights, then its effect; a refusal is answered. -/
def onWrite (s : State) (path : Path) (a : Access) (idx sub : Nat) (value : List Byte) (k : State → State) : State :=
  onPath s path 2 idx sub value.length (fun r t =>
    let t' := setCur t path 2 idx sub
    let c := writeRight t' r a idx sub value
    if c = 0 then k t' else answer t' path c [])

/-- The life-cycle states in which an RWQ write is applied at once (10 R338). -/
def rwqAtOnce (s : State) : Bool := decide (lifeCycle s ≤ 2)

/-- The statement custodians sign (10 R339). -/
def reqStatement (s : State) (r : QReq) : List Byte :=
  ascii "FQR1" ++ leBytes 8 s.ident.serial ++ leBytes 4 r.reqNo ++ leBytes 2 r.scope ++ leBytes 2 r.index ++
    leBytes 1 r.sub ++ zeros 3 ++ leBytes 4 r.value.length ++ leBytes 6 r.expires ++ zeros 2 ++ fit 48 r.digest ++
    leBytes 4 r.incarnation ++ zeros 8

/-- Record a proposal in FIELD (10 R339): BUSY while its slot or another request of the same object is pending. -/
def propose (s : State) (path : Path) (idx sub : Nat) (value : List Byte) : State :=
  let scope := decidingScope s (scopeOfObj idx sub value)
  let no := s.dict.reqNo
  let slot := no % 64
  let same (x : Nat × QReq) : Bool :=
    x.2.state == 1 && (x.1 == slot || (x.2.index == idx && x.2.sub == sub && x.2.scope == scope))
  if s.dict.reqs.any same then answer s path 0x000B []
  else
    let r : QReq :=
      { reqNo := no, scope := scope, index := idx, sub := sub, value := value, digest := sha3_384 value,
        expires := s.evr.opMs + objNat s 0x5200 0x03 900 * 1000,
        incarnation := if scope = 0xFFFF then 0 else (partOf s scope).incarnation, need := quorumM s scope, state := 1,
        approvals := [], result := 0, origin := path, live := true, due := none }
    let t := { s with dict := { s.dict with reqNo := no + 1, reqs := tblSet s.dict.reqs slot r } }
    answer t path 0x000C (leBytes 4 no)

/-- An RWQ write whose right and range have been checked (10 R338, R339): applied at once before FIELD from a manager session, and from
a custodian session within its scope, of which R338 does not speak (DESIGN CHOICE, log 85); in FIELD recorded where its state checks pass
now, which run again when it is applied; INVALID_STATE afterwards. apply does the write and gives its result. -/
def settleRwq (t : State) (path : Path) (idx sub : Nat) (value : List Byte) (apply : State → Nat × State) : State :=
  if rwqAtOnce t then
    (if path = .tunnel then answer t path 0x0006 []
     else
      let (r, u) := apply t
      answer u path r [])
  else if lifeCycle t = 3 then
    (if (apply t).1 = 0 then propose t path idx sub value else answer (apply t).2 path (apply t).1 [])
  else answer t path 0x0009 []

/-- An RWQ write by the row of its object: its right, then as settleRwq says. -/
def proposeOrApply (s : State) (path : Path) (idx sub : Nat) (value : List Byte) (apply : State → Nat × State) : State :=
  onWrite s path .rwq idx sub value (fun t => settleRwq t path idx sub value apply)

end Sys2Proof.Machine
end

