-- ==== Sys2Proof/Machine/Parts.lean ====
section
/-!
DEFINITION. Partitions: creation and removal, the commands SUSPEND, RESUME, DRAIN and SQUASH, and how the two planes
agree (08 R244 to R260; 04 R127 to R129).
-/

namespace Sys2Proof.Machine

open Sys2Proof

/-- A command is permitted from the partition's effective state (08 R255). -/
def cmdPermitted (s : State) (p action : Nat) : Bool :=
  let e := effectiveOf s p
  if action = 1 then e == 0
  else if action = 2 then e == 1 && (homesOf s p).all (fun q => operIn s p q == 1)
  else if action = 3 then e == 0 || e == 1
  else if action = 4 then e == 0 || e == 1 || e == 2
  else false

/-- The state a command sets (08 R255). -/
def cmdState (action : Nat) : Nat := if action = 1 then 1 else if action = 2 then 0 else if action = 3 then 2 else 3

/-- The drain deadline starts in every home quarter when it applies DRAINING (04 R127, 08 R257). -/
def startDrain (s : State) (p : Nat) : State := (homesOf s p).foldl (fun u q => startDrainIn u p q) s

/-- A permitted command: ADMIN is set and pushed to the home quarters, each of which sets OPER and does what the state
asks of work in flight (08 R257; 04 R127, R128). A SQUASH takes over a drain. A RESUME is done as soon as the quarters have it
(R255), and reports DONE to HIF_ADM_PCMD_STS once no accepted ASN lacks its completion (02 R55). -/
def runPartCmd (s : State) (p action : Nat) (viaPcmd : Bool) (ms : Nat) : State :=
  let via := viaPcmd || (match (partOf s p).cmd with
    | some c => c.viaPcmd
    | none => false)
  let v := cmdState action
  let c : PartCmd := { action := action, viaPcmd := via, drainMs := ms, deadlined := false }
  let s1 := setOperAll (modPart (pushBounds s p) p (fun x =>
    { x with admin := v, cmd := some c, reason := 0, outcome := 4
             lastCancelled := if 3 ≤ action then 0 else x.lastCancelled })) p v
  if action = 2 then (if via then settle s1 p else finishCmd s1 p c 1)
  else if action = 3 then settle (startDrain s1 p) p
  else if action = 4 then settle ((partOf s1 p).qps.foldl squashQp s1) p
  else settle s1 p

/-- A write of HIF_ADM_PCMD (02 R53, R55): OVERRUN while busy; refused with a reserved action, a partition not created,
or a state that does not permit it; else started. -/
def pcmdWrite (s : State) (p action ms : Nat) : State :=
  if s.hif.pcmdBusy then modHif s (fun h => { h with pcmdOverrun := true })
  else
    let w := BitVec.ofNat 32 (p + action * 4096 + ms * 65536)
    let s1 := raiseModule (modHif s (fun h => { h with pcmdWord := w })) 0x72
    let refuse (r : Nat) : State := modHif s1 (fun h => { h with pcmdRefused := true, pcmdReason := r })
    if action = 0 ∨ 4 < action then refuse 2
    else if !(partOf s p).created then refuse 3
    else if !cmdPermitted s p action then refuse 1
    else
      let s2 := modHif s1 (fun h => { h with pcmdBusy := true, pcmdPart := p, pcmdReason := 0 })
      runPartCmd s2 p action true ms

/-- Refuse a command given as PART_CMD, with its reason in PART_CMD_STATUS (08 R257). -/
def refusePartCmd (s : State) (path : Path) (p reason : Nat) : State :=
  answer (modPart s p (fun x => { x with reason := reason, outcome := 3 })) path 0 []

/-- A write of PART_CMD with an action of 1 to 4 (08 R255, R277). -/
def partCmdWrite (s : State) (path : Path) (p action : Nat) : State :=
  onWrite s path .wo (0x4000 + p) 0x05 (leBytes 1 action) (fun t =>
    if !(partOf t p).created then refusePartCmd t path p 3
    else if !cmdPermitted t p action then refusePartCmd t path p 1
    else answer (runPartCmd t p action false 0) path 0 [])

/-- A partition command on either path. -/
def partCommand (via : Via) (p action : Nat) (s : State) : State :=
  match via with
  | .pcmd ms => pcmdWrite s p action (ms % 65536)
  | .dict path => partCmdWrite s path p action

/-- SUSPEND (08 R255). -/
def execSuspend (via : Via) (p : Nat) (s : State) : Host.Outcome State Fault Refusal :=
  guardUnit (partOk p) p s (partCommand via p 1 s)

/-- RESUME (08 R255). -/
def execResume (via : Via) (p : Nat) (s : State) : Host.Outcome State Fault Refusal :=
  guardUnit (partOk p) p s (partCommand via p 2 s)

/-- DRAIN (08 R255, 04 R127). -/
def execDrain (via : Via) (p : Nat) (s : State) : Host.Outcome State Fault Refusal :=
  guardUnit (partOk p) p s (partCommand via p 3 s)

/-- SQUASH (08 R255, 04 R128). -/
def execSquash (via : Via) (p : Nat) (s : State) : Host.Outcome State Fault Refusal :=
  guardUnit (partOk p) p s (partCommand via p 4 s)

/-- Queue pairs homed on quarter q. -/
def qpsHomed (s : State) (q : Nat) : Nat := (s.qps.filter (fun x => x.2.assigned && x.2.home == q)).length

/-- The homes of n new queue pairs under 01 R16, given the counts so far. -/
def pickHomes (up : List Nat) (counts : Tbl Nat) (n : Nat) : List Nat :=
  match n with
  | 0 => []
  | n + 1 =>
    match minBy (fun q => tblGet 0 counts q) up with
    | none => []
    | some q => q :: pickHomes up (tblSet counts q (tblGet 0 counts q + 1)) n

/-- The sum of the in-flight allowances of quarter q (03 R75). -/
def allowSum (s : State) (q : Nat) : Nat :=
  ((s.qps.filter (fun x => x.2.assigned && x.2.home == q)).map (fun x => x.2.allowance)).sum

/-- Created partitions, with their numbers. -/
def partsCreated (s : State) : List (Nat × Part) := s.parts.filter (fun x => x.2.created)

/-- The sum of the cache quotas in quarter q (08 R249). -/
def quotaSum (s : State) (q : Nat) : Nat := ((partsCreated s).map (fun x => tblGet 0 x.2.quota q)).sum

/-- Queue pairs that belong to a partition. -/
def qpsTaken (s : State) : List Nat := (s.qps.filter (fun x => x.2.assigned)).map (fun x => x.1)

/-- Key-slot extents given out. -/
def extentsTaken (s : State) : List Nat := (partsCreated s).flatMap (fun x => x.2.extents)

/-- Journal extents given out. -/
def journalTaken (s : State) : List Nat := (partsCreated s).flatMap (fun x => x.2.journalExtents)

/-- Lines granted as quota (07 R229). -/
def linesGranted (s : State) : Nat := ((partsCreated s).map (fun x => objNat s (0x4000 + x.1) 0x21 0)).sum

/-- The first failing check of CREATE, as its reason (08 R246), given the homes the new queue pairs would take. -/
def createCheck (s : State) (p : Nat) (homes : List Nat) : Option Nat :=
  let idx := 0x4000 + p
  let n := objNat s idx 0x10 1
  let allow := objNat s idx 0x12 256
  let quota := objNat s idx 0x22 64
  if (partOf s p).created then some 1
  else if 16384 < (qpsTaken s).length + n then some 4
  else if homes.length < n ∨
    homes.any (fun q => decide (16384 < allowSum s q + allow * (homes.filter (· == q)).length)) then some 5
  else if 8190 < (extentsTaken s).length + objNat s idx 0x20 1 then some 6
  else if 3520 < linesGranted s + objNat s idx 0x21 0 ∨
    11776 < 64 + 2 * (partsCreated s).length + linesGranted s + objNat s idx 0x21 0 + 2 then some 7
  else if homes.any (fun q => decide (16320 < quotaSum s q + quota)) then some 8
  else if 14208 < (journalTaken s).length + objNat s idx 0x23 1 then some 9
  else none

/-- Assign one queue pair to partition p with its home: the ASN starts at 0 (08 R247, 02 R42), and no reset makes the page wait
for its doorbells (R49). DESIGN CHOICE: completions that waited for the interrupt are forgotten without a message, and IRQ_MASK keeps
its value (log 79). -/
def assignQp (p allow : Nat) (s : State) (x : Nat × Nat) : State :=
  modQp s x.1 (fun c => { c with assigned := true, en := false, partition := p, home := x.2, allowance := allow
                                 tail := 0, cqHead := 0, wm := 0, next := 0, w := 0, flushed := 0, replayTop := 0
                                 replaying := false, headWait := false, tailWritten := true, headWritten := true
                                 fetching := 0, paused := false, pendCount := 0
                                 slotsA := if s.journal.devA then [(0, s.journal.batch)] else c.slotsA
                                 slotsB := if s.journal.devB then [(0, s.journal.batch)] else c.slotsB })

/-- CREATE that passes its checks (08 R247). -/
def createPart (s : State) (p : Nat) (homes : List Nat) : State :=
  let idx := 0x4000 + p
  let n := objNat s idx 0x10 1
  let qps := lowestFreeN (qpsTaken s) 16384 n 0 ((qpsTaken s).length + n)
  let ext := lowestFreeN (extentsTaken s) 8192 (objNat s idx 0x20 1) 2 8192
  let jex := lowestFreeN (journalTaken s) 14208 (objNat s idx 0x23 1) 0 14208
  let quota := objNat s idx 0x22 64
  let s1 := (qps.zip homes).foldl (assignQp p (objNat s idx 0x12 256)) s
  let s2 := modPart (pushBounds s1 p) p (fun x =>
    { x with created := true, admin := 1, incarnation := x.incarnation + 1, qps := qps, extents := ext,
             journalExtents := jex, quota := homes.foldl (fun t q => tblSet t q quota) [],
             oper := homes.foldl (fun t q => tblSet t q 1) [], reason := 0, outcome := 1, scripts := [],
             versions := [], recordsUsed := 0, recordsReserved := 0, logTail := 0 })
  record s2 0x4003 5 p (leBytes 1 1 ++ leBytes 4 (partCmdStatus (partOf s2 p)))

/-- A pending request of scope p ends with QUORUM_REFUSED (10 R341). -/
def refuseRequests (s : State) (p : Nat) : State :=
  { s with dict := { s.dict with reqs := s.dict.reqs.map (fun x =>
    if x.2.state = 1 ∧ x.2.scope = p then (x.1, { x.2 with state := 3, result := 0x000E }) else x) } }

/-- CREATE (08 R246, R247; 11 R357): PART_CMD with action 5. -/
def execCreate (path : Path) (p : Nat) (s : State) : Host.Outcome State Fault Refusal :=
  guardUnit (partOk p) p s
    (onWrite s path .wo (0x4000 + p) 0x05 (leBytes 1 5) (fun t =>
      let n := objNat t (0x4000 + p) 0x10 1
      let homes := pickHomes (quartersUp t) ((List.range 4).map (fun q => (q, qpsHomed t q))) n
      if [2, 4, 6].contains (lifeCycle t) then answer t path 0x0009 []
      else match createCheck t p homes with
        | some r => refusePartCmd t path p r
        | none => answer (createPart (refuseRequests t p) p homes) path 0 []))

/-- Erase partition p's colour in every tile (08 R260 step 2). -/
def eraseColour (s : State) (p : Nat) : State :=
  let mine (q : Nat) : Bool := (qpOf s q).partition == p && (qpOf s q).assigned
  { s with tmem := s.tmem.map (fun x => (x.1, { x.2 with
    cache := x.2.cache.filter (fun e => e.colour != p), sens := x.2.sens.filter (fun e => !(mine e.qp)) })) }

/-- The manager's and the partition's objects at an index return to their defaults. -/
def clearIndex (s : State) (idx : Nat) : State :=
  { s with dict := { s.dict with store := s.dict.store.filter (fun x => x.1 / 256 != idx) } }

/-- End every session that a test picks (10 R326); the ceremony of a component writer among them is not touched here. -/
def dropSessions (s : State) (f : Session → Bool) : State :=
  { s with fmp := { s.fmp with sessions := s.fmp.sessions.filter (fun x => !(f x)) } }

/-- Work remains on partition p's queue pairs in quarter q. -/
def workRemains (s : State) (p q : Nat) : Bool := (homedIn s p q).any (fun x => !(quiet (qpOf s x)))

/-- DRAIN_DEADLINE_EXPIRY (04 R127, R128; 08 R256, R258): the remaining work in that quarter is squashed. -/
def execDrainDeadlineExpiry (q p : Nat) (s : State) : Host.Outcome State Fault Refusal :=
  guardUnit (quarterOk q && partOk p) p s
    (match tblFind (quarterOf s q).drain p with
      | none => s
      | some t =>
        let s1 := modQuarter (advanceTo s t) q (fun x => { x with drain := tblErase x.drain p })
        if operIn s p q = 2 ∧ (quarterOf s q).failed = false ∧ workRemains s p q then
          let mark (c : PartCmd) : PartCmd := { c with deadlined := true }
          let s2 := modPart s1 p (fun x => { x with oper := tblSet x.oper q 3, cmd := x.cmd.map mark })
          settle ((homedIn s p q).foldl squashQp s2) p
        else s1)

/-- PART_DISAGREE (08 R254; 02 R53): ADMIN and the OPER of some home quarter have differed for more than 100 ms by the management
plane's ticks; it is flagged once. -/
def execPartDisagree (p : Nat) (s : State) : Host.Outcome State Fault Refusal :=
  guardUnit (partOk p) p s
    (if partDiffers s p then
      let s1 := untilDisagree s (fun u => (partOf u p).differSince)
      if (partOf s1 p).differSince.isSome ∧ (partOf s1 p).disagree = false then
        let s2 := modPart s1 p (fun x => { x with disagree := true, disagreeCount := (x.disagreeCount + 1) % 2 ^ 32 })
        record (raiseModule (raiseIsr s2 4) 0x73) 0x4002 5 p
          (leBytes 1 (partOf s1 p).admin ++ leBytes 4 (partCmdStatus (partOf s1 p)))
      else s1
    else s)

/-- The management plane's push of ADMIN = v to a home quarter that stands below it: the quarter takes the value and does what it asks
of its work (08 R254, R257; 04 R128). -/
def pushOper (s : State) (p v q : Nat) : State :=
  if v ≤ operIn s p q then s
  else
    let s1 := modPart s p (fun x => { x with oper := tblSet x.oper q v })
    if v = 3 then (homedIn s1 p q).foldl squashQp s1 else s1

/-- The management plane's tick has what the data plane sent: ADMIN takes it, every home quarter below it is brought along, and a drain
or squash that has ended reports DONE with its outcome (08 R254, R256, R257). -/
def followOper (s : State) (p : Nat) : State :=
  let v := (homesOf s p).foldl (fun m q => max m (operIn s p q)) 0
  let s1 := (homesOf s p).foldl (fun u q => pushOper u p v q) (modPart (pushBounds s p) p (fun x => { x with admin := v }))
  match (partOf s1 p).cmd with
  | none => settle s1 p
  | some c =>
    if v = 1 ∧ (c.action = 3 ∨ c.action = 4) then
      let s2 := (List.range 4).foldl (fun u q => modQuarter u q (fun x => { x with drain := tblErase x.drain p })) s1
      finishCmd s2 p c (if c.deadlined ∧ (partOf s p).lastCancelled ≠ 0 then 2 else 1)
    else settle s1 p

/-- ADMIN_FOLLOWS_OPER (08 R254, R256, R257): at the next tick of the management plane, which also sees whether the planes then agree. -/
def execAdminFollowsOper (p : Nat) (s : State) : Host.Outcome State Fault Refusal :=
  guardUnit (partOk p) p s
    (if !partDiffers s p then s
    else watchPart (followOper (tickDue s) p) p)

end Sys2Proof.Machine
end

