-- ==== Sys2Proof/Machine/HostIf.lean ====
section
/-!
DEFINITION. What the host does to the block's registers: doorbells, queue pair control, the administration window, the
mailbox and the MSI-X tables (02 R39 to R56, R66, R70, R73; 04 R122, R123, R129).
-/

namespace Sys2Proof.Machine

open Sys2Proof

/-- A doorbell write reaches its queue pair: a page that is not live counts it as stray, a width other than 32 bits
discards it (02 R39, R46). -/
def onDoorbell (s : State) (pg : DbPage) (width : Nat) (k : Nat → State) : State :=
  match pageQp s pg with
  | none => strayDoorbell s
  | some q => if width = 4 then k q else badDoorbell s q true

/-- A tail write is valid (02 R47), h the low half of the published head. -/
def tailValid (q : Qp) (v : Nat) : Bool :=
  decide (sub32 v q.wm ≤ depthOf q) && decide (sub32 (tailReg q) q.wm ≤ sub32 v q.wm)

/-- A write of HIF_DB_SQ_TAIL (02 R47, R49). -/
def writeTail (s : State) (q v : Nat) : State :=
  if tailValid (qpOf s q) v then modQp s q (fun x => { x with tail := v, tailWritten := true })
  else badDoorbell s q true

/-- The first head write after a power loss is valid (04 R122). -/
def firstHeadValid (q : Qp) (v : Nat) : Bool :=
  decide (sub32 v (sub48 q.wm (depthOf q)) ≤ 3 * depthOf q / 2)

/-- The 48-bit value of the first head write (04 R123). -/
def firstHead (q : Qp) (v : Nat) : Nat :=
  let base := sub48 q.wm (depthOf q)
  add48 base (sub32 v base)

/-- A later head write is valid (02 R48). -/
def headValid (q : Qp) (v : Nat) : Bool := decide (sub32 v (headReg q) ≤ sub32 q.w (headReg q))

/-- The first head write after a power loss gives w: replay starts from it, and a drain or squash in progress goes on
(04 R122, R123, R129). -/
def takeFirstHead (s : State) (q v : Nat) : State :=
  let w := firstHead (qpOf s q) v
  let s1 := noteTop (modQp s q (fun x => { x with cqHead := v, headWritten := true, headWait := false, w := w, next := w,
                                                  flushed := w, replaying := true })) q
  let s2 := settleReplay s1 q
  settle (resumeCmd (replayCheck s2) q) (qpOf s q).partition

/-- A write of HIF_DB_CQ_HEAD (02 R48, R49; 04 R122). -/
def writeHead (s : State) (q v : Nat) : State :=
  if (qpOf s q).headWait then
    if firstHeadValid (qpOf s q) v then takeFirstHead s q v else badDoorbell s q true
  else if headValid (qpOf s q) v then modQp s q (fun x => { x with cqHead := v, headWritten := true })
  else badDoorbell s q true

/-- A write of HIF_DB_IRQ_CTL: clearing the mask with completions pending sends one message (02 R73). -/
def writeIrqCtl (s : State) (q : Nat) (v : Word) : State :=
  let was := (qpOf s q).irqMask
  let t := modQp s q (fun x => { x with irqMask := v.getLsbD 0 })
  if was && !v.getLsbD 0 && decide ((qpOf s q).pendCount ≠ 0) then sendQpMsix t q else t

/-- HIF_DB_SQ_TAIL (02 R39, R46, R47, R49). -/
def execHifDbSqTail (pg : DbPage) (width : Nat) (v : Word) (s : State) : Host.Outcome State Fault Refusal :=
  guardUnit (pageOk pg) 0 s (onDoorbell s pg width (fun q => writeTail s q v.toNat))

/-- HIF_DB_CQ_HEAD (02 R39, R46, R48, R49; 04 R122, R123, R129). -/
def execHifDbCqHead (pg : DbPage) (width : Nat) (v : Word) (s : State) : Host.Outcome State Fault Refusal :=
  guardUnit (pageOk pg) 0 s (onDoorbell s pg width (fun q => writeHead s q v.toNat))

/-- HIF_DB_IRQ_CTL (02 R46, R73). -/
def execHifDbIrqCtl (pg : DbPage) (width : Nat) (v : Word) (s : State) : Host.Outcome State Fault Refusal :=
  guardUnit (pageOk pg) 0 s (onDoorbell s pg width (fun q => writeIrqCtl s q v))

/-- Another queue pair that is enabled and satisfies f. -/
def otherEnabled (s : State) (q : Nat) (f : Qp → Bool) : Bool := s.qps.any (fun x => x.1 != q && x.2.en && f x.2)

/-- A write that sets EN = 1 is refused (02 R51). -/
def enRefused (s : State) (q : Nat) : Bool :=
  let c := qpOf s q
  !c.assigned || decide (c.depthLog2 < 6 ∨ 16 < c.depthLog2) ||
    (c.func != 0 && otherEnabled s q (fun x => x.func == c.func && x.vfPage == c.vfPage)) ||
    (c.func != 0 && otherEnabled s q (fun x => x.func == c.func && x.partition != c.partition)) ||
    (c.func == 0 && decide (c.vector ≤ 1)) || (c.func != 0 && decide (63 < c.vector))

/-- The W1C bits of HIF_QP_CTL clear; with CPL_ERR the entry's write is issued again, and its address may fail translation again
(02 R50, R66). -/
def clearQpErrs (s : State) (q : Nat) (fetch db cfg cpl translated : Bool) : State :=
  let had := (qpOf s q).cplErr && cpl
  let t := modQp s q (fun x => { x with fetchErr := x.fetchErr && !fetch, dbErr := x.dbErr && !db,
                                        cfgErr := x.cfgErr && !cfg, cplErr := x.cplErr && !cpl })
  if had then releaseNext t q translated none else t

/-- Error bits of HIF_QP_CTL that hardware sets in the cycle of a write: they read 1 afterwards, whatever it clears (00 R12; 02 R50). -/
def setQpErrs (s : State) (q hw : Nat) : State :=
  if bits hw 4 1 = 0 then s
  else raiseIsr (modQp s q (fun x => { x with fetchErr := x.fetchErr || bit hw 1, dbErr := x.dbErr || bit hw 2,
                                              cfgErr := x.cfgErr || bit hw 3, cplErr := x.cplErr || bit hw 4 })) 6

/-- A write of HIF_QP_CTL.EN (02 R51). -/
def writeEn (s : State) (q : Nat) (en : Bool) : State :=
  if !en then modQp s q (fun x => { x with en := false })
  else if (qpOf s q).en then s
  else if enRefused s q then raiseIsr (modQp s q (fun x => { x with cfgErr := true })) 6
  else modQp s q (fun x => { x with en := true })

/-- A write of HIF_QP_CTL in whose cycle hardware sets the bits hw; its CPL_ERR bit is the failure of the write issued again (00 R12;
02 R50, R66). -/
def writeQpCtl (s : State) (q : Nat) (v : Word) (hw : Nat) : State :=
  setQpErrs (writeEn (clearQpErrs s q (v.getLsbD 1) (v.getLsbD 2) (v.getLsbD 3) (v.getLsbD 4) (!bit hw 4)) q (v.getLsbD 0)) q hw

/-- HIF_QP_CTL_EN (02 R50, R51): a write of HIF_QP_CTL; hw holds the error bits that hardware sets in its cycle. -/
def execHifQpCtlEn (qp : Nat) (v : Word) (hw : Nat) (s : State) : Host.Outcome State Fault Refusal :=
  guardUnit (qpOk qp) qp s (writeQpCtl s qp v hw)

/-- CPL_ERR_CLEAR (02 R66): CPL_ERR is cleared by a write of HIF_QP_CTL that leaves EN and the other bits as they are; translated tells
whether the address of the entry issued again translates now. -/
def execCplErrClear (qp : Nat) (translated : Bool) (s : State) : Host.Outcome State Fault Refusal :=
  guardUnit (qpOk qp) qp s (clearQpErrs s qp false false false true translated)

/-- SUBMIT (02 R56): discarded with SEQ_ERR while BUSY or with LEN outside 1 to 2,048; else BUSY sets and the open
firmware's source MBX_REQ is raised (09 R316). -/
def mbxSubmit (s : State) : State :=
  let m := s.hif.mbx
  if m.busy ∨ m.reqLen = 0 ∨ 2048 < m.reqLen then modHif s (fun h => { h with mbx := { h.mbx with seqErr := true } })
  else raiseModule (modHif s (fun h => { h with mbx := { h.mbx with busy := true, applied := false } })) 0x70

/-- A waiting KEY_OP_ACTION or MOD_KEY_OP_ACTION of a path is withdrawn (07 R243). -/
def withdrawKeyOps (s : State) (path : Path) : State :=
  modVault s (fun v => { v with waiting := v.waiting.filter (fun o => o.path != some path) })

/-- The pieces and snapshots of a path are discarded (10 R332). -/
def dropXfers (s : State) (path : Path) : State :=
  { s with dict := { s.dict with xfers := s.dict.xfers.filter (fun x => x.path != path) } }

/-- A write that this path started is running and has taken effect (07 R243 item 4). -/
def runningOf (s : State) (path : Path) : Bool :=
  match s.vault.op with
  | some o => o.path == some path
  | none => false

/-- ABORT (02 R56): a request in progress ends with CANCELLED, or with its own result where it has taken effect; a read's
snapshot is discarded. -/
def mbxAbort (s : State) : State :=
  if !s.hif.mbx.busy then s
  else if s.hif.mbx.applied ∨ runningOf s .tunnel then
    let free (o : KeyOp) : KeyOp := if o.path = some .tunnel then { o with path := none } else o
    answer (modVault s (fun v => { v with op := v.op.map free })) .tunnel 0x0000 []
  else answer (withdrawKeyOps (dropXfers s .tunnel) .tunnel) .tunnel 0x0013 []

/-- MBX_SUBMIT (02 R56; 10 R335). The request's own row, on the tunnel's path, is its serving. -/
def execMbxSubmit (s : State) : Host.Outcome State Fault Refusal := done s (mbxSubmit s)

/-- MBX_ABORT (02 R56). -/
def execMbxAbort (s : State) : Host.Outcome State Fault Refusal := done s (mbxAbort s)

/-- Fields of access RW* take a write only now: HIF_DB_SQ_HEAD reads as HIF_DB_NEXT_ASN (02 R50). -/
def ctxWritable (q : Qp) : Bool := !q.en && q.wm == nextAsnReg q

/-- A 32-bit write to word k of a queue pair's context, with the error bits that hardware sets in its cycle (02 R50; 00 R12). -/
def writeCtx (s : State) (q k : Nat) (v : Word) (hw : Nat) : State :=
  let star (f : Qp → Qp) : State := if ctxWritable (qpOf s q) then modQp s q f else s
  let n := v.toNat
  if k = 0 then star (fun x => { x with sqBase := x.sqBase / 2 ^ 32 * 2 ^ 32 + n / 4096 * 4096 })
  else if k = 1 then star (fun x => { x with sqBase := n * 2 ^ 32 + x.sqBase % 2 ^ 32 })
  else if k = 2 then star (fun x => { x with cqBase := x.cqBase / 2 ^ 32 * 2 ^ 32 + n / 4096 * 4096 })
  else if k = 3 then star (fun x => { x with cqBase := n * 2 ^ 32 + x.cqBase % 2 ^ 32 })
  else if k = 4 then star (fun x => { x with depthLog2 := bits n 4 0, func := bits n 15 8, vfPage := bits n 21 16,
                                             pasidEn := bit n 22 })
  else if k = 5 then star (fun x => { x with pasid := bits n 19 0 })
  else if k = 6 then modQp s q (fun x => { x with vector := bits n 10 0, coalCount := bits n 23 16,
                                                  coalTime := bits n 31 24 })
  else writeQpCtl s q v hw

/-- A 32-bit write to the administration window (02 R40, R53, R56). Read-only and reserved words take no write. DESIGN CHOICE:
one write of HIF_MBX_CTL with SUBMIT and ABORT both 1 submits first and then aborts that request (log 79). hw holds the error bits
of HIF_QP_CTL that hardware sets in the cycle (00 R12). -/
def writeBar2 (s : State) (off : Nat) (v : Word) (hw : Nat) : State :=
  let n := v.toNat
  if off = 0x008 then modHif s (fun h => { h with fetchEn := bit n 0, atsUse := bit n 1 })
  else if off = 0x020 then modHif s (fun h => { h with isr := h.isr &&& ~~~(v.truncate 8) })
  else if off = 0x024 then modHif s (fun h => { h with ier := v.truncate 8 })
  else if off = 0x040 then pcmdWrite s (bits n 11 0) (bits n 15 12) (bits n 31 16)
  else if off = 0x044 then
    modHif s (fun h => { h with pcmdDone := h.pcmdDone && !bit n 1, pcmdRefused := h.pcmdRefused && !bit n 2,
                                pcmdOverrun := h.pcmdOverrun && !bit n 3 })
  else if off = 0x1000 then
    let t := if bit n 0 then mbxSubmit s else s
    if bit n 1 then mbxAbort t else t
  else if off = 0x1004 then modHif s (fun h => { h with mbx := { h.mbx with reqLen := bits n 11 0 } })
  else if off = 0x1008 then
    modHif s (fun h => { h with mbx := { h.mbx with done := h.mbx.done && !bit n 1, seqErr := h.mbx.seqErr && !bit n 2 } })
  else if 0x80000 ≤ off ∧ off < 0x100000 then writeCtx s ((off - 0x80000) / 32) ((off - 0x80000) % 32 / 4) v hw
  else s

/-- A write of any width and alignment to the mailbox request buffer (02 R40): bytes within it are stored. -/
def writeMbxBuf (s : State) (off width v : Nat) : State :=
  let bs := (leBytes width v).take (0x2800 - off)
  modHif s (fun h => { h with mbx := { h.mbx with reqBuf := Memory.write h.mbx.reqBuf (off - 0x2000) bs } })

/-- MSI-X entries of a function (02 R39). -/
def msixSize (func : Nat) : Nat := if func = 0 then 2048 else 64

/-- A 32-bit write to an MSI-X table (02 R39, R70): a pending vector that is unmasked sends its message. -/
def writeMsix (s : State) (func off : Nat) (v : Word) : State :=
  let i := off / 16
  let e := tblGet { addr := 0, data := 0, masked := true, pending := false } s.hif.msix (func * 2048 + i)
  let put (x : MsixEntry) : State := modHif s (fun h => { h with msix := tblSet h.msix (func * 2048 + i) x })
  if msixSize func ≤ i then s
  else if off % 16 = 0 then put { e with addr := e.addr &&& 0xFFFFFFFF00000000#64 ||| v.zeroExtend 64 }
  else if off % 16 = 4 then put { e with addr := e.addr &&& 0x00000000FFFFFFFF#64 ||| (v.zeroExtend 64 <<< 32) }
  else if off % 16 = 8 then put { e with data := v }
  else
    let m := v.getLsbD 0
    if !m && e.pending then send (put { e with masked := m, pending := false }) (.msix func i)
    else put { e with masked := m }

/-- A write through a doorbell page: only the three writable registers take it (02 R46). -/
def writePage (s : State) (pg : DbPage) (off width : Nat) (v : Word) : State :=
  onDoorbell s pg (if off % 4 = 0 then width else 0) (fun q =>
    if off = 0 then writeTail s q v.toNat
    else if off = 4 then writeHead s q v.toNat
    else if off = 0x1C then writeIrqCtl s q v
    else s)

/-- W1C bits of the administration window that hardware sets in the cycle of a write: they read 1 afterwards (00 R12). -/
def hwSets (s : State) (off hw : Nat) : State :=
  if off = 0x020 then (List.range 8).foldl (fun u i => if bit hw i then raiseIsr u i else u) s
  else if off = 0x044 then
    modHif s (fun h => { h with pcmdDone := h.pcmdDone || bit hw 1, pcmdRefused := h.pcmdRefused || bit hw 2,
                                pcmdOverrun := h.pcmdOverrun || bit hw 3 })
  else if off = 0x1008 then
    modHif s (fun h => { h with mbx := { h.mbx with done := h.mbx.done || bit hw 1, seqErr := h.mbx.seqErr || bit hw 2 } })
  else s

/-- A write to a field of a function's configuration space that the host programs (02 R33, R37, R38; NumVFs: 10 R351): the sizes as PCI
Express encodes them, 128 bytes by 2 to the value; a payload beyond the 512 bytes supported is taken as 512, and a read request size
beyond 4,096 as 4,096. The sizes are PF0's, for the VFs too (log 79). -/
def writeConfig (s : State) (func : Nat) (r : CfgReg) (v : Nat) : State :=
  match r with
  | .maxPayload => if func = 0 then modHif s (fun h => { h with maxPayload := min 512 (128 * 2 ^ (v % 8)) }) else s
  | .maxReadRequest => if func = 0 then modHif s (fun h => { h with maxRead := min 4096 (128 * 2 ^ (v % 8)) }) else s
  | .busMaster => if func = 0 then s else modHif s (fun h => { h with bme := tblSet h.bme func (bit v 0) })
  | .atsEnable => modHif s (fun h => { h with ats := tblSet h.ats func (bit v 0) })
  | .numVfs => if func = 0 then modHif s (fun h => { h with numVfs := min 255 v }) else s
  | _ => s

/-- An aligned 64-bit write is two 32-bit writes, low word first (02 R40). -/
def writeWords (f : State → Nat → Word → State) (s : State) (off width : Nat) (v : BitVec 64) : State :=
  if width = 4 ∧ off % 4 = 0 then f s off (v.truncate 32)
  else if width = 8 ∧ off % 8 = 0 then f (f s off (v.truncate 32)) (off + 4) ((v >>> 32).truncate 32)
  else s

/-- The register window of an address exists: the functions' BARs of 02 R39. -/
def addrOk (a : RegAddr) : Bool :=
  match a with
  | .bar0 pg off => pageOk pg && decide (off < 4096)
  | .bar2 off => decide (off < 2 ^ 20)
  | .bar4 func off => decide (func ≤ 255 ∧ off < (if func = 0 then 65536 else 16384))
  | .config func _ => decide (func ≤ 255)

/-- REGISTER_WRITE (02 R33, R37 to R40, R46, R50, R53, R56, R70; 00 R10 to R12): hw holds the W1C bits that hardware sets in that
cycle. -/
def execRegisterWrite (a : RegAddr) (width : Nat) (v : BitVec 64) (hw : Nat) (s : State) : Host.Outcome State Fault Refusal :=
  guardUnit (addrOk a) 0 s
    (match a with
      | .bar0 pg off => writePage s pg off width (v.truncate 32)
      | .bar2 off =>
        if 0x2000 ≤ off ∧ off < 0x2800 then writeMbxBuf s off (min width 8) v.toNat
        else writeWords (fun t o w => hwSets (writeBar2 t o w hw) o hw) s off width v
      | .bar4 func off => writeWords (fun t o w => writeMsix t func o w) s off width v
      | .config func r => writeConfig s func r v.toNat)

end Sys2Proof.Machine
end

