-- ==== Sys2Proof/Machine/HostRead.lean ====
section
/-!
DEFINITION. Register reads: the words of every host window as 02 R33, R39, R40, R46, R50, R53, R54, R56 and R70 lay them out, the
configuration space, and the reads that clear RC fields (00 R10 to R12; 03 R101; 06 R194, R209).
-/

namespace Sys2Proof.Machine

open Sys2Proof

/-- The word of HIF_DB_STS (02 R46). -/
def dbSts (s : State) (qp : Nat) : Nat :=
  let q := qpOf s qp
  b2n q.en + 2 * b2n q.fetchErr + 4 * b2n q.dbErr + 8 * b2n (cqFull s qp) + 16 * effectiveIn s q.partition q.home +
    128 * b2n q.replaying + 256 * b2n q.cplErr

/-- The 32-bit word at an offset of the doorbell page of queue pair qp (02 R46). -/
def pageWord (s : State) (qp off : Nat) : Nat :=
  let q := qpOf s qp
  if off = 0x00 then tailReg q
  else if off = 0x04 then headReg q
  else if off = 0x08 then q.wm % 2 ^ 32
  else if off = 0x0C then q.wm / 2 ^ 32
  else if off = 0x10 then nextAsnReg q % 2 ^ 32
  else if off = 0x14 then nextAsnReg q / 2 ^ 32
  else if off = 0x18 then dbSts s qp
  else if off = 0x1C then b2n q.irqMask
  else if off = 0x20 then q.badDb + 65536 * q.badFetch
  else 0

/-- The 32-bit word k of a queue pair's context (02 R50). -/
def ctxWord (q : Qp) (k : Nat) : Nat :=
  if k = 0 then q.sqBase % 2 ^ 32
  else if k = 1 then q.sqBase / 2 ^ 32
  else if k = 2 then q.cqBase % 2 ^ 32
  else if k = 3 then q.cqBase / 2 ^ 32
  else if k = 4 then q.depthLog2 + 256 * q.func + 65536 * q.vfPage + 2 ^ 22 * b2n q.pasidEn
  else if k = 5 then q.pasid
  else if k = 6 then q.vector + 65536 * q.coalCount + 2 ^ 24 * q.coalTime
  else b2n q.en + 2 * b2n q.fetchErr + 4 * b2n q.dbErr + 8 * b2n q.cfgErr + 16 * b2n q.cplErr + 65536 * q.partition +
    2 ^ 28 * b2n q.assigned + 2 ^ 29 * q.home

/-- A state field of the partition status table: 7 while the partition is not created (02 R54). -/
def stateCode (p : Part) (v : Nat) : Nat := if p.created then v else 7

/-- The 32-bit word k of a partition's status entry (02 R54). -/
def partWord (s : State) (p k : Nat) : Nat :=
  let x := partOf s p
  if k = 0 then stateCode x x.admin + 16 * stateCode x (operOf s p) + 256 * stateCode x (effectiveOf s p) + 2048 * b2n x.disagree
  else if k = 1 then (if x.created then x.qps.length else 0)
  else if k = 2 then (if x.created then inflightOf s p else 0)
  else 0

/-- HIF_ADM_QPERR (02 R53): the lowest queue pair with an error bit set. -/
def qpErrWord (s : State) : Nat :=
  match s.qps.find? (fun x => x.2.fetchErr || x.2.dbErr || x.2.cfgErr || x.2.cplErr) with
  | some x => x.1 + 2 ^ 31
  | none => 0

/-- HIF_GLOBAL_STS (02 R53). -/
def globalSts (s : State) : Nat :=
  b2n s.hif.dpOpen + 2 * b2n s.tamper.halt + 4 * s.power.gate + 16 * lifeCycle s + 256 * b2n s.hif.replayActive

/-- The 32-bit word at an offset of the administration window (02 R40, R53, R54, R56). W1S bits clear themselves and read 0. -/
def bar2Word (s : State) (off : Nat) : Nat :=
  let h := s.hif
  if off = 0x000 then 0x5134 + 65536 * 0x10 + 2 ^ 24
  else if off = 0x004 then linkSts s
  else if off = 0x008 then b2n h.fetchEn + 2 * b2n h.atsUse
  else if off = 0x00C then globalSts s
  else if off = 0x020 then h.isr.toNat
  else if off = 0x024 then h.ier.toNat
  else if off = 0x028 then qpErrWord s
  else if off = 0x02C then h.strayDb
  else if off = 0x040 then h.pcmdWord.toNat
  else if off = 0x044 then
    b2n h.pcmdBusy + 2 * b2n h.pcmdDone + 4 * b2n h.pcmdRefused + 8 * b2n h.pcmdOverrun + 256 * h.pcmdReason + 65536 * h.pcmdPart
  else if off = 0x1004 then h.mbx.reqLen
  else if off = 0x1008 then b2n h.mbx.busy + 2 * b2n h.mbx.done + 4 * b2n h.mbx.seqErr + 65536 * h.mbx.result
  else if off = 0x100C then h.mbx.rspLen
  else if 0x2000 ≤ off ∧ off < 0x2800 then leNat (Memory.read h.mbx.reqBuf (off - 0x2000) 4)
  else if 0x3000 ≤ off ∧ off < 0x3800 then field h.mbx.rspBuf (off - 0x3000) 4
  else if 0x40000 ≤ off ∧ off < 0x50000 then partWord s ((off - 0x40000) / 16) ((off - 0x40000) % 16 / 4)
  else if 0x80000 ≤ off ∧ off < 0x100000 then ctxWord (qpOf s ((off - 0x80000) / 32)) ((off - 0x80000) % 32 / 4)
  else 0

/-- An MSI-X table entry as it stands; one never written is masked (02 R70). -/
def msixOf (s : State) (func i : Nat) : MsixEntry :=
  tblGet { addr := 0, data := 0, masked := true, pending := false } s.hif.msix (func * 2048 + i)

/-- 32 pending bits of a function's vectors from vector i on. -/
def pbaWord (s : State) (func i : Nat) : Nat :=
  ((List.range 32).map (fun j => if i + j < msixSize func ∧ (msixOf s func (i + j)).pending then 2 ^ j else 0)).sum

/-- Where the pending bit array of a function starts (02 R39). -/
def pbaBase (func : Nat) : Nat := if func = 0 then 0x8000 else 0x2000

/-- The 32-bit word at an offset of a function's BAR4: the MSI-X table, then the pending bits (02 R39, R70). -/
def bar4Word (s : State) (func off : Nat) : Nat :=
  let e := msixOf s func (off / 16)
  if off / 16 < msixSize func then
    if off % 16 = 0 then e.addr.toNat % 2 ^ 32
    else if off % 16 = 4 then e.addr.toNat / 2 ^ 32
    else if off % 16 = 8 then e.data.toNat
    else b2n e.masked
  else if pbaBase func ≤ off ∧ off < pbaBase func + msixSize func / 8 then pbaWord s func ((off - pbaBase func) * 8)
  else 0

/-- The encoding of a size in bytes as PCI Express programs it: 128 bytes by 2 to the value. -/
def sizeCode (n : Nat) : Nat := Nat.log2 (n / 128)

/-- A field of a function's configuration space (02 R2, R33, R34, R37, R38). The vendor ID's value is not in the spec. -/
def configValue (s : State) (func : Nat) (r : CfgReg) : Nat :=
  match r with
  | .vendorId => Config.vendorId % 65536
  | .deviceId => if func = 0 then 0x5134 else 0x5135
  | .revisionId => 0x10
  | .classCode => 0x108000
  | .maxPayloadSupported => sizeCode 512
  | .maxPayload => sizeCode s.hif.maxPayload
  | .maxReadRequest => sizeCode s.hif.maxRead
  | .tagBits => 10
  | .busMaster => b2n (func == 0 || tblGet false s.hif.bme func)
  | .atsEnable => b2n (tblGet false s.hif.ats func)
  | .totalVfs => if func = 0 then 255 else 0
  | .vfStride => if func = 0 then 1 else 0
  | .firstVfOffset => if func = 0 then 1 else 0
  | .numVfs => if func = 0 then s.hif.numVfs else 0
  | .capability c => b2n (match c with
    | .pri => false
    | .sriov => func == 0
    | _ => true)

/-- The routing ID of a function under ARI, from PF0's (02 R34): what a request's requester ID holds (R35). -/
def routingId (pf0 func : Nat) : Nat := pf0 + func

/-- The 32-bit word at an aligned offset of a host window; a page that is not live reads zero (02 R39, R40). -/
def hostWord (s : State) (a : RegAddr) : Nat :=
  match a with
  | .bar0 pg off => (match pageQp s pg with
    | some q => pageWord s q off
    | none => 0)
  | .bar2 off => bar2Word s off
  | .bar4 func off => bar4Word s func off
  | .config func r => configValue s func r

/-- The window's address n bytes on. -/
def addrPlus (a : RegAddr) (n : Nat) : RegAddr :=
  match a with
  | .bar0 pg off => .bar0 pg (off + n)
  | .bar2 off => .bar2 (off + n)
  | .bar4 func off => .bar4 func (off + n)
  | .config func r => .config func r

/-- A read that returns the addressed bytes: 32 or 64 bits wide and aligned (02 R40; for the other windows log 79). -/
def readAligned (a : RegAddr) (width : Nat) : Bool :=
  match a with
  | .bar0 _ off => (width == 4 && off % 4 == 0) || (width == 8 && off % 8 == 0)
  | .bar2 off => (width == 4 && off % 4 == 0) || (width == 8 && off % 8 == 0)
  | .bar4 _ off => (width == 4 && off % 4 == 0) || (width == 8 && off % 8 == 0)
  | .config _ _ => true

/-- What a read of a host window returns: any read but an aligned one of 32 or 64 bits returns zero (02 R40). -/
def hostValue (s : State) (a : RegAddr) (width : Nat) : List Byte :=
  if !readAligned a width then zeros width
  else if width = 8 then leBytes 4 (hostWord s a) ++ leBytes 4 (hostWord s (addrPlus a 4))
  else leBytes width (hostWord s a)

/-- The RC fields of a word clear; events that hardware counts in that cycle stay: hw in the lower field, hw2 in the upper one
(00 R11, R12; 02 R46, R53). -/
def clearWord (s : State) (hw hw2 : Nat) (a : RegAddr) : State :=
  match a with
  | .bar2 off =>
    if off = 0x02C then
      modHif s (fun h => { h with strayDb := sat (2 ^ 32 - 1) hw, strayTotal := (h.strayTotal + hw) % 2 ^ 32 })
    else s
  | .bar0 pg off =>
    (match pageQp s pg with
      | some q => if off = 0x20 then modQp s q (fun x => { x with badDb := sat 0xFFFF hw, badFetch := sat 0xFFFF hw2 }) else s
      | none => s)
  | _ => s

/-- A read of a host window and what it clears. -/
def readHost (s : State) (a : RegAddr) (width hw hw2 : Nat) : State :=
  let t := send s (.value (hostValue s a width))
  if !readAligned a width then t
  else if width = 8 then clearWord (clearWord t hw hw2 a) hw hw2 (addrPlus a 4)
  else clearWord t hw hw2 a

/-- TILE_PAIR_STS of tile t (03 R101). -/
def tilePairSts (s : State) (t : Nat) : Nat :=
  let x := tileOf s t
  b2n x.quar0 + 2 * b2n x.quar1 + 4 * b2n x.fenced + 8 * x.fenceCause + 256 * x.mism0 + 65536 * x.mism1

/-- PKE core k of a tile. -/
def Tile.pkeCore (x : Tile) (k : Nat) : PkeCore := if k = 0 then x.pke0 else x.pke1

/-- PKE_CORE_STS of core k of tile t (06 R209). -/
def pkeCoreSts (s : State) (t k : Nat) : Nat :=
  let c := (tileOf s t).pkeCore k
  b2n c.busy + 2 * b2n c.loaded + 256 * c.lastFault + 65536 * c.checkErr + 16777216 * c.faultCount

/-- SVC_LOCK (06 R194). -/
def svcLockWord (s : State) : Nat :=
  s.svc.owner % 4 + 4 * b2n s.svc.held + 8 * b2n s.svc.forced + 16 * s.svc.req.toNat

/-- The unit that a read names is the module's. -/
def rcOk (r : RcReg) : Bool :=
  match r with
  | .host a _ => addrOk a
  | .svcLock core => mgmtOk core
  | .tilePairSts t => tileOk t
  | .pkeCoreSts t k => tileOk t && decide (k < 2)

/-- A register read: its value, then its RC fields clear, but for the events that hardware counts in that cycle: hw in the
first RC field, hw2 in the second (00 R11, R12). -/
def readRc (s : State) (r : RcReg) (hw hw2 : Nat) : State :=
  match r with
  | .host a width => readHost s a width hw hw2
  | .svcLock _ =>
    let t := send s (.value (leBytes 4 (svcLockWord s)))
    { t with svc := { t.svc with forced := decide (0 < hw) } }
  | .tilePairSts n =>
    let t := send s (.value (leBytes 4 (tilePairSts s n)))
    modTile t n (fun x => { x with mism0 := sat 255 hw, mism1 := sat 255 hw2 })
  | .pkeCoreSts n k =>
    let t := send s (.value (leBytes 4 (pkeCoreSts s n k)))
    modPke t n k (fun c => { c with checkErr := sat 255 hw, faultCount := sat 255 hw2 })

/-- RC_REGISTER_READ (00 R10 to R12; 02 R33, R34, R39, R40, R46, R50, R53, R54, R56; 03 R101; 06 R194, R209). -/
def execRcRegisterRead (r : RcReg) (hw hw2 : Nat) (s : State) : Host.Outcome State Fault Refusal :=
  guardUnit (rcOk r) 0 s (readRc s r hw hw2)

end Sys2Proof.Machine
end

