-- ==== Sys2Proof/Machine/Svc.lean ====
section
/-!
DEFINITION. The service engine's lock and its operations (06 R193 to R195).
-/

namespace Sys2Proof.Machine

open Sys2Proof

/-- The bit of core c in REQ. -/
def reqBit (c : Nat) : BitVec 4 := BitVec.ofNat 4 (2 ^ c)

/-- ACQUIRE by core c (06 R194). -/
def svcAcquire (c : Nat) (s : State) : State := modSvc s (fun v => { v with req := v.req ||| reqBit c })

/-- CANCEL by core c (06 R194). -/
def svcCancel (c : Nat) (s : State) : State := modSvc s (fun v => { v with req := v.req &&& ~~~(reqBit c) })

/-- RELEASE by core c: ignored unless it is OWNER; the last release was then not forced (06 R194; log 25). -/
def svcRelease (c : Nat) (s : State) : State :=
  if s.svc.held ∧ s.svc.owner = c then modSvc s (fun v => { v with held := false, op := none, forced := false }) else s

/-- FORCE by core c: honoured from M0 alone, counted from another (06 R194, R195 item 6). -/
def svcForce (c : Nat) (s : State) : State :=
  if c = 0 then svcForceRelease s else modSvc s (fun v => { v with ignoredForces := v.ignoredForces + 1 })

/-- The first requesting core after the previous OWNER, in the order M0, M1, M2, M3, M0 (06 R195 item 1). -/
def svcNext (v : Svc) : Option Nat :=
  [v.owner + 1, v.owner + 2, v.owner + 3, v.owner + 4].map (· % 4) |>.find? (fun c => v.req.getLsbD c)

/-- The lock is granted where it is free and asked for (06 R195 item 1). -/
def svcGrant (s : State) : State :=
  if s.svc.held then s
  else match svcNext s.svc with
    | none => s
    | some c =>
      raiseModule (modSvc s (fun v =>
        { v with owner := c, held := true, req := v.req &&& ~~~(reqBit c), op := some { core := c, again := false, slot := none }, since := s.now })) 0x82

/-- A write of SVC_LOCK_CTL by core c (06 R194, R195): a release comes before a request, and a force with a release
leaves FORCED set. -/
def svcWriteCtl (c : Nat) (v : Word) (s : State) : State :=
  let s1 := if v.getLsbD 2 then svcForce c s else s
  let s2 := if v.getLsbD 1 then svcRelease c s1 else s1
  let s3 := if v.getLsbD 3 then svcCancel c s2 else s2
  if v.getLsbD 0 then svcAcquire c s3 else s3

/-- Core c's world has key slot n (06 R193): a slot of the other world cannot be named, an empty one has no key. -/
def svcNames (v : Svc) (c n : Nat) : Bool := (tblFind v.slots n).any (fun x => x.trusted == decide (c = 0))

/-- An operation of the owner on a key slot of its world ends at the umpire: a mismatch repeats it once, a second one ends it with
INTEGRITY (06 R193). The table has no row for its start: the owner's operations follow one another while it holds the lock. -/
def svcOperationDone (agree : Bool) (slot : Nat) (s : State) : State :=
  match s.svc.op with
  | none => s
  | some x =>
    let fin (st : Nat) (v : Svc) : Svc := { v with op := some { x with again := false, slot := none }, status := tblSet v.status x.core st }
    if !svcNames s.svc x.core slot || x.slot.any (fun n => n != slot) then s
    else if agree then raiseModule (modSvc s (fin svcDone)) 0x81
    else if x.again then raiseModule (modSvc s (fin svcIntegrity)) 0x83
    else modSvc s (fun v => { v with op := some { x with again := true, slot := some slot } })

/-- SVC_ACQUIRE (06 R194, R195). -/
def execSvcAcquire (c : Nat) (s : State) : Host.Outcome State Fault Refusal := guardUnit (mgmtOk c) c s (svcAcquire c s)
/-- SVC_RELEASE (06 R194, R195). -/
def execSvcRelease (c : Nat) (s : State) : Host.Outcome State Fault Refusal := guardUnit (mgmtOk c) c s (svcRelease c s)
/-- SVC_FORCE (06 R194, R195). -/
def execSvcForce (c : Nat) (s : State) : Host.Outcome State Fault Refusal := guardUnit (mgmtOk c) c s (svcForce c s)
/-- SVC_CANCEL (06 R194). -/
def execSvcCancel (c : Nat) (s : State) : Host.Outcome State Fault Refusal := guardUnit (mgmtOk c) c s (svcCancel c s)
/-- SVC_GRANT (06 R195 item 1). -/
def execSvcGrant (s : State) : Host.Outcome State Fault Refusal := done s (svcGrant s)

/-- SVC_LOCK_TIMEOUT (06 R195 item 7): one core has held the lock for more than 50 ms, and the trusted kernel forces the
release. -/
def execSvcLockTimeout (s : State) : Host.Outcome State Fault Refusal :=
  done s (if s.svc.held then svcForceRelease (advanceTo s (s.svc.since + 50001)) else s)

/-- SVC_OPERATION_DONE (06 R193). -/
def execSvcOperationDone (agree : Bool) (slot : Nat) (s : State) : Host.Outcome State Fault Refusal :=
  done s (svcOperationDone agree slot s)

end Sys2Proof.Machine
end

