-- ==== Sys2Proof/Machine/Identity.lean ====
section
/-!
DEFINITION. Signatures in pairs, ECDSA P-384 and ML-DSA, and the device identity keys that RS gives (07 R210, R211; 10 R324, R336; 11
R358, R371, R373).
-/

namespace Sys2Proof.Machine

open Sys2Proof

/-- ECDSA P-384 with SHA-384 over a message (log 12). -/
def verify384 (pub m sig : List Byte) : Bool := ecdsaVerify p384 pub (sha384 m) sig

/-- ML-DSA of a parameter set over a message, pure and with no context (log 12). -/
def verifyDsa (alg : Nat) (pub m sig : List Byte) : Bool :=
  dsaVerify (dsaSet alg) pub (dsaMessage none [] m) sig

/-- The signatures that a roster entry asks of a message: one for each algorithm it enrols, zeros in the other's field (10 R324, R336,
R340). -/
def entrySigsOk (entry m sigEc sigPq : List Byte) : Bool :=
  let algs := field entry 1 1
  (if bit algs 0 then verify384 (slice entry 0x18 97) m sigEc else sigEc == zeros 96) &&
    (if bit algs 1 then verifyDsa 0x59 (slice entry 0x79 1952) m sigPq else sigPq == zeros 3309)

/-- Two signatures of the ROM's keys over a message: n the ECDSA P-384 key, n + 1 the ML-DSA-87 key (11 R358, R371). -/
def romSigsOk (n : Nat) (m sigEc sigPq : List Byte) : Bool :=
  verify384 (Config.romKey n) m sigEc && verifyDsa 0x5A (Config.romKey (n + 1)) m sigPq

/-- A P-384 scalar from 48 bytes, from 1 to the order less 1: how the spec does not state (log 12). -/
def p384Scalar (seed : List Byte) : Nat := 1 + beNat (Config.pkBytes "EC scalar" [[0x41], seed]) % (p384.n - 1)

/-- A secret derived from RS under a label (07 R211). -/
def fromRs (s : State) (label : String) (n : Nat) : List Byte := kdfCmac (aesCipher (s.vault.rs.getD (zeros 32))) (ascii label) [] n

/-- The private scalar of the ECDSA P-384 identity key, from IDS_EC (07 R211). -/
def identityScalar (s : State) : Nat := p384Scalar (fromRs s "YQ4-ID-EC" 48)

/-- IDS_PQ, the seed of the ML-DSA-65 identity key (07 R211). -/
def identitySeed (s : State) : List Byte := fromRs s "YQ4-ID-PQ" 32

/-- The ECDSA P-384 identity key's signature of a message. -/
def identitySignEc (s : State) (m : List Byte) : List Byte := ecdsaSign p384 (hashAlg 1) (identityScalar s) (sha384 m) []

/-- The ML-DSA-65 identity key's signature of a message. -/
def identitySignPq (s : State) (m : List Byte) : List Byte :=
  (dsaSign (dsaSet 0x59) (identitySeed s) (dsaMessage none [] m) (zeros 32)).getD (zeros 3309)

end Sys2Proof.Machine
end

