-- ==== Sys2Proof/Machine/Draws.lean ====
section
/-!
DEFINITION. What the management DRBG serves beside RND: the REPLY of an FMP handshake and a debug challenge; both wait while it is not
instantiated or stalled (10 R324, R325; 11 R370; 13 R401, R405, R409).
-/

namespace Sys2Proof.Machine

open Sys2Proof

/-- Change the management port. -/
def modFmp (s : State) (f : Fmp → Fmp) : State := { s with fmp := f s.fmp }

/-- Change the life cycle. -/
def modLife (s : State) (f : Life → Life) : State := { s with life := f s.life }

/-- The numbers of sessions open or being set up. -/
def sidsTaken (s : State) : List Nat := s.fmp.sessions.map (fun x => x.sid) ++ s.fmp.attempts.map (fun x => x.sid)

/-- The lowest SID of 1 to 32 not taken (10 R323). -/
def freeSid (s : State) : Option Nat := ((List.range 32).map (· + 1)).find? (fun n => !(sidsTaken s).contains n)

/-- HELLO (10 R324). -/
def helloBytes (role scope index : Nat) (body : List Byte) : List Byte :=
  leBytes 1 1 ++ leBytes 1 role ++ leBytes 2 scope ++ leBytes 1 index ++ zeros 3 ++ body

/-- What a HELLO yields: the REPLY, TH2 and the session's keys (10 R324, R325). -/
structure Handshake where
  reply : List Byte
  th2   : List Byte
  keys  : List Byte

/-- Answer a HELLO with 112 random bytes: NONCE_Q, the ephemeral P-384 key and the encapsulation's randomness (10 R324, R325; log
12). -/
def handshake (s : State) (sid : Nat) (hello rnd : List Byte) : Handshake :=
  let body := hello.drop 8
  let d := p384Scalar (slice rnd 32 48)
  let (shared, ct) := kemEncaps (kemSet 0x51) (slice body 129 1184) (slice rnd 80 32)
  let head := leBytes 1 2 ++ leBytes 1 sid ++ zeros 6 ++ leBytes 8 s.ident.serial ++ rnd.take 32 ++ p384.pubOf d ++ ct
  let th1 := sha3_384 (hello ++ head)
  let sigs := identitySignEc s th1 ++ identitySignPq s th1
  let th2 := sha3_384 (th1 ++ sigs)
  let z := (ecdh p384 d (slice body 32 97)).getD (zeros 48) ++ shared
  { reply := head ++ sigs, th2 := th2, keys := hkdf384 (body.take 32 ++ rnd.take 32) z (ascii "FMP1 keys" ++ th2) 72 }

/-- Serve a HELLO (10 R324): a SID, fresh random bytes, and the REPLY. A handshake whose bytes must wait is held, within its 10 s
(13 R409); one that finds no SID or a blocked source is dropped. -/
def serveHello (s : State) (x : Hello) : State :=
  match freeSid s with
  | none => s
  | some sid =>
    match drawRandom s 4 112 with
    | .blocked => s
    | .waits => modFmp s (fun f => { f with hellos := f.hellos ++ [x] })
    | .bytes b t =>
      let h := handshake t sid (helloBytes x.role x.scope x.index x.body) b
      let a : Attempt := { node := x.node, sid := sid, role := x.role, scope := x.scope, index := x.index, since := x.since,
                           th2 := h.th2, keys := h.keys }
      fmpSend (modFmp t (fun f => { f with attempts := f.attempts ++ [a] })) 0x2 x.node h.reply

/-- The 112 bytes of a challenge (11 R370). -/
def challengeBytes (s : State) (scope : Nat) (nonce : List Byte) : List Byte :=
  ascii "YDC1" ++ leBytes 8 s.ident.serial ++ leBytes 1 (lifeCycle s) ++ leBytes 1 scope ++ zeros 2 ++
    leBytes 4 s.evr.powerCycles ++ zeros 12 ++ fit 32 nonce ++ sha3_384 ((s.fw.meas.getD 0 []) ++ (s.fw.meas.getD 1 []))

/-- Build a challenge: it replaces the one outstanding (11 R370). -/
def challenge (s : State) (scope : Nat) (nonce : List Byte) : State :=
  let b := challengeBytes s scope nonce
  modLife (setObj (setObj s 0x2010 0x01 (leBytes 1 scope)) 0x2010 0x02 b)
    (fun l => { l with challenge := some { scope := scope, digest := sha3_384 b, since := s.evr.opMs, lc := lifeCycle s } })

/-- The handshakes that wait for the management DRBG go on, and the debug requests on sessions still open (13 R401, R405, R409). -/
def serveDraws (s : State) : State :=
  let s1 := modLife (modFmp s (fun f => { f with hellos := [] })) (fun l => { l with dbgWait := [] })
  let s2 := s.fmp.hellos.foldl serveHello s1
  (s.life.dbgWait.filter (fun x => (roleOf s x.1).isSome)).foldl (fun u x =>
    match drawRandom u 4 32 with
    | .bytes b t => answer (challenge t x.2 b) x.1 0 []
    | _ => u) s2

/-- The source fails: a waiting handshake ends, and a waiting debug request is answered INVALID_STATE (13 R403, R409). -/
def failDraws (s : State) : State :=
  let s1 := modLife (modFmp s (fun f => { f with hellos := [] })) (fun l => { l with dbgWait := [] })
  (s.life.dbgWait.filter (fun x => (roleOf s x.1).isSome)).foldl (fun u x => answer u x.1 0x0009 []) s1

end Sys2Proof.Machine
end

