-- ==== Sys2Proof/Machine/Journal.lean ====
section
/-!
DEFINITION. The journal controller: watermark batches, commit units, the partitions' shares, and the failure of its
devices (04 R112 to R119, R129; 06 R186; 07 R227, R229).
-/

namespace Sys2Proof.Machine

open Sys2Proof

/-- Records of the journal that a result takes: its head and its continuation records (04 R116). -/
def recordsOf (r : JRec) : Nat := 1 + cdiv r.cpl.out.length 112

/-- Records of a partition's share, 128 to an extent (04 R115). -/
def shareSize (s : State) (p : Nat) : Nat := 128 * (partOf s p).journalExtents.length

/-- The head of partition p's circular log: the place of its oldest record, or the tail where it holds none (04 R115, R118). -/
def logHead (s : State) (p : Nat) : Nat :=
  match s.journal.records.find? (fun r => r.state != 0 && (qpOf s r.qp).partition == p) with
  | some r => r.pos
  | none => (partOf s p).logTail

/-- Records of partition p's circular log from its head to its tail: a record that is reclaimed behind an older one is used until that
one is reclaimed too (04 R118). -/
def logUsed (s : State) (p : Nat) : Nat :=
  let n := shareSize s p
  let d := ((partOf s p).logTail + n - logHead s p) % max 1 n
  if d ≠ 0 then d
  else if s.journal.records.any (fun r => r.state != 0 && (qpOf s r.qp).partition == p) then n
  else 0

/-- Records of a partition's share that are neither used nor reserved (04 R118). -/
def shareRoom (s : State) (p : Nat) : Nat :=
  shareSize s p - ((partOf s p).recordsUsed + (partOf s p).recordsReserved)

/-- Reserve n records of partition p's share (04 R118). -/
def reserveRecords (s : State) (p n : Nat) : Option State :=
  if n ≤ shareRoom s p then some (modPart s p (fun x => { x with recordsReserved := x.recordsReserved + n })) else none

/-- A working journal device exists (04 R119). -/
def journalUp (s : State) : Bool := s.journal.devA || s.journal.devB

/-- The committed watermark of a queue pair has passed an ASN. -/
def passed (q : Qp) (asn : Nat) : Bool := decide (0 < sub48 q.wm asn ∧ sub48 q.wm asn < 2 ^ 47)

/-- STATE as it is written to both devices: a failed one keeps what it holds (04 R117, R119). -/
def JRec.write (j : Journal) (r : JRec) (st : Nat) : JRec :=
  { r with state := st, stA := if j.devA then st else r.stA, stB := if j.devB then st else r.stB }

/-- A device holds something of a record. -/
def JRec.held (r : JRec) : Bool := r.state != 0 || r.stA != 0 || r.stB != 0

/-- Every partition's log gives up the records before its head. -/
def settleLogs (s : State) : State := { s with parts := s.parts.map (fun x => (x.1, { x.2 with recordsUsed := logUsed s x.1 })) }

/-- Records that a committed watermark has passed are reclaimed (04 R118): free on every working device. -/
def reclaim (s : State) : State :=
  let old (r : JRec) : Bool := r.state != 0 && passed (qpOf s r.qp) r.asn
  settleLogs (modJournal s (fun j =>
    { j with records := (j.records.map (fun r => if old r then r.write j 0 else r)).filter JRec.held }))

/-- A watermark slot pair, A then B, takes a watermark of batch n: the slots are written alternately, A first (04 R115). -/
def putSlot (l : List (Nat × Nat)) (wm n : Nat) : List (Nat × Nat) :=
  match l with
  | [] => [(wm, n)]
  | [a] => [a, (wm, n)]
  | a :: b :: _ => if a.2 < b.2 then [(wm, n), b] else [a, (wm, n)]

/-- A queue pair's watermark takes the completions whose flushing read has returned; its slots are written alternately on every
working device (04 R112, R113, R115). -/
def commitWm (j : Journal) (n : Nat) (q : Qp) : Qp :=
  if q.flushed = q.wm then q
  else { q with wm := q.flushed, slotsA := if j.devA then putSlot q.slotsA q.flushed n else q.slotsA,
                slotsB := if j.devB then putSlot q.slotsB q.flushed n else q.slotsB }

/-- One batch: every watermark whose flushing reads have returned, then the batch commit word on both devices (04 R113, R115), and
what waits on watermarks (04 R118, R129). -/
def batchNow (s : State) : State :=
  let n := s.journal.batch + 1
  let s1 := { s with qps := s.qps.map (fun x => (x.1, if x.2.assigned then commitWm s.journal n x.2 else x.2)) }
  let s2 := reclaim (modJournal s1 (fun j =>
    { j with batch := n, lastBatch := s.now, batchA := if j.devA then n else j.batchA, batchB := if j.devB then n else j.batchB }))
  (partsCreated s2).foldl (fun u x => settle u x.1) s2

/-- The next completion of a queue pair is held back by the bound of 04 R114 alone. -/
def heldByBound (s : State) (qp : Nat) : Bool :=
  let q := qpOf s qp
  match entryOf s qp q.w with
  | some e => releasableButBound s q e && headAllows q e.asn && decide (depthOf q / 2 ≤ sub48 q.w q.wm)
  | none => false

/-- A batch starts before its 8 µs are over: 64 completions written and not committed, or one held back by the bound of
04 R114 alone (04 R113). -/
def batchEarly (s : State) : Bool :=
  s.qps.any (fun x => x.2.assigned && (decide (64 ≤ sub48 x.2.w x.2.wm ∧ sub48 x.2.w x.2.wm < 2 ^ 47) || heldByBound s x.1))

/-- WATERMARK_BATCH (04 R112 to R114, R118, R129): 8 µs after the last one, or at once where 04 R113 says so. -/
def execWatermarkBatch (s : State) : Host.Outcome State Fault Refusal :=
  done s (if !journalUp s then s
    else batchNow (if batchEarly s then s else advanceTo s (s.journal.lastBatch + 8)))

/-- The material of a record's extension slot i: 216 bytes each beyond the record's 128 (07 R217). -/
def extPart (r : KeyRec) (i : Nat) : List Byte := (r.mat.drop (128 + 216 * i)).take 216

/-- Extension slot i of a record (07 R217). -/
def extRec (r : KeyRec) (i : Nat) : KeyRec :=
  { KeyRec.reset with handle := r.handle, ownerPart := r.ownerPart, ownerInc := r.ownerInc, state := recExtension,
                      keyLen := (extPart r i).length, mat := extPart r i, index := i }

/-- Write extension slot i of a record of partition p through line, as commit unit n; the slot's own GEN, LGEN and REV_SEQ are kept
beneath it (07 R214, R227, R229). -/
def writeExt (s : State) (key : List Byte) (p phys : Nat) (r : KeyRec) (i line n : Nat) : State :=
  let keep := (nextGen s p phys, slotLgen s phys, slotRevSeq s phys)
  commitRecord (modVault s (fun v => { v with under := tblSet v.under phys keep })) key phys (extRec r i) line n

/-- Write up to k extension slots of a record of partition p, from i on, each through a line of its own, as long as the partition's
allotment has one (07 R229): the state, and how many are written then. -/
def writeBatch (s : State) (key : List Byte) (p : Nat) (r : KeyRec) (n i k : Nat) : State × Nat :=
  match k with
  | 0 => (s, i)
  | k + 1 =>
    match (if i < r.extCount then physOf s p (r.extFirst + i) else none) with
    | none => (s, i)
    | some phys =>
      match (match lineFor s phys with
        | some l => some (l, s)
        | none => secureLine s 1 p) with
      | none => (s, i)
      | some (l, t) => writeBatch (writeExt t key p phys r i l n) key p r n (i + 1) k

/-- Every extension slot of a record that is written stands in the images alone: its batch is checkpointed (07 R229). -/
def extSettled (s : State) (r : KeyRec) : Bool := !(s.vault.lines.any (fun x => x.2.commit != 0 && (extSlots s r).contains x.2.slot))

/-- A unit can take its next write: a record's extensions go first, in batches, each one checkpointed before the next and before the
record; a batch needs a line (07 R229). -/
def unitReady (s : State) (u : CUnit) : Bool :=
  match u.rcd.effect with
  | .record _ r _ =>
    if r.extCount = 0 then true
    else extSettled s r && (decide (r.extCount ≤ u.extDone) || (freeLine s 1 u.part).isSome)
  | _ => true

/-- The units of one partition keep the order of their submission, a batch and what follows it being submitted once the batch before is
checkpointed (log 86); the next partition's turn comes by round robin (04 R117; 07 R229). -/
def nextUnit (s : State) : Option CUnit :=
  let l := s.journal.units.filter (unitReady s)
  match rrNext s.journal.rr (l.foldl (fun l u => insertAsc u.part l) []) with
  | none => none
  | some p => l.find? (fun u => u.part == p)

/-- VRK as it seals what a unit writes: from the tile that produced it (07 R223). -/
def unitKey (s : State) (u : CUnit) : List Byte :=
  match (entryOf s u.rcd.qp u.rcd.asn).bind (fun e => e.tile) with
  | some t => tileVrk s t
  | none => svcVrk s

/-- The batch of extension slots that a unit writes before its record, if one is due: a commit unit without a head record, of at most
one slot less than the partition's line allotment (07 R229). -/
def batchOf (s : State) (u : CUnit) : Option State :=
  match u.rcd.effect with
  | .record _ r _ =>
    if r.extCount ≤ u.extDone then none
    else
      let n := s.journal.isn
      let s1 := modJournal s (fun j => { j with isn := n + 1, rr := u.part })
      let (s2, i) := writeBatch s1 (unitKey s u) u.part r n u.extDone (lineAllotment s u.part - 1)
      some (modJournal s2 (fun j => { j with units := j.units.erase u ++ [{ u with extDone := i }] }))
  | _ => none

/-- The effect of unit n (04 R117 step 3): a record, sealed under key, through its line (07 R227), or a use word (06 R186). -/
def applyEffect (s : State) (key : List Byte) (n : Nat) (e : Effect) : State :=
  match e with
  | .none => s
  | .record phys r line => commitRecord s key phys r line n
  | .nonceUse w _ _ => modJournal s (fun j =>
      { j with useA := if j.devA then tblSet j.useA w n else j.useA, useB := if j.devB then tblSet j.useB w n else j.useB })

/-- EFFECT_REF as unit n writes it: the line that already holds the slot, or the one secured (07 R227, R229); a use word carries
the unit's ISN (06 R186). -/
def Effect.stamp (s : State) (e : Effect) (n : Nat) : Effect :=
  match e with
  | .nonceUse w a _ => .nonceUse w a n
  | .record phys r line => .record phys r ((lineFor s phys).getD line)
  | .none => .none

/-- The line of an effect. -/
def Effect.line (e : Effect) : Option Nat :=
  match e with
  | .record _ _ i => some i
  | _ => Option.none

/-- One commit unit, run to its end (04 R117): its ISN, its records and its effect, then the report to the home
re-sequencer. The descriptor's grant is given up, a line secured and not used is handed back, and so are the records reserved and not
used (04 R118; 07 R229). A descriptor fetched again while its unit was in progress completes from it (04 R124). -/
def commitUnit (s : State) (u : CUnit) : State :=
  let n := s.journal.isn
  let size := shareSize s u.part
  let r : JRec := ({ u.rcd with isn := n, effect := u.rcd.effect.stamp s n, pos := (partOf s u.part).logTail }).write s.journal 2
  let s1 := modJournal s (fun j =>
    { j with isn := n + 1, units := j.units.erase u, records := j.records ++ [r], rr := u.part })
  let s2 := applyEffect s1 (unitKey s u) n r.effect
  let used := recordsOf r
  let s3 := modPart s2 u.part (fun x =>
    { x with recordsUsed := x.recordsUsed + used, recordsReserved := x.recordsReserved - u.held, logTail := (x.logTail + used) % max 1 size })
  modEntry (releaseLine (releaseGrant s3 r.qp r.asn) (u.line.filter (fun i => r.effect.line != some i))) r.qp r.asn (fun e =>
    { e with cpl := some (e.cpl.getD (replayCpl r)), committed := true, journalled := true, grant := false,
             park := .none, deadline := none })

/-- COMMIT_UNIT (04 R111, R116 to R118, R124; 05 R139; 06 R186; 07 R227, R229). -/
def execCommitUnit (s : State) : Host.Outcome State Fault Refusal :=
  done s (if !journalUp s then s
    else match nextUnit s with
      | none => s
      | some u => (batchOf s u).getD (commitUnit s u))

/-- A journal device fails (04 R119): recorded and reported; with the second one the module fails. -/
def journalFail (s : State) (dev : Nat) : State :=
  let was := if dev = 0 then s.journal.devA else s.journal.devB
  if !was then s
  else
    let s1 := modJournal s (fun j => if dev = 0 then { j with devA := false } else { j with devB := false })
    let s2 := raiseModule (record s1 0x5006 0 0 (leBytes 4 dev)) 0x69
    if journalUp s2 then s2 else moduleFailure s2

/-- JOURNAL_DEVICE_FAIL (04 R119; 01 R18). -/
def execJournalDeviceFail (dev : Nat) (s : State) : Host.Outcome State Fault Refusal :=
  guardUnit (decide (dev < 2)) dev s (journalFail s dev)

end Sys2Proof.Machine
end

