-- ==== Sys2Proof/Machine/Rng.lean ====
section
/-!
DEFINITION. The random source: start-up tests, seeding and reseeding, health failures, and the RANDOM command
(13 R396 to R409).
-/

namespace Sys2Proof.Machine

open Sys2Proof

/-- RNG_STATE values (13 R401). -/
abbrev rngStarting : Nat := 0
/-- READY. -/
abbrev rngReady : Nat := 1
/-- STUCK. -/
abbrev rngStuck : Nat := 2
/-- RAW. -/
abbrev rngRaw : Nat := 3

/-- The order in which the DRBGs are seeded: management, Q0, Q1, Q2, Q3 (13 R402). -/
def seedOrder : List Nat := [4, 0, 1, 2, 3]

/-- Change the random source. -/
def modRng (s : State) (f : Rng → Rng) : State := { s with rng := f s.rng }

/-- RNG_LAST_FAIL (13 R410). -/
def failWord (sampler : Nat) (apt inTest : Bool) : Nat := sampler % 8 + 8 * b2n apt + 16 * b2n inTest

/-- RNG_BLOCKED for a class 0x0A descriptor: POISON, no result (13 R401). -/
def cplPoison : Cpl := { Cpl.fail 0x0006 0 with cflags := 2 }

/-- A waiting core's RND takes four bytes, or zero and V = 1 where they are blocked (09 R302; 13 R401). -/
def rndDone (c : EloaCore) (b : Option (List Byte)) : EloaCore :=
  match c.wait with
  | .rnd rd =>
    (match b with
      | some x => { resumeWith c rd (BitVec.ofNat 32 (leNat x)) (FlagSet.ov false) 1 with drew := true }
      | none => resumeWith c rd 0 (FlagSet.ov true) 1)
  | _ => c

/-- Is a core waiting for a random value? -/
def waitsRnd (c : EloaCore) : Bool :=
  match c.wait with
  | .rnd _ => true
  | _ => false

/-- The DRBG a core reads: its quarter's, or the management instance (09 R302). -/
def drbgOfCore (c : Nat) : Nat := if c < 64 then c / 16 else 4

/-- Every waiting read completes with RNG_BLOCKED (13 R403 step 2): parked RANDOM descriptors, tile steps, RND,
and what waits for the management DRBG. -/
def releaseReaders (s : State) : State :=
  let s1 := s.entries.foldl (fun u e =>
    if e.cpl.isSome then u
    else
      (match e.park with
        | .l7 _ _ => finishEntry u e cplPoison
        | _ => if e.rngWait then finishEntry u { e with fired := true } (Cpl.fail 0x0006 0) else u)) s
  failDraws ((s1.cores.filter (fun x => waitsRnd x.2)).foldl (fun u x =>
    coreTimers (modCore u x.1 (fun c => rndDone c none)) x.1) s1)

/-- Every DRBG is erased and uninstantiated (13 R403 step 1). -/
def uninstantiate (s : State) : State :=
  modRng s (fun r => { r with drbg := r.drbg.map (fun x => (x.1, { Drbg.reset with drawn := x.2.drawn })) })

/-- RND of the cores that wait for DRBG i (09 R302). -/
def serveRnd (s : State) (i : Nat) : State :=
  (s.cores.filter (fun x => waitsRnd x.2 && drbgOfCore x.1 == i)).foldl (fun u x =>
    let (b, t) := drawBytes u i 4
    coreTimers (modCore t x.1 (fun c => rndDone c (some b))) x.1) s

/-- A DRBG is seeded with its two blocks: instantiated or reseeded, it generates again (13 R402, R405). -/
def seedDrbg (s : State) (i : Nat) : State :=
  let t := serveRnd (modDrbg s i (fun d => { d with state := 1, blocks := 0, out := 0, wants := false,
                                                    filling := decide (i < 4) && decide (d.buf < 8192) })) i
  if i = 4 then serveDraws t else t

/-- A start-up test begins on new samples (13 R402). -/
def startTest (s : State) : State :=
  modRng (uninstantiate s) (fun r => { r with state := rngStarting, testing := true, testAt := s.now, rr := 0 })

/-- A failed test is counted, raised and recorded (13 R403 step 3). -/
def reportFail (s : State) (sampler : Nat) (apt inTest : Bool) : State :=
  let s1 := modRng s (fun r => { r with failures := sat (2 ^ 32 - 1) (r.failures + 1), lastFail := failWord sampler apt inTest })
  raiseModule (record s1 0x6800 10 sampler (leBytes 4 s1.rng.lastFail)) 0x0C

/-- A failed health test: steps 1 to 4, or step 3 alone in STUCK and RAW (13 R403); the third failed start-up test in a
row ends in STUCK (13 R404). -/
def healthFail (s : State) (sampler : Nat) (apt : Bool) : State :=
  let inTest := s.rng.testing
  let s1 := reportFail s sampler apt inTest
  if s.rng.state = rngStuck ∨ s.rng.state = rngRaw then s1
  else
    let s2 := releaseReaders (startTest s1)
    let n := if inTest then s.rng.fails + 1 else s.rng.fails
    let s3 := modRng s2 (fun r => { r with fails := n })
    if 3 ≤ n then modRng s3 (fun r => { r with state := rngStuck, testing := false }) else s3

/-- RNG_HEALTH_FAIL (13 R399, R401, R403, R409). -/
def execRngHealthFail (sampler : Nat) (apt : Bool) (s : State) : Host.Outcome State Fault Refusal :=
  guardUnit (decide (sampler < 8)) sampler s (healthFail s sampler apt)

/-- A start-up test that passes, 2.048 ms after it began: the six blocks conditioned meanwhile instantiate the management DRBG, Q0 and
Q1 (13 R402); the next block comes 320 µs after the sixth (13 R397). -/
def testPassed (s : State) : State :=
  let s1 := modRng (advanceTo s (s.rng.testAt + 2048)) (fun r => { r with testing := false, fails := 0, blockAt := r.testAt + 1920 })
  [4, 0, 1].foldl seedDrbg s1

/-- The DRBG that the next conditioner block goes to: while seeding the first in order not instantiated, afterwards the
requester whose turn it is (13 R402, R405). -/
def blockFor (s : State) : Option Nat :=
  if s.rng.testing then none
  else if s.rng.state = rngStarting then seedOrder.find? (fun i => (drbgOf s i).state == 0)
  else if s.rng.state = rngReady then
    (seedOrder.rotate s.rng.rr).find? (fun i => (drbgOf s i).wants && decide ((drbgOf s i).blocks < 2))
  else none

/-- The position in the order after DRBG i. -/
def orderAfter (i : Nat) : Nat := if i = 4 then 1 else (i + 2) % 5

/-- A conditioner block is released: to a DRBG being instantiated, the fifth of which makes the source READY, or to a
reseed request (13 R397, R402, R405). -/
def giveBlock (s : State) : State :=
  match blockFor s with
  | none => s
  | some i =>
    let s1 := modDrbg s i (fun d => { d with blocks := d.blocks + 1 })
    if (drbgOf s1 i).blocks < 2 then s1
    else if s.rng.state = rngReady then modRng s1 (fun r => { r with rr := orderAfter i })
    else
      let s2 := seedDrbg s1 i
      if seedOrder.all (fun j => (drbgOf s2 j).state != 0) then modRng s2 (fun r => { r with state := rngReady, rr := 0 })
      else s2

/-- The conditioner's next block: one comes every 320 µs, and those that went by had no taker (13 R397). -/
def condBlock (s : State) : State :=
  let t := advanceTo s (s.rng.blockAt + 320)
  modRng t (fun r => { r with blockAt := r.blockAt + 320 * ((t.now - r.blockAt) / 320) })

/-- A DRBG has its two blocks: its reseed completes (13 R405). -/
def reseed (s : State) (n : Nat) : State :=
  if (drbgOf s n).state ≠ 0 ∧ (drbgOf s n).blocks = 2 then
    seedDrbg (modRng s (fun r => { r with reseeds := (r.reseeds + 1) % 2 ^ 32 })) n
  else s

/-- RNG_RESEED_STALL (13 R405): a DRBG that has reached 1 GiB unseeded stops generating. -/
def execRngReseedStall (n : Nat) (s : State) : Host.Outcome State Fault Refusal :=
  guardUnit (decide (n < 5)) n s
    (if (drbgOf s n).state = 1 ∧ 2 ^ 30 ≤ (drbgOf s n).out then
      let s1 := modDrbg s n (fun d => { d with state := 2 })
      let s2 := modRng s1 (fun r => { r with stalls := (r.stalls + 1) % 2 ^ 32 })
      raiseModule (record s2 0x6801 (if n < 4 then 1 else 0) (if n < 4 then n else 0) (leBytes 4 s.rng.lastFail)) 0x0D
    else s)

/-- RNG_ESTIMATE_PUBLISH (13 R400): a block of 2^16 samples at 500,000 a second after the last one. -/
def execRngEstimatePublish (sampler : Nat) (e : Estimates) (s : State) : Host.Outcome State Fault Refusal :=
  guardUnit (decide (sampler < 8)) sampler s
    (let t := advanceTo s (tblGet 0 s.rng.estAt sampler + 131072)
     modRng t (fun r => { r with est := tblSet r.est sampler e, estAt := tblSet r.estAt sampler t.now }))

/-- COUNT of RANDOM (13 R406). -/
def randomCount (d : List Byte) : Nat := bits (dParamN d) 13 0

/-- Checks 6 and 7 of RANDOM (13 R406; 02 R62): a status and DETAIL, if it fails. -/
def randomBad (d : List Byte) : Option (Nat × Nat) :=
  let n := randomCount d
  let lim := if dSgl d then 8192 else 32
  let fmt := [(dInLen d != 0, 0x04)] ++ (List.range 4).map (fun k => (dKey d k != 0, dKeyOff k)) ++
    [(anyBits (dParamN d) 63 14 || decide (n < 1 ∨ lim < n), 0x38), (dSgl d && dInCount d != 0, 0x48)]
  match firstBad fmt with
  | some off => some (0x0003, off)
  | none => if dSgl d ∧ dOutTotal d < n then some (0x000A, 0) else none

/-- The completion of a served RANDOM (13 R406). -/
def randomCpl (d : List Byte) (b : List Byte) : Cpl :=
  if dSgl d then { Cpl.ok [] with out := b, outLen := b.length } else Cpl.ok b

/-- A RANDOM descriptor is served from the quarter's buffer if it holds the bytes, else parked on L7; a blocked source
completes it at once (13 R401, R407). -/
def serveOrPark (s : State) (e : Entry) : State :=
  let d := drbgOf s e.quarter
  let n := randomCount e.desc
  if d.state = 0 ∧ (s.rng.state = rngStuck ∨ s.rng.state = rngRaw) then finishEntry s e cplPoison
  else if d.state = 1 ∧ n ≤ d.buf then
    let (b, t) := drawBytes s e.quarter n
    let e' := { e with fired := true }
    unpause (queueUnit (modEntry t e.qp e.asn (fun x => { x with fired := true, deadline := none, park := .none })) e'
      (randomCpl e.desc b) .none) e.quarter
  else
    let (k, t) := takeIns s e.quarter
    modEntry t e.qp e.asn (fun x => { x with park := .l7 (s.now + 1) k })

/-- M of a RANDOM descriptor is its COUNT with SGL = 1 (04 R118). -/
def randomRecords (d : List Byte) : Nat := recordsFor (if dSgl d then randomCount d else 0)

/-- A RANDOM descriptor that waits unserved: its checks, its journal reservation, then its service (13 R406, R407). -/
def randomTurn (s : State) (e : Entry) : State :=
  if e.cpl.isSome || unitQueued s e.qp e.asn || e.park != .none || s.tamper.halt || !inputReady e then s
  else match randomBad e.desc with
    | some (st, det) => finishEntry s e (Cpl.fail st det)
    | none =>
      if e.records ≠ 0 then serveOrPark s e
      else match reserveRecords s (qpOf s e.qp).partition (randomRecords e.desc) with
        | none => s
        | some t =>
          let f (x : Entry) : Entry := { x with records := randomRecords e.desc }
          serveOrPark (modEntry t e.qp e.asn f) (f e)

/-- A turn of the RANDOM descriptor at ASN asn of queue pair qp, if it is one. -/
def randomAt (s : State) (qp asn : Nat) : State :=
  match entryOf s qp asn with
  | none => s
  | some e => if dCmd e.desc = 0x0A01 then randomTurn s e else s

/-- RANDOM (13 R401, R406, R407; 04 R118). -/
def execRandom (qp asn : Nat) (s : State) : Host.Outcome State Fault Refusal := guardUnit (qpOk qp) qp s (randomAt s qp asn)

/-- RANDOM_SERVE (13 R401, R407): a descriptor whose journal reservation is made. -/
def execRandomServe (qp asn : Nat) (s : State) : Host.Outcome State Fault Refusal :=
  guardUnit (qpOk qp) qp s
    (match entryOf s qp asn with
      | none => s
      | some e => if e.records = 0 then s else randomAt s qp asn)

/-- Parked on L7. -/
def onL7 (e : Entry) : Bool :=
  match e.park with
  | .l7 _ _ => e.cpl.isNone
  | _ => false

/-- The partitions with descriptors parked on L7 of quarter q, in order. -/
def l7Parts (s : State) (q : Nat) : List Nat :=
  (s.entries.filter (fun e => onL7 e && e.quarter == q)).foldl (fun l e => insertAsc (qpOf s e.qp).partition l) []

/-- The lowest ASN that partition p has parked on L7 of quarter q. -/
def l7First (s : State) (q p : Nat) : Option Entry :=
  minBy (fun e => e.asn) (s.entries.filter (fun e => onL7 e && e.quarter == q && (qpOf s e.qp).partition == p))

/-- Serve the parked descriptors of quarter q by round robin over their partitions, while the buffer holds enough (13
R407). fuel bounds the descriptors served. -/
def serveL7 (s : State) (q fuel : Nat) : State :=
  match fuel with
  | 0 => s
  | fuel + 1 =>
    match rrNext (quarterOf s q).rrL7 (l7Parts s q) with
    | none => s
    | some p =>
      match l7First s q p with
      | none => s
      | some e =>
        if randomCount e.desc ≤ (drbgOf s q).buf then
          let t := modQuarter s q (fun x => { x with rrL7 := p })
          serveL7 (serveOrPark (modEntry t e.qp e.asn (fun x => { x with park := .none })) { e with park := .none }) q fuel
        else s

/-- The tick at which an entry of L7 is examined. -/
def l7Tick (e : Entry) : Nat :=
  match e.park with
  | .l7 t _ => t
  | _ => 0

/-- An entry of L7 that a tick has examined and left unserved goes back on L7 for the next tick (03 R91). -/
def repark (s : State) (e : Entry) : State :=
  let (k, t) := takeIns s e.quarter
  modEntry t e.qp e.asn (fun x => { x with park := .l7 (s.now + 1) k })

/-- The parked RANDOM descriptors of a quarter are examined at the tick of the first of them: those that can be are served, the
others wait for the next tick (13 R401, R407; 03 R91). -/
def l7Due (s : State) (q : Nat) : State :=
  match minBy l7Tick (s.entries.filter (fun e => onL7 e && e.quarter == q)) with
  | none => s
  | some x =>
    let s1 := advanceTo s (l7Tick x)
    let s2 := if (drbgOf s1 q).state = 1 ∧ s1.tamper.halt = false then serveL7 s1 q 4096 else s1
    (s2.entries.filter (fun e => onL7 e && e.quarter == q && decide (l7Tick e ≤ s2.now))).foldl repark s2

/-- RNG_DEFERRAL_TICK (13 R401, R407; 03 R91, R92). -/
def execRngDeferralTick (q : Nat) (s : State) : Host.Outcome State Fault Refusal := guardUnit (quarterOk q) q s (l7Due s q)

end Sys2Proof.Machine
end

