-- ==== Sys2Proof/Machine/Dispatcher.lean ====
section
/-!
DEFINITION. The dispatcher up to acceptance: fetching, checks 1 to 3, token buckets, the delay lists L5 to L7 and replay
(02 R42, R43, R50, R61, R62; 03 R76 to R79, R82, R91 to R94; 04 R123, R124; 08 R265, R270; 11 R376).
-/

namespace Sys2Proof.Machine

open Sys2Proof

/-- The number of descriptors one read brings: at most 32, never across the end of the ring (02 R43). -/
def fetchCount (q : Qp) (n : Nat) : Nat := min (min n 32) (min (tailAhead q) (depthOf q - q.next % depthOf q))

/-- Read the next descriptors of a queue pair (02 R43). -/
def fetch (s : State) (qp n : Nat) : State :=
  let q := qpOf s qp
  let k := fetchCount q n
  if !fetchPermitted s qp || fetchPaused s qp || q.fetching != 0 || k == 0 then s
  else
    let addr := q.sqBase + 128 * (q.next % depthOf q)
    let s1 := sendRead s qp none addr (128 * k)
    let s2 := modQuarter s1 q.home (fun x => { x with lastSend := s.now })
    let b := s2.boot
    let s3 := { s2 with boot := if b.bootDpMs = 0 then { b with bootDpMs := (s.now - b.startUs) / 1000 } else b }
    modQp s3 qp (fun x => { x with fetching := k, fetchAsn := q.next })

/-- DESCRIPTOR_FETCH (02 R36, R43, R44; 04 R123). -/
def execDescriptorFetch (qp n : Nat) (s : State) : Host.Outcome State Fault Refusal := guardUnit (qpOk qp) qp s (fetch s qp n)

/-- SEC_IDENTITY is 1 and no FULL scope granted by a response is in force: what attestation asks for (11 R376). -/
def attestOk (s : State) : Bool := s.life.identity == 1 && !(s.life.scope == 2 && lifeCycle s == 5)

/-- Tenant scripts are allowed by the partition and by the data-plane policy (08 R265, 10 R350). -/
def scriptsOk (s : State) (p : Nat) : Bool := bit (objNat s (0x4000 + p) 0x30 0) 1 && bit (objNat s 0x3020 0x01 3) 0

/-- The first of checks 1 to 3 of 02 R62 that a descriptor fails, with its DETAIL. -/
def earlyFail (s : State) (p : Nat) (d : List Byte) : Option (Nat × Nat) :=
  match rowOf s p d with
  | none => (match formatError d with
    | some off => some (0x0003, off)
    | none => some (0x0005, 0))
  | some r =>
    if !sglOk r d then some (0x0003, 0x02)
    else match formatError d with
      | some off => some (0x0003, off)
      | none =>
        if dClass d = 0x0E ∧ attestOk s = false then some (0x0002, 0)
        else if dClass d = 0x0D ∧ scriptsOk s p = false then some (0x0002, 0)
        else none

/-- Fixed point with 10 fractional bits (03 R79). -/
abbrev tok : Nat := 1024

/-- A partition's share of a rate or depth in a quarter, in fixed point, rounded down (03 R79). -/
def shareOf (s : State) (p q v : Nat) : Nat := v * (homedIn s p q).length * tok / max 1 (partOf s p).qps.length

/-- Rate and depth shares of the OPS bucket, or of the PKE bucket (03 R79; 08 R277). -/
def bucketShares (s : State) (p q : Nat) (pke : Bool) : Nat × Nat :=
  let o := 0x4000 + p
  if pke then (shareOf s p q (objNat s o 0x2A 100000), shareOf s p q (objNat s o 0x2B 10000))
  else (shareOf s p q (objNat s o 0x28 1000000), shareOf s p q (objNat s o 0x29 65536))

/-- The bucket as it stands now: full where it has not been used (03 R79; log 7). -/
def bucketNow (s : State) (p q : Nat) (pke : Bool) : Bucket :=
  let (r, b) := bucketShares s p q pke
  let t := if pke then (quarterOf s q).pke else (quarterOf s q).ops
  match tblFind t p with
  | none => { tokens := b, last := s.now }
  | some x => { tokens := min (b : Int) (x.tokens + (r * (s.now - x.last) / 1000000 : Nat)), last := s.now }

/-- A bucket admits a debit: it holds it, or it is full with a depth share below it (03 R76, R79). -/
def bucketAdmits (b : Bucket) (depth debit : Nat) : Bool :=
  decide ((debit : Int) ≤ b.tokens) || (decide (depth < debit) && b.tokens == (depth : Int))

/-- The tick at which the debit will be present, or the bucket full (03 R79). -/
def bucketTick (now : Nat) (b : Bucket) (rate depth debit : Nat) : Nat :=
  let want : Int := if depth < debit then depth else debit
  now + min (2 ^ 24 - 1) (cdiv ((want - b.tokens).toNat * 1000000) (max 1 rate))

/-- Write a bucket of partition p in quarter q. -/
def setBucket (s : State) (p q : Nat) (pke : Bool) (b : Bucket) : State :=
  modQuarter s q (fun x => if pke then { x with pke := tblSet x.pke p b } else { x with ops := tblSet x.ops p b })

/-- Entries on L6 of a quarter: SE descriptors accepted while the gate was RESTRICTED. -/
def l6Count (s : State) (q : Nat) : Nat :=
  (s.entries.filter (fun e => e.quarter == q && e.cpl.isNone && (match e.park with
    | .l6 _ _ => true
    | _ => false))).length

/-- The reads of the segment lists are issued (02 R60): by a tile, or by the quarter for a descriptor of class 0x0A (R36). -/
def readLists (s : State) (e : Entry) : State :=
  let one (u : State) (addr n : Nat) : State := if n = 0 then u else sendRead u e.qp (some e.asn) addr (16 * n)
  if dSgl e.desc then one (one s (dInList e.desc) (dInCount e.desc)) (dOutList e.desc) (dOutCount e.desc) else s

/-- Entries of L7 of a quarter: one is reserved for every class 0x0A descriptor at its acceptance (13 R407). -/
def l7Count (s : State) (q : Nat) : Nat :=
  (s.entries.filter (fun e => e.quarter == q && e.cpl.isNone && dClass e.desc == 0x0A)).length

/-- Why a descriptor is not accepted: it waits for entries, or for one of its buckets until a tick (03 R76, R79). -/
inductive Admission where
  | yes
  | pause
  | refill (pke : Bool) (tick : Nat)
  deriving DecidableEq, Repr

/-- The decision on a descriptor (03 R76): fails tells that it fails a check of 1 to 3; se, pkeDebit its command's. -/
def admission (s : State) (qp : Nat) (cls : Nat) (fails se : Bool) (debit : Nat) : Admission :=
  let q := qpOf s qp
  let (ro, bo) := bucketShares s q.partition q.home false
  let (rp, bp) := bucketShares s q.partition q.home true
  let ops := bucketNow s q.partition q.home false
  let pke := bucketNow s q.partition q.home true
  if q.allowance ≤ (entriesOfQp s qp).length || quarterFull s q.home then .pause
  else if !bucketAdmits ops bo tok then .refill false (bucketTick s.now ops ro bo tok)
  else if !fails && debit != 0 && !bucketAdmits pke bp (debit * tok) then .refill true (bucketTick s.now pke rp bp (debit * tok))
  else if !fails && se && s.power.gate == 1 && decide (4096 ≤ l6Count s q.home) then .pause
  else if !fails && cls == 0x0A && decide (4096 ≤ l7Count s q.home) then .pause
  else .yes

/-- Debit both buckets of an accepted descriptor (03 R78, R79). -/
def debitBuckets (s : State) (p q debit : Nat) : State :=
  let o := bucketNow s p q false
  let s1 := setBucket s p q false { o with tokens := o.tokens - (tok : Int) }
  if debit = 0 then s1
  else
    let k := bucketNow s p q true
    setBucket s1 p q true { k with tokens := k.tokens - (debit * tok : Nat) }

/-- The script of an invocation and its budget, taken at acceptance (08 R265, R270, R272). -/
def withScript (s : State) (p : Nat) (e : Entry) : Entry :=
  if dClass e.desc = 0x0D then
    match tblFind (partOf s p).scripts (dCmd e.desc - 0x0D00) with
    | some x => { e with image := some x, budget := min x.budget (objNat s (0x4000 + p) 0x42 100000) }
    | none => e
  else e

/-- The entry of an accepted descriptor (03 R74, R77, R78, R82; 02 R61): completed where it fails a check or where the
journal has it DONE, waiting for its commit unit where that is in progress (04 R124), parked on L6 where it is SE and the gate RESTRICTED. -/
def acceptedEntry (s : State) (qp : Nat) (d : List Byte) (fail : Option (Nat × Nat)) (se : Bool) : Entry :=
  let q := qpOf s qp
  let e := { Entry.fresh qp q.next q.home d with
    se := se, slot := freeSlot s q.home, dseq := (quarterOf s q.home).ins
    deadline := if dDeadline d = 0 then none else some (s.now + dDeadline d) }
  match doneRecord s qp q.next with
  | some r => { e with cpl := some (replayCpl r), committed := true, journalled := true, deadline := none }
  | none =>
    if unitQueued s qp q.next then { e with deadline := none }
    else match fail with
    | some (st, det) => { e with cpl := some (Cpl.fail st det), committed := true, deadline := none }
    | none => withScript s q.partition { e with park := if se ∧ s.power.gate = 1 then .l6 (s.now + 100) e.dseq else .none }

/-- Accept the descriptor at a queue pair's next ASN (02 R42; 03 R77). A descriptor of class 0x0A never enters a tile: its list is
read from here (02 R36). -/
def accept (s : State) (qp : Nat) (e : Entry) (debit : Nat) : State :=
  let q := qpOf s qp
  let s0 := addEntry (takeIns (debitBuckets s q.partition q.home debit) q.home).2 e
  let s1 := if dClass e.desc = 0x0A ∧ e.cpl.isNone then readLists s0 e else s0
  let s2 := modQp s1 qp (fun x => { x with next := add48 x.next 1, fetching := x.fetching - 1,
                                           fetchAsn := add48 x.fetchAsn 1 })
  settleReplay s2 qp

/-- The buckets that a refused descriptor's check has looked at hold the tokens it has computed (03 R77, R79): the OPS bucket, and the
PKE bucket where its command has a PKE cost and the OPS bucket had enough. -/
def refreshBuckets (s : State) (p q : Nat) (pke : Bool) : State :=
  let s1 := setBucket s p q false (bucketNow s p q false)
  if pke then setBucket s1 p q true (bucketNow s p q true) else s1

/-- A bucket's entry is placed on L5 of quarter q for tick t (03 R79); an entry that stands for the same bucket keeps the later
tick. -/
def parkBucket (s : State) (p q : Nat) (pke : Bool) (t : Nat) : State :=
  let (n, s1) := takeIns s q
  let k := 2 * p + b2n pke
  let old := (tblGet (0, 0) (quarterOf s q).l5 k).1
  modQuarter s1 q (fun x => { x with l5 := tblSet x.l5 k (max old t, n) })

/-- A fetched descriptor enters the pipeline (03 R76 to R79). -/
def arrive (s : State) (qp : Nat) (d : List Byte) : State :=
  let q := qpOf s qp
  let drop (u : State) : State := modQp u qp (fun x => { x with fetching := 0 })
  if !fetchPermitted s qp || q.fetchAsn != q.next then drop s
  else
    let fail := earlyFail s q.partition d
    let se := fail.isNone && (match rowOf s q.partition d with
      | some r => r.se
      | none => false)
    let debit := if fail.isNone ∧ (dClass d = 0x08 ∨ dClass d = 0x09) then pkeCost d else 0
    match admission s qp (dClass d) fail.isSome se debit with
    | .yes => accept s qp (acceptedEntry s qp d fail se) debit
    | .pause => modQp (refreshBuckets (drop s) q.partition q.home (debit != 0)) qp (fun x => { x with paused := true })
    | .refill pke t => parkBucket (refreshBuckets (drop s) q.partition q.home pke) q.partition q.home pke t

/-- A descriptor read ends in error (02 R50, R53): FETCH_ERR is set and fetching stops until it is cleared. -/
def fetchFailed (s : State) (qp : Nat) : State :=
  let s1 := modQp s qp (fun x => { x with fetchErr := true, badFetch := sat 0xFFFF (x.badFetch + 1), fetching := 0 })
  raiseIsr (modHif s1 (fun h => { h with fetchErrors := (h.fetchErrors + 1) % 2 ^ 32 })) 6

/-- DESCRIPTOR_ARRIVAL (02 R42, R50, R61, R62; 03 R74, R76 to R79, R82; 04 R123, R124). -/
def execDescriptorArrival (qp : Nat) (r : FetchResult) (s : State) : Host.Outcome State Fault Refusal :=
  guardUnit (qpOk qp) qp s
    (if !readsSent s qp none then s
    else
      let s1 := readsBack s qp none
      if (qpOf s qp).fetching = 0 then s1
      else match r with
        | .error => fetchFailed s1 qp
        | .bytes b => arrive s1 qp (fit 128 b))

/-- The head of L5 in quarter q: its bucket, tick and place (03 R91, R92). -/
def l5Head (s : State) (q : Nat) : Option (Nat × Nat × Nat) :=
  let l := (quarterOf s q).l5
  l.find? (fun x => isHead x.2 (l.map (fun y => y.2)))

/-- BUCKET_REFILL_EXPIRY (03 R79, R91, R92): the head of L5 leaves it; fetching resumes for its partition there once it has no other
bucket's entry on L5. An entry that is not the head waits. -/
def execBucketRefillExpiry (q p : Nat) (s : State) : Host.Outcome State Fault Refusal :=
  guardUnit (quarterOk q && partOk p) p s
    (match l5Head s q with
      | none => s
      | some (k, t, _) =>
        if k / 2 = p then modQuarter (advanceTo s t) q (fun x => { x with l5 := tblErase x.l5 k }) else s)

/-- What stands on L6 of quarter q (03 R91). -/
def l6List (s : State) (q : Nat) : List (Nat × Nat) :=
  s.entries.filterMap (fun e => if e.quarter = q ∧ e.cpl.isNone then (match e.park with
    | .l6 t n => some (t, n)
    | _ => none) else none)

/-- GATE_DEFERRAL_EXPIRY (03 R82, R91, R92): the head of L6 leaves it to be homed if the gate is OPEN, else it is parked for 100 ticks
more. -/
def execGateDeferralExpiry (qp asn : Nat) (s : State) : Host.Outcome State Fault Refusal :=
  guardUnit (qpOk qp) qp s
    (match entryOf s qp asn with
      | none => s
      | some e =>
        match e.park with
        | .l6 t n =>
          if !isHead (t, n) (l6List s e.quarter) then s
          else
            let s1 := advanceTo s t
            if s.power.gate = 0 then unpause (modEntry s1 qp asn (fun x => { x with park := .none })) e.quarter
            else
              let (k, s2) := takeIns s1 e.quarter
              modEntry s2 qp asn (fun x => { x with park := .l6 (s1.now + 100) k })
        | _ => s)

/-- DEADLINE_EXPIRED (02 R69). -/
def cplDeadline : Cpl := Cpl.fail 0x0004 0

/-- What stands on the deadline list of in-flight entry e: L0 to L3 of its quarter by the entry's number (03 R91). -/
def deadlineList (s : State) (e : Entry) : List (Nat × Nat) :=
  s.entries.filterMap (fun x =>
    if x.quarter = e.quarter ∧ x.slot % 4 = e.slot % 4 then x.deadline.map (fun t => (t, x.dseq)) else none)

/-- DEADLINE_EXPIRY (02 R61; 03 R82, R91 to R93): the head of its list expires, and a descriptor whose first step has not fired is
abandoned. -/
def execDeadlineExpiry (qp asn : Nat) (s : State) : Host.Outcome State Fault Refusal :=
  guardUnit (qpOk qp) qp s
    (match entryOf s qp asn with
      | none => s
      | some e =>
        match e.deadline with
        | none => s
        | some t =>
          if !isHead (t, e.dseq) (deadlineList s e) then s
          else
          let s1 := advanceTo s t
          if e.fired || e.cpl.isSome || unitQueued s qp asn then s1
          else finishEntry s1 e cplDeadline)

end Sys2Proof.Machine
end

