-- ==== Sys2Proof/Machine/Homing.lean ====
section
/-!
DEFINITION. Homing a descriptor on a tile, and what it then waits for: key-cache space, vault fills, grants on mutable
records, its segment lists, a script core (02 R59, R60, R62; 03 R80, R81, R85 to R89, R471; 04 R118; 05 R139; 06 R183, R184;
07 R216, R229, R232 to R239).
-/

namespace Sys2Proof.Machine

open Sys2Proof

/-- Matching-store entries of a tile in use: all of them, a partition's reserved ones, the shared ones (03 R86). -/
def matchUsed (s : State) (t : Nat) (f : Entry → Bool) : Nat :=
  ((s.entries.filter (fun e => e.tile == some t && f e)).map (fun e => e.matching)).sum

/-- A partition's reservation in a tile of quarter q: its quota's fraction of the store, rounded down (03 R86). -/
def matchReserve (s : State) (p q : Nat) : Nat := tblGet 0 (partOf s p).quota q / 4

/-- Free entries of a partition's reservation in tile t. -/
def reservedRoom (s : State) (p t : Nat) : Nat :=
  matchReserve s p (t / 4) - matchUsed s t (fun e => !e.fromShared && (qpOf s e.qp).partition == p)

/-- Free shared entries of tile t. -/
def sharedRoom (s : State) (t : Nat) : Nat :=
  4096 - ((partsCreated s).map (fun x => tblGet 0 x.2.quota (t / 4) / 4)).sum - matchUsed s t (fun e => e.fromShared)

/-- A class 0x08 or 0x09 descriptor goes only to a tile whose PKE cores are loaded (06 R209). -/
def pkeLoaded (s : State) (t : Nat) (d : List Byte) : Bool :=
  !(dClass d == 0x08 || dClass d == 0x09) || ((tileOf s t).pke0.loaded && (tileOf s t).pke1.loaded)

/-- Tile t may take a descriptor: one that a second mismatch sends to another tile only if it has not run there (03 R96), one that
needs a PKE core only with its cores loaded (06 R209), and of 1,024 descriptors no more (03 R83). -/
def mayTake (s : State) (e : Entry) (t : Nat) : Bool :=
  !(e.freshTile && e.tilesRun.contains t) && pkeLoaded s t e.desc && decide ((homedOn s t).length < 1024)

/-- No descriptor that began earlier to wait for entries, and that tile t could take, stands before e in its quarter (03 R87). -/
def firstWaiting (s : State) (e : Entry) (t : Nat) : Bool :=
  let could (d : Nat × Nat) : Bool := (entryOf s d.1 d.2).any (fun x => mayTake s x t)
  ((quarterOf s e.quarter).matchQ.takeWhile (fun d => d != (e.qp, e.asn))).all (fun d => !could d)

/-- The tile for a descriptor that declares n entries, and whether it takes shared ones (03 R80, R86, R87). -/
def chooseTile (s : State) (e : Entry) (p n : Nat) : Option (Nat × Bool) :=
  let ts := tilesOf s e.quarter
  let may := mayTake s e
  let h := dKey e.desc 0
  let pref := if h = 0 ∨ ts.isEmpty then none else ts[hSlot h % ts.length]?
  match pref.filter (fun t => may t && decide (n ≤ reservedRoom s p t)) with
  | some t => some (t, false)
  | none =>
    match minBy (fun t => matchUsed s t (fun _ => true)) (ts.filter may) with
    | none => none
    | some t =>
      if n ≤ reservedRoom s p t then some (t, false)
      else if n ≤ sharedRoom s t ∧ firstWaiting s e t then some (t, true)
      else none

/-- The lowest descriptor context number free in tile t (03 R84). -/
def freeCtx (s : State) (t : Nat) : Nat := lowestFree ((homedOn s t).map (fun e => e.ctx)) 0 1024

/-- A standard script core starts on a descriptor in the state of 09 R282, its descriptor copy in data memory, and takes what is
deliverable to it (R311). -/
def startCore (s : State) (c : Nat) (e : Entry) : State :=
  deliverAll (modCore s c (fun k => { EloaCore.script with code := k.code, dbg := k.dbg, desc := some (e.qp, e.asn),
                                                           mem := Memory.write [] 0x1F80 e.desc })) (c / 4)

/-- The lowest-numbered free core of S0 to S2 of tile t (03 R471). -/
def freeCore (s : State) (t : Nat) : Option Nat :=
  [4 * t, 4 * t + 1, 4 * t + 2].find? (fun c => (coreOf s c).desc.isNone)

/-- The descriptors of a tile that wait for a standard script core. -/
def coreWaiters (s : State) (t : Nat) : List Entry :=
  (homedOn s t).filter (fun e => e.script == .waiting && dClass e.desc != 0x0D)

/-- A descriptor enters its tile: its template gives its steps, or it takes a free script core, or waits for one behind those that
wait already (03 R83, R471). An invocation of a tenant script waits for S3 once it is invoked (08 R269). -/
def enterTile (s : State) (t : Nat) (e : Entry) : State :=
  if isTemplate (dCmd e.desc) then modEntry s e.qp e.asn (fun x => { x with steps := templateSteps (dCmd e.desc) })
  else if dClass e.desc = 0x0D then s
  else
    match (if (coreWaiters s t).isEmpty then freeCore s t else none) with
    | some c => modEntry (startCore s c e) e.qp e.asn (fun x => { x with script := .core c })
    | none => modEntry s e.qp e.asn (fun x => { x with script := .waiting })

/-- Request the grant on a mutable record (05 R139): the first requester holds it once it is given, the others wait. -/
def requestGrant (s : State) (phys : Nat) (d : Nat × Nat) : State :=
  modVault s (fun v =>
    if v.grants.any (fun g => g.phys == phys) then
      { v with grants := v.grants.map (fun g =>
          if g.phys = phys ∧ g.holder ≠ d ∧ !g.waiters.contains d then { g with waiters := g.waiters ++ [d] } else g) }
    else { v with grants := v.grants ++ [{ phys := phys, holder := d, waiters := [] }] })

/-- A key field has passed its checks: its key-ready token enters the matching store (03 R84, R89), and the first read of a mutable
record asks for its grant. -/
def keyReady (s : State) (e : Entry) (k : Nat) : State :=
  let p := (qpOf s e.qp).partition
  let s0 := putToken s e { tokenFor s e 0 k 1 [] with name := some (.key (dKey e.desc k)) }
  let s1 := modEntry s0 e.qp e.asn (fun x => { x with keysReady := x.keysReady ++ [k] })
  match rowOf s p e.desc with
  | some r =>
    if r.mutField = some k then
      match physOf s p (hSlot (dKey e.desc k)) with
      | some phys => requestGrant s1 phys (e.qp, e.asn)
      | none => s1
    else s1
  | none => s1

/-- The tile's cache holds the entry of a handle (07 R216, R239). -/
def resident (s : State) (t p h : Nat) : Bool :=
  (tmemOf s t).cache.any (fun c => c.isKey p h && c.filled && c.pending.isNone)

/-- What the check of the next key fields ends in: a failure, a wait for the fill path on a field, or all done. -/
inductive KeyScan where
  | fail (status field : Nat)
  | fill (field : Nat)
  | ready
  deriving DecidableEq, Repr

/-- Check the key fields in order as far as the parse and resident entries go (02 R62 check 5; 07 R216, R219): the fields
that pass, and how it ends. -/
def scanFields (s : State) (e : Entry) (t p c : Nat) (l : List KSpec) : List Nat × KeyScan :=
  match l with
  | [] => ([], .ready)
  | x :: r =>
    let h := dKey e.desc x.k
    if e.keysReady.contains x.k || (h == 0 && x.optional) then scanFields s e t p c r
    else if h = 0 then ([], .fail 0x0015 x.k)
    else if hPart h ≠ p then ([], .fail 0x0012 x.k)
    else if resident s t p h then
      match checkKeyField s p c e.desc x with
      | .error st => ([], .fail st x.k)
      | .ok _ =>
        let (ks, o) := scanFields s e t p c r
        (x.k :: ks, o)
    else ([], .fill x.k)

/-- The key scan of a descriptor homed on tile t. -/
def scanKeys (s : State) (e : Entry) (t : Nat) : List Nat × KeyScan :=
  scanFields s e t (qpOf s e.qp).partition (e.capture.getD 0) (keysOf e.desc)

/-- Go on with the key checks of a descriptor: it fails, or the fields that pass are ready (02 R62). -/
def stepKeys (s : State) (e : Entry) (t : Nat) : State :=
  match scanKeys s e t with
  | (_, .fail st k) => finishEntry s e (Cpl.fail st k)
  | (ks, _) => ks.foldl (fun u k => keyReady u e k) s

/-- How a descriptor ends whose key field k exceeds the quota: by the first failure that the fill path finds in the order of the fields,
and within a field in that of 07 R219, where the quota stands with KEY_NOT_PERMITTED (02 R62 check 5; 07 R233, R235). -/
def quotaFail (s : State) (d : List Byte) (p c k : Nat) (l : List KSpec) : Nat × Nat :=
  match l with
  | [] => (0x0010, k)
  | x :: r =>
    if x.k = k then
      (match checkKeyUse s p c x.need wData (dKey d x.k) with
        | .error st => (st, k)
        | .ok _ => (0x0010, k))
    else if dKey d x.k = 0 ∧ x.optional then quotaFail s d p c k r
    else match checkKeyField s p c d x with
      | .error st => (st, x.k)
      | .ok _ => quotaFail s d p c k r

/-- The first key read of a homed descriptor: failures of the parse, the quota rule, then all entries pinned at once, or
a wait for space (07 R233, R234). -/
def firstKeyRead (s : State) (e : Entry) (t : Nat) : State :=
  let p := (qpOf s e.qp).partition
  let quota := tblGet 0 (partOf s p).quota e.quarter
  match scanKeys s e t with
  | (_, .fail st k) => finishEntry s e (Cpl.fail st k)
  | _ =>
    match overQuota (tmemOf s t) p (hashOf e.desc) quota (transientBlocks e.desc) (keysNamed s p e.desc) with
    | some k =>
      let f := quotaFail s e.desc p (e.capture.getD 0) k (keysOf e.desc)
      finishEntry s e (Cpl.fail f.1 f.2)
    | none =>
      let d := (e.qp, e.asn)
      let first := !((tmemOf s t).pinQ.any (fun x => (qpOf s x.1).partition == p))
      match (if first then pinAll s t p quota d e.desc else none) with
      | some u => stepKeys u e t
      | none => modTmem s t (fun m => { m with pinQ := m.pinQ ++ [d] })

/-- The first 64 bytes of a descriptor's input enter the matching store as data tokens of its first step, operands 4 and 5 (03 R84;
log 27). -/
def inputTokens (s : State) (e : Entry) (data : List Byte) : State :=
  ((List.range 2).zip (chunks 32 data)).foldl (fun u x => putToken u e (tokenFor u e 0 (4 + x.1) 0 x.2)) s

/-- Put a descriptor on tile t with what it has secured (03 R77, R80; 07 R237), and start its work there. -/
def putOn (s : State) (e : Entry) (t : Nat) (shared : Bool) (n : Nat) (line nonce : Option Nat) (records : Nat) : State :=
  let f (x : Entry) : Entry :=
    { x with tile := some t, freshTile := false, ctx := freeCtx s t, matching := n, fromShared := shared, line := line, nonce := nonce,
             records := records, capture := some (quarterOf s e.quarter).rvs }
  let s1 := modQuarter (modEntry s e.qp e.asn f) e.quarter
    (fun x => { x with matchQ := x.matchQ.filter (fun y => y != (e.qp, e.asn)) })
  let s2 := if (homedOn s t).isEmpty then modTmem s1 t (fun m => { m with heart := s.now }) else s1
  let s3 := firstKeyRead s2 (f e) t
  match entryOf s3 e.qp e.asn with
  | some x =>
    if x.cpl.isSome then s3
    else enterTile (inputTokens (readLists s3 x) x (if dSgl x.desc then [] else slice x.desc 0x40 (dInLen x.desc))) t x
  | none => s3

/-- The next counter of a partition in a quarter, and the hold after it is drawn (06 R184). -/
def drawNonce (h : NonceHold) : Option (Nat × NonceHold) :=
  match h.block with
  | none => none
  | some b =>
    if h.used < 65536 then some (b * 65536 + h.used, { h with used := h.used + 1 })
    else match h.further with
      | some b' => some (b' * 65536, { block := some b', used := 1, further := none })
      | none => none

/-- A quarter's hold on a partition's counters. -/
def nonceHold (s : State) (q p : Nat) : NonceHold := tblGet { block := none, used := 0, further := none } (quarterOf s q).nonce p

/-- NEXT_BLOCK of a partition, from a device that works (06 R183). -/
def nextBlock (s : State) (p : Nat) : Nat :=
  max (if s.journal.devA then tblGet 0 s.journal.nextA p else 0) (if s.journal.devB then tblGet 0 s.journal.nextB p else 0)

/-- PREFIX of a partition (06 R182). -/
def noncePrefix (s : State) (p : Nat) : Nat := p * 2 ^ 20 + (partOf s p).incarnation % 2 ^ 20

/-- A partition's entry of the partition table of the nonce region, at 0x0F80_0000 + 16 p: NEXT_BLOCK, PREFIX, reserved bytes, CRC-32C
(06 R183). -/
def nonceEntry (s : State) (p : Nat) : List Byte :=
  let b := leBytes 6 (nextBlock s p) ++ leBytes 4 (noncePrefix s p) ++ zeros 2
  b ++ leBytes 4 (crc32c b)

/-- NEXT_BLOCK of a partition would pass 2^48 − 1 (06 R183). -/
def noncesGone (s : State) (p : Nat) : Bool := decide (2 ^ 48 ≤ nextBlock s p + 1)

/-- What a descriptor secures before it is homed: journal records, a line, a nonce (04 R118; 06 R184; 07 R229). None where
it must wait; all of it is taken together. -/
def secureNeeds (s : State) (e : Entry) (p : Nat) (r : CmdRow) : Option (State × Option Nat × Option Nat × Nat) :=
  match (if e.se && e.records == 0 then reserveRecords s p (recordsFor r.m) else some s) with
  | none => none
  | some s1 =>
    let n := if e.se ∧ e.records = 0 then recordsFor r.m else e.records
    match (if r.keyWrite && e.line.isNone then (secureLine s1 1 p).map (fun x => (some x.1, x.2)) else some (e.line, s1)) with
    | none => none
    | some (line, s2) =>
      if r.nonce then
        match drawNonce (nonceHold s2 e.quarter p) with
        | none => none
        | some (v, h) => some (modQuarter s2 e.quarter (fun x => { x with nonce := tblSet x.nonce p h }), line, some v, n)
      else some (s2, line, none, n)

/-- A descriptor that is accepted, unhomed and not parked may be homed: not class 0x0A, not under HALT, and with FENCE
only once every lower ASN has completed (03 R81; 02 R44). -/
def homeable (s : State) (e : Entry) : Bool :=
  e.tile.isNone && e.cpl.isNone && e.park == .none && dClass e.desc != 0x0A && !s.tamper.halt &&
    !unitQueued s e.qp e.asn && !(quarterOf s e.quarter).failed && (!dFence e.desc || e.asn == (qpOf s e.qp).w)

/-- INTEGRITY_RETRY_EXHAUSTED (02 R69). -/
def cplIntegrity : Cpl := Cpl.fail 0x00F0 0

/-- Home one descriptor (03 R80, R81, R86, R87; 02 R62 check 4). It waits for matching-store entries where a tile could take it but for
them. -/
def homeEntry (s : State) (e : Entry) (r : CmdRow) : State :=
  let p := (qpOf s e.qp).partition
  let n := declaredFor (dCmd e.desc)
  if e.deadline.any (fun t => decide (t ≤ s.now)) && !e.fired then finishEntry s e (Cpl.fail 0x0004 0)
  else if r.nonce && noncesGone s p && (drawNonce (nonceHold s e.quarter p)).isNone then finishEntry s e (Cpl.fail 0x0002 0)
  else if e.freshTile && !(tilesOf s e.quarter).isEmpty && (tilesOf s e.quarter).all (fun t => e.tilesRun.contains t) then
    finishEntry s e cplIntegrity
  else match chooseTile s e p n with
    | none =>
      if (tilesOf s e.quarter).any (mayTake s e) then
        modQuarter s e.quarter (fun x =>
          { x with matchQ := if x.matchQ.contains (e.qp, e.asn) then x.matchQ else x.matchQ ++ [(e.qp, e.asn)] })
      else s
    | some (t, shared) =>
      match secureNeeds s e p r with
      | none => s
      | some (u, line, nonce, k) => putOn u e t shared n line nonce k

/-- DESCRIPTOR_HOME (02 R58, R59, R62; 03 R77, R80, R81, R83, R86, R87, R471; 04 R118; 06 R184; 07 R229, R233, R234,
R237). -/
def execDescriptorHome (qp asn : Nat) (s : State) : Host.Outcome State Fault Refusal :=
  guardUnit (qpOk qp) qp s
    (match entryOf s qp asn with
      | none => s
      | some e =>
        match rowOf s (qpOf s qp).partition e.desc with
        | none => s
        | some r => if homeable s e then homeEntry s e r else s)

/-- A new block of counters goes to a quarter that asks for one, once both devices hold NEXT_BLOCK + 1: it holds none, or half of its
only one is used (06 R183, R184). -/
def reserveBlock (s : State) (q p : Nat) : State :=
  let h := nonceHold s q p
  let k := nextBlock s p
  let asks := h.block.isNone || (h.further.isNone && decide (32768 ≤ h.used))
  if !journalUp s || !asks || noncesGone s p || !(partOf s p).created || (quarterOf s q).failed then s
  else
    let h' : NonceHold := if h.block.isNone then { block := some k, used := 0, further := none } else { h with further := some k }
    modQuarter (modJournal s (fun j =>
        { j with nextA := if j.devA then tblSet j.nextA p (k + 1) else j.nextA,
                 nextB := if j.devB then tblSet j.nextB p (k + 1) else j.nextB })) q
      (fun x => { x with nonce := tblSet x.nonce p h' })

/-- NONCE_BLOCK_RESERVE (06 R183, R184). -/
def execNonceBlockReserve (q p : Nat) (s : State) : Host.Outcome State Fault Refusal :=
  guardUnit (quarterOk q && partOk p) p s (reserveBlock s q p)

/-- KEY_CACHE_PIN_GRANT (07 R234): the descriptor of its partition that has waited longest in the tile pins all its
entries, if they now fit, and its key checks go on. -/
def execKeyCachePinGrant (qp asn : Nat) (s : State) : Host.Outcome State Fault Refusal :=
  guardUnit (qpOk qp) qp s
    (match entryOf s qp asn with
      | none => s
      | some e =>
        match e.tile with
        | none => s
        | some t =>
          let p := (qpOf s qp).partition
          if ((tmemOf s t).pinQ.find? (fun x => (qpOf s x.1).partition == p)) = some (qp, asn) ∧ s.tamper.halt = false ∧
              e.script matches .none | .waiting then
            match pinAll s t p (tblGet 0 (partOf s p).quota e.quarter) (qp, asn) e.desc with
            | some u => stepKeys u e t
            | none => s
          else s)

/-- Descriptors of a tile that wait on the fill path: their entries pinned, a key field pending. -/
def fillsPending (s : State) (t : Nat) : List Entry :=
  (homedOn s t).filter (fun e => !(tmemOf s t).pinQ.contains (e.qp, e.asn) && (match (scanKeys s e t).2 with
    | .fill _ => true
    | _ => false))

/-- The fill path serves key field k of a descriptor: checks against the record, then the entry and its key-ready token
(07 R216, R219, R235, R236). -/
def fillField (s : State) (e : Entry) (t k : Nat) : State :=
  let p := (qpOf s e.qp).partition
  match (keysOf e.desc).find? (fun x => x.k == k) with
  | none => s
  | some x =>
    match checkKeyField s p (e.capture.getD 0) e.desc x with
    | .error st => finishEntry s e (Cpl.fail st k)
    | .ok r =>
      let f (c : CacheEnt) : CacheEnt := if c.isKey p r.handle then { c with filled := true, key := r } else c
      let s1 := keyReady (modTmem s t (fun m => { m with cache := m.cache.map f })) e k
      match entryOf s1 e.qp e.asn with
      | some e' => stepKeys s1 e' t
      | none => s1

/-- VAULT_FILL (07 R216, R219, R232, R235): one record of the partition whose turn it is in the tile. -/
def execVaultFill (qp asn : Nat) (s : State) : Host.Outcome State Fault Refusal :=
  guardUnit (qpOk qp) qp s
    (match entryOf s qp asn with
      | none => s
      | some e =>
        match e.tile with
        | none => s
        | some t =>
          let ps := (fillsPending s t).foldl (fun l x => insertAsc (qpOf s x.qp).partition l) []
          let p := (qpOf s qp).partition
          if e.cpl.isSome || s.tamper.halt || (tmemOf s t).pinQ.contains (qp, asn) ||
            rrNext (tmemOf s t).rrFill ps != some p then s
          else
            let s1 := modTmem s t (fun m => { m with rrFill := p })
            match scanKeys s e t with
            | (_, .fail st k) => finishEntry s e (Cpl.fail st k)
            | (ks, .ready) => ks.foldl (fun u k => keyReady u e k) s
            | (ks, .fill k) =>
              let e' := { e with keysReady := e.keysReady ++ ks }
              fillField (ks.foldl (fun u j => keyReady u e j) s1) e' t k)

/-- VAULT_GRANT (05 R139): the holder of a grant receives it. -/
def execVaultGrant (qp asn : Nat) (s : State) : Host.Outcome State Fault Refusal :=
  guardUnit (qpOk qp) qp s
    (if s.vault.grants.any (fun g => g.holder == (qp, asn)) then modEntry s qp asn (fun e => { e with grant := e.cpl.isNone })
    else s)

/-- The first key field of a descriptor that fails a check against its record, with the status. -/
def firstBadKey (s : State) (e : Entry) (p : Nat) (l : List KSpec) : Option (Nat × Nat) :=
  match l with
  | [] => none
  | x :: r =>
    if e.keysReady.contains x.k || (dKey e.desc x.k == 0 && x.optional) then firstBadKey s e p r
    else match checkKeyField s p (e.capture.getD 0) e.desc x with
      | .error st => some (st, x.k)
      | .ok _ => firstBadKey s e p r

/-- INPUT_READ_RETURN (02 R60, R62 check 6, R69): what the reads of a descriptor's lists and data bring. A failure of
check 5 is reported before one of check 6. -/
def inputReturn (s : State) (e : Entry) (r : ReadResult) : State :=
  match checkLists e.desc r with
  | .error (st, det) =>
    (match firstBadKey s e (qpOf s e.qp).partition (keysOf e.desc) with
      | some (st', k) => finishEntry s e (Cpl.fail st' k)
      | none => finishEntry s e (Cpl.fail st det))
  | .ok o =>
    if !readPlace s && o.ins.any (fun g => g.len != 0) then s
    else
    let s1 := o.ins.foldl (fun u g => readThrough u (qpOf s e.qp) g.addr g.len) s
    modEntry (inputTokens s1 e o.data) e.qp e.asn (fun x => { x with input := some o })

/-- INPUT_READ_RETURN (02 R60, R62, R69). -/
def execInputReadReturn (qp asn : Nat) (r : ReadResult) (s : State) : Host.Outcome State Fault Refusal :=
  guardUnit (qpOk qp) qp s
    (if !readsSent s qp (some asn) then s
    else
      let s1 := readsBack s qp (some asn)
      match entryOf s1 qp asn with
      | none => s1
      | some e =>
        if e.cpl.isSome || inputReady e || (e.tile.isNone && dClass e.desc != 0x0A) || s.tamper.halt then s1
        else inputReturn s1 e r)

/-- SCRIPT_CORE_ASSIGN (03 R471): a freed core of S0 to S2 goes by round robin over the partitions that wait, the lowest
ASN first within one. -/
def execScriptCoreAssign (t : Nat) (s : State) : Host.Outcome State Fault Refusal :=
  guardUnit (tileOk t) t s
    (let ws := coreWaiters s t
     let ps := ws.foldl (fun l e => insertAsc (qpOf s e.qp).partition l) []
     match freeCore s t, rrNext (tmemOf s t).rrScript ps with
     | some c, some p =>
       (match minBy (fun e => e.asn) (ws.filter (fun e => (qpOf s e.qp).partition == p)) with
         | some e =>
           let s1 := modTmem s t (fun m => { m with rrScript := p })
           modEntry (startCore s1 c e) e.qp e.asn (fun x => { x with script := .core c })
         | none => s)
     | _, _ => s)

end Sys2Proof.Machine
end

