-- ==== Sys2Proof/Machine/Oplist.lean ====
section
/-!
DEFINITION. The op-list library and its interpreter: the header and entry table of an image, the operations, the SECRET tags and the
rules a public-key core enforces (06 R196, R205 to R208; 11 R358).
-/

namespace Sys2Proof.Machine

open Sys2Proof

/-- Bank b. -/
def bankOf (s : State) (b : Nat) : FwBank := if b = 0 then s.fw.bank0 else s.fw.bank1

/-- An image verifies (11 R358): both signatures, MIN_ROM, and SEC_VERSION not below its kind's floor. The result of 10
R334 otherwise (log 33). -/
def imageResult (s : State) (i : FwImage) : Nat :=
  if i.kind < 1 ∨ 4 < i.kind then 0x0008
  else if !i.sigsOk then 0x000F
  else if s.ident.rom < i.minRom ∨ i.secVersion < s.fw.floors.getD (i.kind - 1) 0 then 0x0008
  else 0

/-- The image of a kind in bank b. -/
def imageOf (s : State) (b k : Nat) : Option FwImage := (bankOf s b).images.find? (fun i => i.kind == k)

/-- The image of a kind in bank b verifies. -/
def kindOk (s : State) (b k : Nat) : Bool :=
  match imageOf s b k with
  | some i => (bankOf s b).present && imageResult s i == 0
  | none => false

/-- The bank whose op-lists and standard scripts run: the boot bank, or the other one where its own fail (11 R355, R356). -/
def libBank (s : State) : Option Nat := [s.fw.boot, 1 - s.fw.boot].find? (fun b => kindOk s b 3 && kindOk s b 4)

/-- The op-list memory as the trusted kernel loads it, none where no bank's library verifies (06 R205; 01 R28). -/
def oplistImage (s : State) : Option (List Byte) :=
  ((libBank s).bind (fun b => imageOf s b 3)).map (fun i => i.body.take (min 32768 (field i.body 4 4)))

/-- An entry of the entry table, with the addresses its declassification table lists, 2 bytes each (06 R205; log 82). -/
structure OplistEntry where
  no       : Nat
  offset   : Nat
  maxPclk  : Nat
  iterCap  : Nat
  keygen   : Bool
  drbg     : Bool
  reject   : Bool
  declass  : List Nat

/-- The entry table of a library (06 R205). -/
def oplistEntries (lib : List Byte) : List OplistEntry :=
  (List.range (field lib 8 2)).map (fun i =>
    let b := slice lib (16 + 16 * i) 16
    let fl := field b 10 2
    { no := field b 0 2, offset := field b 2 2, maxPclk := field b 4 4, iterCap := field b 8 2, keygen := bit fl 0, drbg := bit fl 1,
      reject := bit fl 2, declass := (List.range (field b 14 2)).map (fun j => field lib (field b 12 2 + 2 * j) 2) })

/-- Does op-list no of a library draw from the DRBG (06 R205)? -/
def oplistDraws (lib : List Byte) (no : Nat) : Bool := (oplistEntries lib).any (fun e => e.no == no && e.drbg)

/-- The operations of an op-list on its registers (06 R206). Integer operands name integer registers, polynomial operands polynomial
registers; a curve is 0 P-256, 1 P-384 or 2 edwards25519, a point a register and the one after it. -/
inductive OplistOp where
  | mul (d a b m : Nat)
  | add (d a b m : Nat)
  | sub (d a b m : Nat)
  | inv (d a m : Nat)
  | point (curve d a b : Nat)
  | cswap (c a b : Nat)
  | csel (d c a b : Nat)
  | ntt (dsa inverse : Bool) (d a : Nat)
  | polyMul (dsa : Bool) (d a b : Nat)
  | polyAdd (dsa : Bool) (d a b : Nat)
  | polySub (dsa : Bool) (d a b : Nat)
  | decompose (alg hi lo a : Nat)
  | bound (d a limit : Nat)
  | hash (h d a len size : Nat)
  | blind (d len : Nat)
  | drbg (d len : Nat)
  | loadKey (d i : Nat)
  | compare (d a b : Nat)
  | declass (poly : Bool) (d : Nat)
  | branch (c target : Nat)
  | loop (c target : Nat)
  | out (a len : Nat)
  | store (a len : Nat)
  | halt
  | undefined
  deriving DecidableEq, Repr, Inhabited

/-- The operation at an offset of the op-list memory, its length there, and its cost in PCLK: the spec gives no encoding of an op-list
and no cost but that of the NTT (06 R196; log 82). -/
opaque oplistOpAt : List Byte → Nat → OplistOp × Nat × Nat

/-- How a run ends: with its result tokens and what it stored in the vault, with a fault of R208, at its iteration cap, or waiting for
the DRBG. -/
inductive OpEnd where
  | done (out : List (List Byte)) (stored : List Byte)
  | fault (n : Nat)
  | limit
  | waits

/-- A run in progress: its place, the PCLK and the iterations used, its registers, the blinding generator, what it has put out. -/
structure OpRun where
  pc     : Nat
  used   : Nat
  iters  : Nat
  file   : OpFile
  blind  : List Byte
  out    : List (List Byte)
  stored : List Byte

/-- What a run has beside its registers: its entry, the keys of its descriptor's key-ready tokens, and the branches and loops that stand
in its op-list. -/
structure OpEnv where
  lib   : List Byte
  entry : OplistEntry
  keys  : List (List Byte)
  jumps : List (Nat × OplistOp)

/-- The branches and loops from an address on, to the first operation that is undefined; fuel bounds their number. -/
def oplistJumps (lib : List Byte) (fuel pc : Nat) : List (Nat × OplistOp) :=
  match fuel with
  | 0 => []
  | fuel + 1 =>
    let (op, len, _) := oplistOpAt lib pc
    if lib.length ≤ pc then []
    else match op with
      | .undefined => []
      | .branch c t => (pc, .branch c t) :: oplistJumps lib fuel (pc + len)
      | .loop c t => (pc, .loop c t) :: oplistJumps lib fuel (pc + len)
      | _ => oplistJumps lib fuel (pc + len)

/-- A target outside the loop from lo to hi. -/
def leavesLoop (lo hi target : Nat) : Bool := decide (target < lo ∨ hi < target)

/-- A branch at an address to a target leaves a loop that it stands in (06 R207 rule 4). -/
def OpEnv.leaves (v : OpEnv) (here target : Nat) : Bool :=
  v.jumps.any (fun x => match x.2 with
    | .loop _ lo => decide (lo ≤ here ∧ here ≤ x.1) && leavesLoop lo x.1 target
    | _ => false)

/-- The loop from lo to hi has a data-dependent exit: a branch in it leaves it (06 R207 rule 4). -/
def OpEnv.mayLeave (v : OpEnv) (lo hi : Nat) : Bool :=
  v.jumps.any (fun x => match x.2 with
    | .branch _ t => decide (lo ≤ x.1 ∧ x.1 ≤ hi) && leavesLoop lo hi t
    | _ => false)

/-- The bytes that a hash-stream request gives: SHA-2, SHA-3, or size bytes of SHAKE (06 R189, R206). -/
def oplistHash (h size : Nat) (m : List Byte) : List Byte :=
  match h with
  | 0 => sha256 m
  | 1 => sha384 m
  | 2 => sha512 m
  | 3 => sha3_256 m
  | 4 => sha3_384 m
  | 5 => sha3_512 m
  | 6 => shake128 m size
  | _ => shake256 m size

/-- An integer register and its SECRET tag (06 R196; R208 fault 6). -/
def OpRun.int (x : OpRun) (r : Nat) : Except OpEnd (Nat × Bool) :=
  if r < 32 then .ok (tblGet (0, false) x.file.ints r) else .error (.fault 6)

/-- A polynomial register and its SECRET tag. -/
def OpRun.poly (x : OpRun) (r : Nat) : Except OpEnd (List Nat × Bool) :=
  if r < 48 then .ok (tblGet (polyZero, false) x.file.polys r) else .error (.fault 6)

/-- Write an integer register: 4,096 bits and its tag. -/
def OpRun.setInt (x : OpRun) (r v : Nat) (secret : Bool) : Except OpEnd OpRun :=
  if r < 32 then .ok { x with file := { x.file with ints := tblSet x.file.ints r (v % 2 ^ 4096, secret) } } else .error (.fault 6)

/-- Write a polynomial register. -/
def OpRun.setPoly (x : OpRun) (r : Nat) (v : List Nat) (secret : Bool) : Except OpEnd OpRun :=
  if r < 48 then .ok { x with file := { x.file with polys := tblSet x.file.polys r (v, secret) } } else .error (.fault 6)

/-- A register that must be clear: a SECRET one gives fault n (06 R207 rule 1). -/
def OpRun.clear (x : OpRun) (r n : Nat) : Except OpEnd Nat := do
  let (v, sec) ← x.int r
  if sec then .error (.fault n) else .ok v

/-- A modular operation of two registers: a SECRET input makes the result SECRET (06 R207). -/
def OpRun.arith (x : OpRun) (f : Nat → Nat → Nat → Nat) (d a b m : Nat) : Except OpEnd OpRun := do
  let u ← x.int a
  let v ← x.int b
  let n ← x.int m
  x.setInt d (f u.1 v.1 n.1) (u.2 || v.2 || n.2)

/-- The sum of two points of a curve, affine, (0, 0) for the identity of P-256 and P-384. -/
def oplistPoint (curve : Nat) (u v : Nat × Nat) : Nat × Nat :=
  let c := if curve = 0 then p256 else p384
  let p (w : Nat × Nat) : Point := if w = (0, 0) then none else some w
  if curve = 2 then edAdd u v else (c.add (p u) (p v)).getD (0, 0)

/-- The ring of an operation on polynomials. -/
def oplistRing (dsa : Bool) : Ntt := if dsa then nttDsa else nttKem

/-- A polynomial operation of two registers. -/
def OpRun.polyOp (x : OpRun) (f : List Nat → List Nat → List Nat) (d a b : Nat) : Except OpEnd OpRun := do
  let u ← x.poly a
  let v ← x.poly b
  x.setPoly d (f u.1 v.1) (u.2 || v.2)

/-- One more iteration of a loop that may exit on a data-dependent condition: it stops at ITER_CAP (06 R207 rule 4). -/
def OpRun.again (x : OpRun) (e : OplistEntry) (target : Nat) : Except OpEnd OpRun :=
  if e.iterCap ≤ x.iters + 1 then .error .limit else .ok { x with pc := target, iters := x.iters + 1 }

/-- Branch to a target: backward, or out of a loop, only where the entry has REJECT (06 R207 rule 4). -/
def OpRun.jump (x : OpRun) (v : OpEnv) (here target : Nat) : Except OpEnd OpRun :=
  if here < target ∧ v.leaves here target = false then .ok { x with pc := target }
  else if !v.entry.reject then .error (.fault 5)
  else if here < target then .ok { x with pc := target }
  else x.again v.entry target

/-- One operation, standing at here, but for those that draw from the DRBG or end the run (06 R206, R207). A flag that its entry lacks
makes an operation undefined (log 82). -/
def opEffect (v : OpEnv) (here : Nat) (op : OplistOp) (x : OpRun) : Except OpEnd OpRun :=
  match op with
  | .mul d a b m => x.arith (fun u w n => u * w % n) d a b m
  | .add d a b m => x.arith (fun u w n => (u + w) % n) d a b m
  | .sub d a b m => x.arith subMod d a b m
  | .inv d a m => x.arith (fun u _ n => invMod u n) d a a m
  | .point c d a b => do
    let ax ← x.int a
    let ay ← x.int (a + 1)
    let bx ← x.int b
    let by_ ← x.int (b + 1)
    let sec := ax.2 || ay.2 || bx.2 || by_.2
    let r := oplistPoint c (ax.1, ay.1) (bx.1, by_.1)
    (← x.setInt d r.1 sec).setInt (d + 1) r.2 sec
  | .cswap c a b => do
    let k ← x.int c
    let u ← x.int a
    let w ← x.int b
    let sec := k.2 || u.2 || w.2
    (← x.setInt a (if k.1 = 0 then u.1 else w.1) sec).setInt b (if k.1 = 0 then w.1 else u.1) sec
  | .csel d c a b => do
    let k ← x.int c
    let u ← x.int a
    let w ← x.int b
    x.setInt d (if k.1 = 0 then w.1 else u.1) (k.2 || u.2 || w.2)
  | .ntt dsa inverse d a => do
    let u ← x.poly a
    x.setPoly d ((if inverse then (oplistRing dsa).inv else (oplistRing dsa).fwd) u.1) u.2
  | .polyMul dsa d a b => x.polyOp (oplistRing dsa).mul d a b
  | .polyAdd dsa d a b => x.polyOp (polyAdd (oplistRing dsa).q) d a b
  | .polySub dsa d a b => x.polyOp (polySub (oplistRing dsa).q) d a b
  | .decompose alg hi lo a => do
    let u ← x.poly a
    let r := u.1.map (dsaDecompose (dsaSet alg))
    (← x.setPoly hi (r.map (fun y => y.1)) u.2).setPoly lo (r.map (fun y => (y.2 % (dsaQ : Int)).toNat)) u.2
  | .bound d a limit => do
    let u ← x.poly a
    x.setInt d (b2n (decide (dsaNorm [u.1] < limit))) u.2
  | .hash h d a len size => do
    let n ← x.clear len 8
    let u ← x.int a
    x.setInt d (beNat (oplistHash h (min 512 size) (beBytes (min 512 n) u.1))) u.2
  | .blind d len => (x.setInt d (beNat (Config.maskOut x.blind len)) true).map (fun y => { y with blind := Config.maskNext y.blind })
  | .loadKey d i =>
    match v.keys[i]? with
    | some k => x.setInt d (beNat k) true
    | none => .error (.fault 6)
  | .compare d a b => do
    let u ← x.int a
    let w ← x.int b
    x.setInt d (b2n (u.1 == w.1)) (u.2 || w.2)
  | .declass poly d =>
    if !v.entry.declass.contains here then .error (.fault 3)
    else if poly then do
      let u ← x.poly d
      x.setPoly d u.1 false
    else do
      let u ← x.int d
      x.setInt d u.1 false
  | .branch c target => do
    let u ← x.clear c 1
    if u = 0 then .ok x else x.jump v here target
  | .loop c target => do
    let u ← x.clear c 1
    let y ← x.setInt c (u - 1) false
    if u ≤ 1 then .ok y else if v.mayLeave target here then y.again v.entry target else .ok { y with pc := target }
  | .out a len => do
    let u ← x.int a
    if u.2 then .error (.fault 2) else .ok { x with out := x.out ++ [beBytes len u.1] }
  | .store a len =>
    if !v.entry.keygen then .error (.fault 5)
    else do
      let u ← x.int a
      .ok { x with stored := x.stored ++ beBytes len u.1 }
  | .drbg _ _ => .ok x
  | .halt => .ok x
  | .undefined => .error (.fault 5)

/-- A run of an op-list to its end: fuel bounds its operations, each of at least 1 PCLK, by MAX_PCLK (06 R206, R207). q is the quarter
whose DRBG it draws from. -/
def runOps (v : OpEnv) (q fuel : Nat) (s : State) (x : OpRun) : OpEnd × State :=
  match fuel with
  | 0 => (.fault 4, s)
  | fuel + 1 =>
    let (op, len, cost) := oplistOpAt v.lib x.pc
    let pclk := match op with
      | .ntt _ _ _ _ => 280
      | _ => max 1 cost
    let y := { x with pc := x.pc + len, used := x.used + pclk }
    if v.entry.maxPclk < y.used then (.fault 4, s)
    else match op with
      | .halt => (.done y.out y.stored, s)
      | .drbg d n =>
        if !v.entry.drbg then (.fault 5, s)
        else match drawRandom s q n with
          | .bytes b t =>
            (match y.setInt d (beNat b) true with
            | .ok z => runOps v q fuel t z
            | .error e => (e, t))
          | _ => (.waits, s)
      | _ =>
        match opEffect v x.pc op y with
        | .ok z => runOps v q fuel s z
        | .error e => (e, s)

/-- Run op-list no of a library on a register file: one that the table does not name is undefined (06 R205, R208; log 82). -/
def runOplist (s : State) (q no : Nat) (lib : List Byte) (keys : List (List Byte)) (file : OpFile) (blind : List Byte) : OpEnd × State :=
  match (oplistEntries lib).find? (fun e => e.no == no) with
  | none => (.fault 5, s)
  | some e =>
    runOps { lib := lib, entry := e, keys := keys, jumps := oplistJumps lib lib.length e.offset } q (e.maxPclk + 1) s
      { pc := e.offset, used := 0, iters := 0, file := file, blind := blind, out := [], stored := [] }

end Sys2Proof.Machine
end

