-- ==== Sys2Proof/Machine/Tiles.lean ====
section
/-!
DEFINITION. A tile at work: steps in its engines, the umpire and its retries, hash and public-key runs, quarantine, and
the fencing of a tile (01 R22; 03 R85, R88, R90, R91, R94 to R101; 06 R178, R190, R191, R200, R208, R209; 16 R452).
-/

namespace Sys2Proof.Machine

open Sys2Proof

/-- DATA_INTEGRITY_ERROR (02 R69). -/
def cplData : Cpl := Cpl.fail 0x00F1 0

/-- A step of a descriptor fires: from here its deadline is never examined (02 R61, 03 R93). -/
def markFired (s : State) (e : Entry) : State :=
  modEntry s e.qp e.asn (fun x => { x with fired := true, deadline := none })

/-- Step i of a descriptor goes into an engine of kind k: its operand tokens leave the matching store (03 R85, R93). A step that the
graph does not hold yet is declared with it (R83). -/
def beginStep (s : State) (t : Nat) (e : Entry) (k : StepKind) (i : Nat) : State :=
  let put (l : List Step) : List Step :=
    if i < l.length then setStep l i (fun y => { y with state := 1 }) else l ++ [{ kind := k, state := 1 }]
  takeTokens (modEntry (markFired s e) e.qp e.asn (fun x => { x with steps := put x.steps })) t e.ctx i

/-- The matched operands of step i of a descriptor, in the order of their arrival (03 R85). -/
def stepOps (s : State) (t : Nat) (e : Entry) (i : Nat) : List (List Byte) :=
  ((tmemOf s t).tokens.filter (fun x => x.ctx == e.ctx && x.step == i)).map (fun x => x.value)

/-- Step i of a descriptor as an engine runs it, in n blocks. -/
def graphRun (s : State) (t : Nat) (e : Entry) (i n : Nat) : StepRun :=
  { qp := e.qp, asn := e.asn, step := i, left := n, ops := stepOps s t e i }

/-- Step i of a descriptor is done: what it gives goes to the next step as a token of a KIND (03 R84, R95). -/
def endStepAs (s : State) (qp asn i kind : Nat) : State :=
  match entryOf s qp asn with
  | none => s
  | some e => putToken (stepState s qp asn i 2) e (tokenFor s e ((i + 1) % 64) 5 kind [])

/-- Step i of a descriptor is done with a status token. -/
def endStep (s : State) (qp asn i : Nat) : State := endStepAs s qp asn i 2

/-- Pair k of tile t takes step i of e, if it is the turn of its partition and the lowest ASN there (03 R85, R98). -/
def firePair (s : State) (t k i : Nat) (e : Entry) : State :=
  let m := tmemOf s t
  if (pairRun m k).isSome || pairQuar (tileOf s t) k then s
  else if (turnOf s m.rrPair (readyFor s t .lane)).any (fun x => x.isOf e.qp e.asn) then
    enterEngine (modTmem (beginStep s t e .lane i) t (fun m => { m with rrPair := (qpOf s e.qp).partition, heart := s.now })) t .lane k
      (graphRun s t e i (laneBlocks e.desc))
  else s

/-- The op-list of a command of classes 0x08 and 0x09: the table has no number for it; its command code (log 82). -/
def oplistNo (d : List Byte) : Nat := dCmd d

/-- A public-key core asks the tile's hash unit for the blocks of the hash streams, digests and hash trees of op-list no, which the
op-list fixes (06 R189, R190; log 82). -/
def askHash (s : State) (t k no : Nat) (r : StepRun) : State :=
  let n := Config.oplistBlocks (pkeOf (tileOf s t) k).lib no
  if n = 0 then s else enterEngine s t .hash 0 { r with core := some k, left := n }

/-- Public-key core k of tile t takes step i of e, if the weighted round robin has come to its partition and it is the lowest ASN
there (03 R85; log 28). Key generation runs on K1 alone (06 R196). -/
def firePke (s : State) (t k i : Nat) (e : Entry) : State :=
  let c := pkeOf (tileOf s t) k
  let p := (qpOf s e.qp).partition
  match pkeTurn s t (readyFor s t .pke) with
  | none => s
  | some (q, left) =>
    if c.busy || !c.loaded || (k == 0 && isPkGenerate (dCmd e.desc)) || q != p ||
      !(lowestOf s (readyFor s t .pke) p).any (fun x => x.isOf e.qp e.asn) then s
    else
      let r := graphRun s t e i 1
      let s1 := modTmem (beginStep s t e .pke i) t (fun m => { m with pkeAt := q, pkeLeft := left, heart := s.now })
      askHash (enterEngine s1 t .pke k r) t k (oplistNo e.desc) r

/-- The blocks of a hash step (06 R189): those of the message for the commands of class 0x0B, with the further blocks that SHAKE
squeezes; one for the others, whose standard scripts are not given (log 27). -/
def hashBlocks (d : List Byte) : Nat :=
  let n := bits (dParamN d) 7 0
  let len := if dSgl d then dInTotal d else n
  let out := bits (dParamN d) 20 8
  match dCmd d with
  | 0x0B01 => cdiv (len + 9) 64
  | 0x0B02 => cdiv (len + 17) 128
  | 0x0B03 => cdiv (len + 17) 128
  | 0x0B11 => len / 136 + 1
  | 0x0B12 => len / 104 + 1
  | 0x0B13 => len / 72 + 1
  | 0x0B21 => len / 168 + 1 + (cdiv out 168 - 1)
  | 0x0B22 => len / 136 + 1 + (cdiv out 136 - 1)
  | _ => 1

/-- Step i of e asks for the hash unit: its first block waits for the boundary at which its turn comes (06 R190). -/
def fireHash (s : State) (t i : Nat) (e : Entry) : State :=
  let s1 := modTmem (beginStep s t e .hash i) t (fun m => { m with heart := if m.hashRun.isSome then m.heart else s.now })
  enterEngine s1 t .hash 0 (graphRun s t e i (hashBlocks e.desc))

/-- A step that no engine is waited for, the lowest that is ready: a key-block cache lookup, a fixed-function check, a result build
(03 R83). It is done as it fires, a lookup with a hit or a miss token: which block the script looks up is not given, so which of the
two is a free value (log 27). -/
def fireFixed (s : State) (t : Nat) (e : Entry) : State :=
  match [StepKind.lookup, StepKind.check, StepKind.build].findSome? (fun k => (nextStep e k).map (fun i => (k, i))) with
  | none => s
  | some (k, i) =>
    let (v, u) := takeFree (beat (beginStep s t e k i) t)
    if k = .lookup then endStepAs u e.qp e.asn i (3 + v % 2) else endStep (beat (beginStep s t e k i) t) e.qp e.asn i

/-- The kind of step that an engine runs. -/
def Engine.kind (g : Engine) : StepKind :=
  match g with
  | .pair _ => .lane
  | .pke _ => .pke
  | .hash => .hash
  | .fixed => .check

/-- A step of descriptor e fires in engine g of its tile: its command's, or the next that its standard script declares (03 R83,
R85). A step that a tenant script has issued fires with its KOP's command. -/
def fire (s : State) (e : Entry) (g : Engine) : State :=
  match e.tile with
  | none => s
  | some t =>
    if !bodyReady s e || dClass e.desc == 0x0D then s
    else match g, nextStep e (Engine.kind g) with
      | .fixed, _ => fireFixed s t e
      | _, none => s
      | .pair k, some i => if k < 2 then firePair s t k i e else s
      | .pke k, some i => if k < 2 then firePke s t k i e else s
      | .hash, some i => fireHash s t i e

/-- STEP_FIRE (03 R85, R88, R90; 02 R61). -/
def execStepFire (qp asn : Nat) (e : Engine) (s : State) : Host.Outcome State Fault Refusal :=
  guardUnit (qpOk qp) qp s
    (match entryOf s qp asn with
      | none => s
      | some x => fire s x e)

/-- A descriptor goes back to its in-flight entry to be homed again: what it held in the tile is gone, a counter it drew is
never used again; its reservation, line and grant stay (03 R96, R97, R99; 05 R139). -/
def redispatch (s : State) (e : Entry) : State :=
  modEntry (leaveTile s e) e.qp e.asn (fun x =>
    { x with tile := none, input := none, nonce := none, tilesRun := (match e.tile with
      | some t => insertAsc t x.tilesRun
      | none => x.tilesRun) })

/-- Entries on L4 of a quarter. -/
def l4Count (s : State) (q : Nat) : Nat :=
  (s.entries.filter (fun e => e.quarter == q && e.cpl.isNone && (match e.park with
    | .l4 _ _ => true
    | _ => false))).length

/-- A descriptor's second mismatch: it goes to a tile that has not run it after 2 ticks on L4, without back-off where L4 is
full; with no such tile it ends (03 R94, R96). -/
def secondMismatch (s : State) (e : Entry) (t : Nat) : State :=
  if (tilesOf s e.quarter).any (fun x => x != t && !e.tilesRun.contains x) then
    let (k, u) := takeIns s e.quarter
    modEntry (redispatch u e) e.qp e.asn (fun x =>
      { x with redispatched := true, freshTile := true, mism := e.mism + 1,
               park := if l4Count s e.quarter < 1024 then .l4 (s.now + 2) k else .none })
  else finishEntry s e cplIntegrity

/-- The first mismatch: the step is issued at once on the other pair, or as soon as that pair is free (03 R96, R105). -/
def reissue (s : State) (e : Entry) (t o : Nat) (r : StepRun) : State :=
  takeRetry (modEntry s e.qp e.asn (fun x => { x with mism := x.mism + 1, retryOn := some (o, { r with shares := [] }) })) t o

/-- Every tile of quarter q is fenced or disabled (03 R100); a tile that is not in RUN counts as disabled (15 R435, R436). -/
def allFenced (s : State) (q : Nat) : Bool :=
  (List.range 4).all (fun i =>
    let x := tileOf s (4 * q + i)
    x.fenced || !x.enable || x.power != 0)

/-- An accepted descriptor is lost with its quarter: it gives back its tile, grant, line and reservation, unless its
commit unit goes on without it (03 R100; 04 R120, R125). -/
def loseEntry (s : State) (e : Entry) : State :=
  let s1 := leaveTile s e
  let s2 := if unitQueued s e.qp e.asn then s1
    else modPart (releaseLine (releaseGrant s1 e.qp e.asn) e.line) (qpOf s e.qp).partition
      (fun x => { x with recordsReserved := x.recordsReserved - e.records })
  delEntry s2 e.qp e.asn

/-- Quarter q fails as a whole: its entries, dispatch state and DRBG are lost, its failure recorded and raised; its queue
pairs are then re-homed one by one (03 R100; 04 R120; 09 R315; 14 R414). -/
def failQuarter (s : State) (q cause : Nat) : State :=
  if (quarterOf s q).failed then s
  else
    let s1 := (s.entries.filter (fun e => e.quarter == q)).foldl loseEntry s
    let s2 := modQuarter s1 q (fun x =>
      { x with failed := true, failCause := cause, ops := [], pke := [], l5 := [], drain := [], nonce := [], matchQ := [],
               workSince := none })
    let s3 := { s2 with qps := s2.qps.map (fun x => if x.2.home = q then (x.1, { x.2 with fetching := 0, paused := false }) else x) }
    let s4 := modDrbg s3 q (fun d => { Drbg.reset with drawn := d.drawn })
    record (raiseModule (raiseIsr s4 5) (0x60 + q)) 0x3013 1 q (leBytes 2 (qpsHomed s q))

/-- The stores of a fenced tile: erased, its engines empty (03 R99). -/
def TileMem.fence (m : TileMem) : TileMem :=
  { m with cache := [], pinQ := [], moduleArea := none, tokens := [], sens := [], pair0 := none, pair1 := none,
           hashRun := none, hashWait := [], hashRetry := false }

/-- Tile t is fenced for a cause: it is erased, its unfinished descriptors go back to their entries, and a quarter with no
tile left fails (03 R99, R100; 09 R315; 14 R414). The management plane records it at its next tick (01 R21). -/
def fenceTile (s : State) (t cause : Nat) : State :=
  if (tileOf s t).fenced then s
  else
    let es := homedOn s t
    let s1 := modTile (es.foldl redispatch s) t (fun x =>
      { x with fenced := true, fenceCause := cause, pke0 := x.pke0.stop, pke1 := x.pke1.stop })
    let s2 := modTmem s1 t TileMem.fence
    let rcd : TickRec := { code := 0x3012, kind := 2, src := t, data := leBytes 1 cause ++ leBytes 2 es.length }
    let s3 := modEvr (raiseModule (raiseIsr s2 5) (0x10 + t)) (fun v => { v with atTick := v.atTick ++ [rcd] })
    if allFenced s3 (t / 4) then failQuarter s3 (t / 4) 2 else s3

/-- A mismatch of pair k of tile t is counted and reported; the third within 1,000,000 ticks quarantines the pair (03 R98, R101). -/
def reportMismatch (s : State) (t k : Nat) : State :=
  let x := tileOf s t
  let h := s.now :: (if k = 0 then x.hist0 else x.hist1).filter (fun y => decide (s.now ≤ y + 1000000))
  let n := 2 * t + k
  let s1 := modTile s t (fun x => if k = 0 then { x with mism0 := sat 255 (x.mism0 + 1), hist0 := h }
    else { x with mism1 := sat 255 (x.mism1 + 1), hist1 := h })
  let s2 := record (raiseModule s1 (0x20 + n)) 0x3010 3 n (leBytes 1 (sat 255 h.length))
  if 3 ≤ h.length ∧ pairQuar x k = false then
    let s3 := modTile s2 t (fun x => if k = 0 then { x with quar0 := true } else { x with quar1 := true })
    record (raiseModule s3 (0x40 + n)) 0x3011 3 n []
  else s2

/-- What becomes of a descriptor whose step i the umpire discarded on pair k of tile t (03 R96). -/
def afterMismatch (s : State) (t k : Nat) (r : StepRun) : State :=
  match entryOf s r.qp r.asn with
  | none => s
  | some e =>
    if e.tile ≠ some t ∨ e.cpl.isSome then s
    else if e.redispatched then finishEntry s e cplIntegrity
    else if e.mism = 0 ∧ pairQuar (tileOf s t) (1 - k) = false then reissue s e t (1 - k) r
    else secondMismatch s e t

/-- A step that waits to be issued again on pair k, quarantined meanwhile: its descriptor's first mismatch is handled as a second
(03 R96, R98). Its mismatch is counted already. -/
def strandedRetry (s : State) (t k : Nat) : State :=
  (((homedOn s t).filter (fun e => e.retryOn.any (fun x => x.1 == k)))).foldl (fun u e => secondMismatch u { e with mism := e.mism - 1 } t) s

/-- A mismatch on pair k of tile t: reported, its descriptor dealt with, and the tile fenced where both its pairs are quarantined now
(03 R96, R98, R99). -/
def mismatch (s : State) (t k : Nat) (r : StepRun) : State :=
  let s1 := afterMismatch (reportMismatch s t k) t k r
  let s2 := if pairQuar (tileOf s1 t) k then strandedRetry s1 t k else s1
  if (tileOf s2 t).quar0 ∧ (tileOf s2 t).quar1 then fenceTile s2 t 3 else s2

/-- A step that a script has issued is done: its token is released; a key block whose digest the lookup missed goes on to the lanes (03
R95; 05 R141; 09 R299). -/
def releaseKop (s : State) (qp asn i : Nat) : State :=
  match (entryOf s qp asn).bind Entry.coreOf? with
  | none => s
  | some c => modTicket s c i (fun x => match x.held with
    | some k => { x with tok := some k, held := none }
    | none => { x with stage := 2 })

/-- An engine is done with a step: the step is over, in its graph or at its script (03 R95). -/
def stepEnds (s : State) (r : StepRun) : State := if r.kop then releaseKop s r.qp r.asn r.step else endStep s r.qp r.asn r.step

/-- A step reaches its umpire cycle (03 R90, R95, R96): the pair is free, and what waits for it may start. -/
def umpire (s : State) (t k : Nat) (agree : Bool) : State :=
  match pairRun (tmemOf s t) k with
  | none => s
  | some r =>
    let s1 := beat (modTmem s t (fun m => setPair m k none)) t
    takeRetry (if agree then stepEnds s1 r else mismatch s1 t k r) t k

/-- LANE_STEP_DONE (03 R90, R94 to R99, R101). -/
def execLaneStepDone (t pair : Nat) (agree : Bool) (s : State) : Host.Outcome State Fault Refusal :=
  guardUnit (tileOk t && decide (pair < 2)) t s (umpire s t pair agree)

/-- What stands on L4 of quarter q (03 R91). -/
def l4List (s : State) (q : Nat) : List (Nat × Nat) :=
  s.entries.filterMap (fun e => if e.quarter = q ∧ e.cpl.isNone then (match e.park with
    | .l4 t n => some (t, n)
    | _ => none) else none)

/-- RETRY_BACKOFF_EXPIRY (03 R91, R92, R96): the head of L4 leaves it to be homed. -/
def execRetryBackoffExpiry (qp asn : Nat) (s : State) : Host.Outcome State Fault Refusal :=
  guardUnit (qpOk qp) qp s
    (match entryOf s qp asn with
      | none => s
      | some e =>
        match e.park with
        | .l4 t n =>
          if isHead (t, n) (l4List s e.quarter) then modEntry (advanceTo s t) qp asn (fun x => { x with park := .none }) else s
        | _ => s)

/-- Record and raise a public-key fault of core k of tile t with its one byte of data (06 R200, R208; 14 R414). -/
def reportPke (s : State) (t k v : Nat) : State :=
  record (raiseModule s (0x64 + t / 4)) 0x3014 4 (2 * t + k) (leBytes 1 v)

/-- A failed check abandons the op-list: once more on the other core, key generation on K1 again, then the descriptor ends (06 R196,
R200; log 28). The spec numbers no check kinds: the record's byte is a free value (log 29). -/
def checkFailed (s : State) (t k : Nat) (r : StepRun) (second : Bool) (e : Entry) : State :=
  let (v, s0) := takeFree s
  let s1 := reportPke (modPke s0 t k (fun c => { c with checkErr := sat 255 (c.checkErr + 1) })) t k (v % 256)
  let o := if isPkGenerate (dCmd e.desc) then 1 else 1 - k
  if second then finishEntry s1 e cplIntegrity
  else takeRecheck (modEntry s1 e.qp e.asn (fun x => { x with retryOn := some (2 + o, r) })) t o

/-- The keys of a descriptor's key-ready tokens, as its tile's cache holds them (03 R89; 06 R206). -/
def readyKeys (s : State) (t : Nat) (e : Entry) : List (List Byte) := pinnedKeys (tmemOf s t) e.qp e.asn

/-- The ticket that a run is of, if a script has issued it. -/
def ticketOfRun (s : State) (e : Entry) (r : StepRun) : Option Ticket :=
  if r.kop then e.coreOf?.bind (fun c => (coreOf s c).tickets[r.step]?) else none

/-- The key that a ticket names: a handle's, or that of a key-ready ticket, from the cache (09 R299). -/
def ticketKeys (s : State) (t : Nat) (e : Entry) (k : Ticket) : List (List Byte) :=
  let name : Option CacheName := match keyTicket k.key with
    | some j => (e.coreOf?.bind (fun c => (coreOf s c).tickets[j]?)).bind (fun x => x.tok.bind (fun y => y.name))
    | none => if k.key = 0 then none else some (.key k.key)
  ((tmemOf s t).cache.filter (fun x => some x.name == name && x.pins.contains (e.qp, e.asn))).map (fun x => fit x.key.keyLen x.key.mat)

/-- A fault of an op-list ends its descriptor and is counted, kept and reported (06 R208, R209). -/
def oplistFault (s : State) (t k n : Nat) (e : Entry) : State :=
  let s1 := modPke s t k (fun c => { c with lastFault := n, faultCount := sat 255 (c.faultCount + 1) })
  finishEntry (reportPke s1 t k n) e (Cpl.fail 0x0073 n)

/-- What an op-list puts out goes to its descriptor's result tokens, 32 bytes each (03 R84; 06 R206). -/
def putResults (s : State) (e : Entry) (i : Nat) (out : List (List Byte)) : State :=
  let l := out.flatMap (chunks 32)
  ((List.range l.length).zip l).foldl (fun u x => putToken u e (tokenFor u e ((i + 1) % 64) (x.1 % 6) 0 x.2)) s

/-- The result of an op-list that a script has run: the start of what it puts out, kept in the sensitive store where the op-list declares
it; none while that store is full (03 R88; 09 R300; log 14). -/
def kopResult (s : State) (t : Nat) (e : Entry) (i no : Nat) (out : List (List Byte)) : Option State :=
  let v := out.flatten.take 32
  let give (u : State) (k : Token) : State := match e.coreOf? with
    | some c => modTicket u c i (fun x => { x with held := some k })
    | none => u
  if Config.oplistOut no then
    if 256 ≤ (tmemOf s t).sens.length then none
    else some (give (modTmem s t (fun m => { m with sens := m.sens ++ [{ qp := e.qp, asn := e.asn, step := i, value := v }] }))
      { tokenFor s e i 0 0 [] with sens := true })
  else some (give s (tokenFor s e i 0 0 v))

/-- What an op-list has stored goes to the vault fill path of its descriptor (06 R206). -/
def storeVault (s : State) (e : Entry) (v : List Byte) : State := modEntry s e.qp e.asn (fun x => { x with stored := x.stored ++ v })

/-- A run on core k has come to its end by the op-list itself: it is done, or a rule or its cap ended it (06 R198, R206 to R208). None
where it waits. -/
def oplistEnds (s : State) (t k : Nat) (r : StepRun) (e : Entry) (x : OpEnd) : Option State :=
  match x with
  | .done out stored =>
    (match ticketOfRun s e r with
    | some tk => (kopResult (storeVault s e stored) t e r.step tk.param out).map (fun u => stepEnds u r)
    | none => some (stepEnds (putResults (storeVault s e stored) e r.step out) r))
  | .fault n => some (oplistFault s t k n e)
  | .limit => some (finishEntry s e (Cpl.fail 0x0072 0))
  | .waits => none

/-- The op-list memory of a core is loaded again (06 R208 fault 7). -/
def reloadOplist (s : State) (t k : Nat) : State :=
  modPke s t k (fun c => { c with lib := (oplistImage s).getD [], loaded := (oplistImage s).isSome })

/-- What a run of descriptor e on core k comes to, with the DRBG bytes it draws (06 R206, R207). -/
def oplistRun (s : State) (t k : Nat) (e : Entry) (r : StepRun) : OpEnd × State :=
  let c := pkeOf (tileOf s t) k
  match ticketOfRun s e r with
  | some tk =>
    let (x, u) := runOplist s (t / 4) tk.param c.lib (ticketKeys s t e tk) c.file c.blind
    (x, if oplistDraws c.lib tk.param then modCore u (e.coreOf?.getD 0) (fun y => { y with drew := true }) else u)
  | none => runOplist s (t / 4) (oplistNo e.desc) c.lib (readyKeys s t e) c.file c.blind

/-- A hash stream of core k's run still stands at the hash unit (06 R189, R190). -/
def streamOpen (m : TileMem) (k : Nat) : Bool := (m.hashRun.toList ++ m.hashWait).any (fun r => r.core == some k)

/-- The hash streams of a core that abandons its run leave the hash unit. -/
def dropStream (s : State) (t k : Nat) : State :=
  nextHash (modTmem s t (fun m =>
    { m with hashRun := m.hashRun.filter (fun r => r.core != some k), hashWait := m.hashWait.filter (fun r => r.core != some k) })) t

/-- An op-list run ends (06 R196, R200, R207 to R209): by itself, at a failed check, or at a parity error of its memory. The core's
registers are zero then; a run whose hash streams are not done or that waits for the DRBG goes on waiting. -/
def oplistDone (s : State) (t k : Nat) (r : OplistEnd) : State :=
  let c := pkeOf (tileOf s t) k
  match c.run with
  | none => s
  | some run =>
    let free (u : State) : State :=
      beat (modPke (dropStream u t k) t k (fun c => { c.stop with blind := Config.maskNext c.blind })) t
    let done := match entryOf s run.qp run.asn with
      | none => some (free s)
      | some e =>
        match r with
        | .checkFailed => some (checkFailed (free s) t k run c.checked e)
        | .parity => some (reloadOplist (oplistFault (free s) t k 7 e) t k)
        | .ends =>
          if streamOpen (tmemOf s t) k then none
          else
            let (x, u) := oplistRun s t k e run
            oplistEnds (free u) t k run e x
    match done with
    | none => s
    | some u => takeRecheck u t k

/-- PKE_OPLIST_DONE (06 R196, R200, R207 to R209). -/
def execPkeOplistDone (t k : Nat) (r : OplistEnd) (s : State) : Host.Outcome State Fault Refusal :=
  guardUnit (tileOk t && decide (k < 2)) t s (oplistDone s t k r)

/-- The second parity mismatch of a block: reported, and its descriptor ends (06 R191; 14 R414; log 29). -/
def hashFailed (s : State) (t qp asn : Nat) : State :=
  let (v, s0) := takeFree s
  let s1 := record (raiseModule s0 0x68) 0x3015 2 t (leBytes 1 (v % 256))
  match entryOf s1 qp asn with
  | none => s1
  | some e => finishEntry s1 e cplData

/-- A block of a step has run: the step's next block asks for its turn again, or the step is done; a hash stream of a public-key core ends
with its last block (06 R189, R190). -/
def blockDone (s : State) (t : Nat) (r : StepRun) : State :=
  if 1 < r.left then modTmem s t (fun m => { m with hashWait := m.hashWait ++ [{ r with left := r.left - 1 }] })
  else if r.core.isSome then s
  else stepEnds s r

/-- A block is finished; a parity mismatch repeats it once (06 R190, R191). -/
def hashDone (s : State) (t : Nat) (parityOk : Bool) : State :=
  let m := tmemOf s t
  match m.hashRun with
  | none => s
  | some r =>
    let s0 := beat s t
    if !parityOk && !m.hashRetry then modTmem s0 t (fun m => { m with hashRetry := true })
    else
      let s1 := modTmem s0 t (fun m => { m with hashRun := none, hashRetry := false })
      nextHash (if parityOk then blockDone s1 t r else hashFailed s1 t r.qp r.asn) t

/-- HASH_BLOCK_DONE (06 R190, R191). -/
def execHashBlockDone (t : Nat) (parityOk : Bool) (s : State) : Host.Outcome State Fault Refusal :=
  guardUnit (tileOk t) t s (hashDone s t parityOk)

/-- An error in the staging or matching-store data of a descriptor, or in the local memory of the script core that runs it, ends it with
DATA_INTEGRITY_ERROR and is recorded; the record's check kind is a free value (03 R85; 09 R304; 14 R414; log 29). -/
def dataError (s : State) (e : Entry) : State :=
  match e.tile, e.cpl with
  | some t, none =>
    let (v, s1) := takeFree s
    record (finishEntry s1 { e with fired := true } cplData) 0x3016 2 t (leBytes 1 (v % 256))
  | _, _ => s

/-- An uncorrectable error in a core's local memory: a script core's descriptor ends and the record of it is the module event (09 R304:
R316 lists no source for it, log 90), a management core takes fault 12 (R305). -/
def memoryError (s : State) (c : Nat) : State :=
  if 64 ≤ c then takeFault s c fltMemEcc
  else match coreEntry s c with
    | none => s
    | some e => dataError s e

/-- TILE_MATCHING_PARITY (03 R85; 09 R304, R305): a token of the descriptor fails its parity in the matching store; or, where the operand
names a core, an error in that core's local memory cannot be corrected, for which the table has no row (log 90). -/
def execTileMatchingParity (qp asn : Nat) (core : Option Nat) (s : State) : Host.Outcome State Fault Refusal :=
  match core with
  | some c => guardUnit (coreOk c) c s (memoryError s c)
  | none =>
    guardUnit (qpOk qp) qp s
      (match entryOf s qp asn with
        | none => s
        | some e => dataError s e)

/-- KEY_CACHE_ECC_ERROR (03 R99). -/
def execKeyCacheEccError (t : Nat) (s : State) : Host.Outcome State Fault Refusal := guardUnit (tileOk t) t s (fenceTile s t 1)

/-- WATCHDOG_EXPIRY (03 R99, 16 R452): 100 µs since the last heartbeat with a descriptor held; HALT suspends it. -/
def execWatchdogExpiry (t : Nat) (s : State) : Host.Outcome State Fault Refusal :=
  guardUnit (tileOk t) t s
    (if (homedOn s t).isEmpty || s.tamper.halt || (tileOf s t).fenced then s
    else fenceTile (advanceTo s ((tmemOf s t).heart + 100)) t 2)

/-- QUARTER_STATE_ERROR (03 R100). -/
def execQuarterStateError (q : Nat) (s : State) : Host.Outcome State Fault Refusal :=
  guardUnit (quarterOk q) q s (failQuarter s q 1)

/-- HOST_FABRIC_SILENCE (03 R100, 16 R452): 1 ms with work to send throughout and nothing sent. -/
def execHostFabricSilence (q : Nat) (s : State) : Host.Outcome State Fault Refusal :=
  let x := quarterOf s q
  guardUnit (quarterOk q) q s
    (if hasSend s q ∧ s.tamper.halt = false then failQuarter (advanceTo s (max x.lastSend (x.workSince.getD s.now) + 1000)) q 3 else s)

/-- Lower the largest allowance of a quarter by 1, the lowest queue pair first on a tie, until their sum is at most 16,384
(03 R75); fuel bounds the steps. -/
def trimAllowances (s : State) (q fuel : Nat) : State :=
  match fuel with
  | 0 => s
  | fuel + 1 =>
    if allowSum s q ≤ 16384 then s
    else match minBy (fun x => 2 ^ 20 - x.2.allowance) (s.qps.filter (fun x => x.2.assigned && x.2.home == q)) with
      | none => s
      | some x => trimAllowances (modQp s x.1 (fun y => { y with allowance := y.allowance - 1 })) q fuel

/-- The allowances of a receiving quarter are rescaled where their sum passes 16,384 (03 R75). -/
def rescaleAllowances (s : State) (q : Nat) : State :=
  let n := allowSum s q
  if n ≤ 16384 then s
  else
    let f (x : Qp) : Qp := { x with allowance := max 1 (x.allowance * 16384 / n) }
    trimAllowances { s with qps := s.qps.map (fun x => if x.2.assigned && x.2.home == q then (x.1, f x.2) else x) } q 16384

/-- The quotas of a receiving quarter are rescaled where their sum passes 16,320 blocks (08 R249). -/
def rescaleQuotas (s : State) (q : Nat) : State :=
  let n := quotaSum s q
  if n ≤ 16320 then s
  else
    let f (x : Part) : Part :=
      match tblFind x.quota q with
      | some v => { x with quota := tblSet x.quota q (max 8 (v * 16320 / n)) }
      | none => x
    { s with parts := s.parts.map (fun x => if x.2.created then (x.1, f x.2) else x) }

/-- The quota that a partition brings from quarter old: what it has there, or its configured one where old had no room for it (08 R249;
log 88). -/
def broughtQuota (s : State) (p old : Nat) : Nat :=
  match tblFind (partOf s p).quota old with
  | some v => v
  | none => objNat s (0x4000 + p) 0x22 64

/-- The partition of a re-homed queue pair comes to quarter q from quarter old: with its quota, or without one and SQUASHING where the
quarter has no room; with its OPER, where q did not home it (08 R249; 04 R127, R129). -/
def bringPart (s : State) (p old q : Nat) : State :=
  if (tblFind (partOf s p).quota q).isSome then s
  else
    let homed := !(homedIn s p q).isEmpty
    let o := if homed then operIn s p q else operIn s p old
    let v := broughtQuota s p old
    let s1 := rescaleQuotas (modPart s p (fun y => { y with quota := tblSet y.quota q v, oper := tblSet y.oper q o })) q
    if 16320 < quotaSum s1 q then
      modPart s1 p (fun y => { y with quota := tblErase y.quota q, oper := tblSet y.oper q 3 })
    else if !homed && o == 2 then startDrainIn s1 p q
    else s1

/-- A failed quarter that no longer homes a partition holds nothing of it. -/
def forgetPart (s : State) (p old : Nat) : State :=
  if (homedIn s p old).isEmpty then
    modQuarter (modPart s p (fun y => { y with quota := tblErase y.quota old, oper := tblErase y.oper old })) old
      (fun x => { x with drain := tblErase x.drain p })
  else s

/-- Re-homing of queue pair qp of a failed quarter on quarter q (03 R75, R100; 04 R123, R125, R129; 08 R249). -/
def rehome (s : State) (qp q : Nat) : State :=
  let x := qpOf s qp
  let s1 := bringPart s x.partition x.home q
  let s2 := noteTop (modQp s1 qp (fun y => { y with home := q, next := y.w, flushed := y.w, fetching := 0, paused := false,
                                                    replaying := !y.headWait })) qp
  let s3 := modHif (forgetPart (rescaleAllowances s2 q) x.partition x.home) (fun h => { h with replayActive := true })
  let s4 := settleReplay s3 qp
  settle (if operIn s4 x.partition q = 3 then squashQp s4 qp else s4) x.partition

/-- QUEUE_PAIR_REHOME (01 R16; 03 R75, R100; 04 R123, R125, R129; 08 R249): the lowest-numbered queue pair of its failed
quarter, once no commit unit submitted from there is in progress. -/
def execQueuePairRehome (qp : Nat) (s : State) : Host.Outcome State Fault Refusal :=
  guardUnit (qpOk qp) qp s
    (let x := qpOf s qp
     let waits := journalUp s && s.journal.units.any (fun u => u.quarter == x.home)
     let lower := s.qps.any (fun y => y.2.assigned && y.2.home == x.home && decide (y.1 < qp))
     if !x.assigned || !(quarterOf s x.home).failed || waits || lower then s
     else match minBy (qpsHomed s) (quartersUp s) with
       | none => s
       | some q => rehome s qp q)

/-- TILE_DISAGREE (01 R22): the enable and the fence of a tile have differed for more than 100 ms by the management plane's ticks,
and it raises an event: the source of the tile's fence, since the spec names none of its own (log 30). -/
def execTileDisagree (t : Nat) (s : State) : Host.Outcome State Fault Refusal :=
  guardUnit (tileOk t) t s
    (if tileDiffers s t then
      let s1 := untilDisagree s (fun u => (tmemOf u t).differSince)
      if (tmemOf s1 t).differSince.isSome ∧ (tmemOf s1 t).disagreed = false then
        raiseModule (modTmem s1 t (fun m => { m with disagreed := true })) (0x10 + t)
      else s1
    else s)

/-- The mask generator of tile t is seeded with 32 bytes of its quarter's DRBG, if it can draw them (06 R178). -/
def seedMask (s : State) (t : Nat) : State :=
  match drawRandom s (t / 4) 32 with
  | .bytes b u => modTmem u t (fun m => { m with maskSeeded := true, mask := fit 16 (Config.maskSeed b), maskAt := s.now })
  | _ => s

/-- The blinding generators of tile t's public-key cores are seeded as its mask generator is (06 R178, R196). -/
def seedBlinding (s : State) (t : Nat) : State :=
  (List.range 2).foldl (fun u k => match drawRandom u (t / 4) 32 with
    | .bytes b v => modPke v t k (fun c => { c with blind := fit 16 (Config.maskSeed b) })
    | _ => u) s

/-- MASK_RESEED (06 R178): after 2^32 TCLK, or at once where the DRBG was not ready at tile start; a blocked source leaves
the generator on its state. -/
def execMaskReseed (t : Nat) (s : State) : Host.Outcome State Fault Refusal :=
  guardUnit (tileOk t) t s
    (if (tileOf s t).power ≠ 0 then s
    else if (tmemOf s t).maskSeeded then
      seedBlinding (seedMask (advanceTo s ((tmemOf s t).maskAt + 2 ^ 32 / max 1 (tileOf s t).tclk)) t) t
    else if (tmemOf s t).moduleArea.isSome then seedBlinding (seedMask s t) t
    else s)

end Sys2Proof.Machine
end

