-- ==== Sys2Proof/Machine/Vault.lean ====
section
/-!
DEFINITION. The vault at work: checkpoints, revocation and destruction of keys, and the restoring of the working copy at a
start or after PURGE (07 R214, R228 to R231, R238 to R243).
-/

namespace Sys2Proof.Machine

open Sys2Proof

/-- The partition whose extent holds a physical slot; 4,096 stands for the module's extents. -/
def slotHolder (s : State) (phys : Nat) : Nat :=
  match s.parts.find? (fun x => x.2.created && x.2.extents.contains (phys / 512)) with
  | some x => x.1
  | none => 4096

/-- The holders that have dirty lines, in order. -/
def dirtyHolders (s : State) : List Nat :=
  (s.vault.lines.filter (fun x => lineDirty x.2)).foldl (fun l x => insertAsc (slotHolder s x.2.slot) l) []

/-- The working key handles of a key operation: does cache entry e descend from slot i of partition p, whose handle is h
(07 R232, R238)? -/
def descends (p i h : Nat) (e : CacheEnt) : Bool :=
  e.colour == p && (e.key.anc.any (fun a => a.1 == i) || (match e.name with
    | .block _ prot => prot == h
    | _ => false))

/-- A tile scans its tags: unpinned descendants go, pinned ones are marked PENDING(r) (07 R238 step 2). -/
def purgeTags (p i h r : Nat) (m : TileMem) : TileMem :=
  let mark (e : CacheEnt) : CacheEnt :=
    if descends p i h e then { e with pending := some (match e.pending with
      | some x => min x r
      | none => r) } else e
  { m with cache := (m.cache.map mark).filter (fun e => !(descends p i h e && e.pins.isEmpty)) }

/-- Steps 2 and 3 of a revocation: the 16 tiles, then the four dispatchers take r (07 R238). -/
def pushRvs (s : State) (p i h r : Nat) : State :=
  let s1 := { s with tmem := s.tmem.map (fun x => (x.1, purgeTags p i h r x.2)) }
  let s2 := (List.range 4).foldl (fun u q => modQuarter u q (fun x => { x with rvs := r }))
    ((List.range 16).foldl (fun u t => modTmem u t (fun m => { m with rvs := r })) s1)
  modVault s2 (fun v => { v with rvs := r })

/-- The record and physical slot that a key operation's handle names, if the handle is valid (07 R216, R243). -/
def opRecord (s : State) (o : KeyOp) : Option (Nat × KeyRec) :=
  if o.module then
    let i := hSlot o.handle
    let r := slotOf s i
    if i < 1024 ∧ r.state = recActive ∧ ownerModule r ∧ r.handle = o.handle then some (i, r) else none
  else
    match physOf s (hPart o.handle) (hSlot o.handle), handleRecord s (hPart o.handle) o.handle with
    | some phys, some r => some (phys, r)
    | _, _ => none

/-- A descriptor holds a capture below an earlier revocation of the same key (07 R240). -/
def heldBack (s : State) (r : KeyRec) : Bool :=
  r.revSeq != 0 && s.entries.any (fun e => (match e.capture with
    | some c => decide (c < r.revSeq)
    | none => false))

/-- KEY_OP_RESULT or MOD_KEY_OP_RESULT (07 R243). -/
def setOpResult (s : State) (o : KeyOp) (v : Nat) : State :=
  modVault s (fun x => if o.module then { x with modKeyOpResult := v } else { x with keyOpResult := v })

/-- The response that a request waits for. -/
def answerOp (s : State) (o : KeyOp) (result : Nat) : State :=
  match o.path with
  | some p => answer (setCur s p 2 (if o.module then 0x5011 else 0x5010) 0x02) p result []
  | none => s

/-- A key operation has ended: its event and its response (07 R238, R243; 14 R414). -/
def endOp (s : State) (o : KeyOp) : State :=
  let p := if o.module then 0 else hPart o.handle
  answerOp (record (modVault s (fun v => { v with op := none })) 0x5001 (if o.module then 0 else 5) p (leBytes 8 o.handle)) o 0

/-- A key is pinned in some tile. -/
def keyPinned (s : State) (h : Nat) : Bool :=
  s.tmem.any (fun x => x.2.cache.any (fun e => e.name == .key h && !e.pins.isEmpty))

/-- A freed slot of generation g whose version is r: GEN rises by 1, or the slot is retired, at the last GEN or where retire tells so;
LGEN and REV_SEQ stay (07 R214, R241). -/
def freedRecord (r : KeyRec) (idx g : Nat) (retire : Bool) : KeyRec :=
  { KeyRec.reset with
    handle := mkHandle (hPart r.handle) idx (if g < 65535 then g + 1 else g) 0,
    state := if g < 65535 ∧ retire = false then recFree else recRetired,
    ver := r.ver, ownerPart := r.ownerPart, ownerInc := r.ownerInc, lgen := r.lgen, revSeq := r.revSeq }

/-- Commit the extension slots of a destroyed record FREE, from i on (07 R241): none while one must wait. -/
def freeExts (s : State) (r : KeyRec) (i k : Nat) : Option State :=
  match k with
  | 0 => some s
  | k + 1 =>
    match (if ownerModule r then some (r.extFirst + i) else physOf s r.ownerPart (r.extFirst + i)) with
    | none => freeExts s r (i + 1) k
    | some phys =>
      let keep := underOf s phys
      let x := { slotOf s phys with handle := r.handle, lgen := keep.2.1, revSeq := keep.2.2 }
      match trustedCommit s phys (freedRecord x (r.extFirst + i) keep.1 false) with
      | none => none
      | some t => freeExts t r (i + 1) k

/-- Free a destroyed key once no pin remains: its record and its extension slots are committed FREE, its cached entries go (07 R241). It
waits for the slot's grant and for trusted lines. -/
def freeKey (s : State) : State :=
  match s.vault.op with
  | none => s
  | some o =>
    if o.action ≠ 2 ∨ keyPinned s o.handle then s
    else match opRecord s o with
      | none => s
      | some (phys, r) =>
        match (trustedCommit s phys (freedRecord r (hSlot r.handle) (hGen r.handle) o.retire)).bind (fun u => freeExts u r 0 r.extCount) with
        | none => s
        | some t =>
          endOp { t with tmem := t.tmem.map (fun x =>
            (x.1, { x.2 with cache := x.2.cache.filter (fun e => e.name != .key o.handle) })) } o

/-- Step 1 of a revocation on a valid key: LGEN + 1 and REV_SEQ := r through a trusted line, then steps 2 and 3 (07 R238).
A destroyed key at the last LGEN keeps it and retires its slot (07 R214). -/
def startRevoke (s : State) (o : KeyOp) (phys : Nat) (r : KeyRec) : Option State :=
  let n := s.vault.rvs + 1
  match trustedCommit s phys { r with lgen := min 65535 (r.lgen + 1), revSeq := n } with
  | none => none
  | some t =>
    let o' : KeyOp := { o with r := n, retire := r.lgen == 65535 }
    let s1 := setOpResult (modVault t (fun v => { v with op := some o' })) o 0
    let s2 := pushRvs s1 (if o.module then 0x1000 else hPart o.handle) (hSlot o.handle) o.handle n
    some (if o.action = 2 then freeKey s2 else endOp s2 o')

/-- The operation at the head of the queue starts, if none is in progress and nothing holds it back (07 R240, R243). -/
def startOp (s : State) : State :=
  match s.vault.op, s.vault.waiting with
  | none, o :: rest =>
    let s0 := modVault s (fun v => { v with waiting := rest })
    (match opRecord s o with
      | none => answerOp (setOpResult s0 o 0x0012) o 0
      | some (phys, r) =>
        if heldBack s r then s
        else if r.lgen = 65535 ∧ o.action = 1 then answerOp (setOpResult s0 o 0) o 0x0008
        else match startRevoke s0 o phys r with
          | none => s
          | some t => t)
  | _, _ => s

/-- Operations start and end as far as they can; n bounds how many. -/
def pumpOps (s : State) (n : Nat) : State :=
  match n with
  | 0 => s
  | n + 1 =>
    let t := startOp (freeKey s)
    if t.vault.op = s.vault.op ∧ t.vault.waiting.length = s.vault.waiting.length then t else pumpOps t n

/-- Every operation that can go on does. -/
def pumpKeyOps (s : State) : State := pumpOps s (2 * s.vault.waiting.length + 2)

/-- Queue a key operation behind the earlier ones (07 R243). -/
def queueOp (s : State) (o : KeyOp) : State := pumpKeyOps (modVault s (fun v => { v with waiting := v.waiting ++ [o] }))

/-- A handle that an object holds. -/
def heldHandle (s : State) (idx : Nat) : Nat := objNat s idx 0x01 0

/-- CHECKPOINT (07 R230): a page of the holder whose turn it is, while main power is present. -/
def execCheckpoint (page : Nat) (s : State) : Host.Outcome State Fault Refusal :=
  guardUnit (decide (page < 65536)) page s
    (let h := slotHolder s (64 * page)
     if s.power.main ∧ rrNext s.vault.rrCkpt (dirtyHolders s) = some h ∧
        s.vault.lines.any (fun x => lineDirty x.2 && x.2.slot / 64 == page) then
       pumpKeyOps (modVault (checkpointPage s page) (fun v => { v with rrCkpt := h }))
     else s)

/-- KEY_OP_ACTION (07 R238 to R243). -/
def execKeyOpAction (path : Path) (action : Nat) (s : State) : Host.Outcome State Fault Refusal :=
  done s (onWrite s path .wo 0x5010 0x02 (leBytes 1 action) (fun t =>
    if action < 1 ∨ 2 < action then answer t path 0x0008 []
    else queueOp t { handle := heldHandle t 0x5010, action := action, r := 0, module := false, retire := false, path := some path }))

/-- MOD_KEY_OP_ACTION as it is applied: the operation is queued, and a request that waits for it is answered at its end
(07 R243). -/
def applyModKeyOp (s : State) (action : Nat) (path : Option Path) : State :=
  queueOp s { handle := heldHandle s 0x5011, action := action, r := 0, module := true, retire := false, path := path }

/-- MOD_KEY_OP_HANDLE names an identity record, which no key operation reaches (11 R354). -/
def identityHandle (s : State) : Bool := hSlot (heldHandle s 0x5011) == 1 || hSlot (heldHandle s 0x5011) == 2

/-- MOD_KEY_OP_ACTION (07 R238 to R243; 10 R337, R338): under the module quorum in FIELD, at once before it. -/
def execModKeyOpAction (path : Path) (action : Nat) (s : State) : Host.Outcome State Fault Refusal :=
  done s (onWrite s path .rwq 0x5011 0x02 (leBytes 1 action) (fun t =>
    if action < 1 ∨ 2 < action then answer t path 0x0008 []
    else if identityHandle t then answer t path 0x0006 []
    else if rwqAtOnce t then
      (if path = .tunnel then answer t path 0x0006 [] else applyModKeyOp t action (some path))
    else if lifeCycle t = 3 then propose t path 0x5011 0x02 (leBytes 1 action)
    else answer t path 0x0009 []))

/-- KEY_DESTROY_FREE (07 R214, R241). -/
def execKeyDestroyFree (s : State) : Host.Outcome State Fault Refusal := done s (pumpKeyOps s)

/-- The copy of a line that a start takes from two devices that differ: the higher COMMIT, if the slot that it names holds a record whose
tag verifies, else the other device's; bad tells the copies whose tags fail, true for the second device (07 R228). -/
def settleLine (key : List Byte) (bad : List (Bool × Nat)) (i : Nat) (a b : Line) : Line :=
  let good (d : Bool) (l : Line) : Bool := (match lineVersion l with
    | some v => tagOk key l.slot v
    | none => l.commit == 0) && !bad.contains (d, i)
  if a = b then a
  else if a.commit < b.commit then (if good true b then b else a)
  else (if good false a then a else b)

/-- The lines as a start settles them, copied to every device that works (07 R228); a device that does not work is not read. -/
def settleLines (s : State) (bad : List (Bool × Nat)) : State :=
  let a := s.vault.linesA
  let b := s.vault.linesB
  let keys := (a.map (fun x => x.1) ++ b.map (fun x => x.1)).foldl (fun l x => insertAsc x l) []
  let both := keys.map (fun i => (i, settleLine (vrk s) bad i (tblGet Line.reset a i) (tblGet Line.reset b i)))
  let t := if s.journal.devA then (if s.journal.devB then both else a) else (if s.journal.devB then b else s.vault.lines)
  modLines s (fun _ => t)

/-- The version of a physical slot at a start: its line's, else the first image whose tag verifies, else none (07 R224,
R231). bad tells the slots whose tags fail in both images. -/
def restoredRec (s : State) (bad : List Nat) (phys : Nat) : Option KeyRec :=
  let opens (x : Sealed) : Option KeyRec := openSealed (vrk s) phys x
  match ((lineFor s phys).bind (fun i => lineVersion (lineOf s i))).bind opens with
  | some r => some r
  | none =>
    if bad.contains phys then none
    else match (tblFind s.vault.img0 phys).bind opens with
      | some r => some r
      | none => (tblFind s.vault.img1 phys).bind opens

/-- What a physical slot is where no version of it opens: LOST, still its owner's (07 R217, R231). -/
def lostRec (s : State) (phys : Nat) : KeyRec :=
  let x := (sealedOf s phys).foldl (fun m y => if m.ver < y.ver then y.headRec else m) KeyRec.reset
  { KeyRec.reset with handle := x.handle, ver := slotVer s phys, ownerPart := x.ownerPart, ownerInc := x.ownerInc, state := recLost,
                      lgen := slotLgen s phys, revSeq := slotRevSeq s phys }

/-- A restored slot takes back what it keeps of its own beneath an extension (07 R214). -/
def keepUnder (s : State) (x : Nat × KeyRec) : Nat × KeyRec :=
  if x.2.state = recExtension then (x.1, { x.2 with lgen := (underOf s x.1).2.1, revSeq := (underOf s x.1).2.2 }) else x

/-- An extension slot whose owning record does not name it is free, but for those of a unit that is at work; a record that is LOST with
another of its slots still names it (07 R229). -/
def orphanFree (s : State) (t : Tbl KeyRec) (x : Nat × KeyRec) : Nat × KeyRec :=
  let owned (r : KeyRec) : Bool :=
    (r.state == recActive || r.state == recLost) && r.handle == x.2.handle && decide (x.2.index < r.extCount)
  if x.2.state = recExtension ∧ t.any (fun y => owned y.2) = false ∧ (slotsPending s).contains x.1 = false then
    (x.1, freedRecord x.2 (hSlot x.2.handle + 1 + x.2.index) (underOf s x.1).1 false)
  else x

/-- A restored record takes the material of its extension slots; where one of them is LOST, so is the record (07 R217, R231). -/
def joinExts (s : State) (t : Tbl KeyRec) (x : Nat × KeyRec) : Nat × KeyRec :=
  if x.2.state = recActive ∧ x.2.extCount ≠ 0 then
    let l := (extSlots s x.2).map (tblGet KeyRec.reset t)
    if l.all (fun y => y.state == recExtension && y.handle == x.2.handle) then
      (x.1, { x.2 with mat := (x.2.mat ++ l.flatMap (fun y => y.mat)).take x.2.keyLen })
    else (x.1, { x.2 with state := recLost })
  else x

/-- A slot that fails in both images and has no line is LOST: recorded and raised (07 R231; 14 R414). -/
def reportLost (s : State) (phys : Nat) : State := raiseModule (record s 0x5004 0 0 (leBytes 4 phys)) 0x6B

/-- A logical page that fails to read in both images: two failed pages, each recorded by its physical page and raised (07 R243; 09
R316; 14 R414). -/
def reportPage (s : State) (page : Nat) : State :=
  [mapOf s.vault.map0 page, mapOf s.vault.map1 page].foldl (fun u p =>
    raiseModule (record (modVault u (fun v => { v with nandErrors := v.nandErrors + 1 })) 0x5005 0 0 (leBytes 4 p)) 0x6A) s

/-- A slot that a restart frees or finds LOST with its extensions takes that version: committed, and checkpointed at once, so that the
working copy equals the version in force (07 R224, R229, R230; log 83). -/
def settleSlot (s : State) (x : Nat × KeyRec) : State :=
  match trustedCommit s x.1 x.2 with
  | some t => checkpointPage t (x.1 / 64)
  | none => s

/-- Restore the vault into the working copy (07 R224, R229, R231): lines with no version are freed, every slot takes its version in force,
and a slot that fails everywhere is LOST. The pages of slots newly found to fail in both images count as failed (07 R243). -/
def restoreVault (s : State) (bad : List Nat) : State :=
  let s1 := modLines (loadVrk s) (fun l => l.filter (fun x => x.2.commit != 0))
  let slots := (s1.vault.img0.map (fun x => x.1) ++ s1.vault.lines.map (fun x => x.2.slot)).foldl (fun l x => insertAsc x l) []
  let recs := slots.map (fun phys => keepUnder s1 (phys, (restoredRec s1 bad phys).getD (lostRec s1 phys)))
  let recs1 := recs.map (joinExts s1 recs)
  let lost := (recs1.filter (fun x => x.2.state == recLost)).map (fun x => x.1)
  let fresh := lost.filter (fun x => !(s.vault.lost.contains x))
  let pages := ((fresh.filter bad.contains).map (fun x => x / 64)).eraseDups
  let joined := (recs.zip recs1).map (fun x => if x.1.2.state = x.2.2.state then x.2 else x.1)
  let s2 := modVault s1 (fun v => { v with slots := joined, restored := true })
  let changed := ((joined.zip (recs1.map (orphanFree s1 recs1))).filter (fun x => x.1.2.state != x.2.2.state)).map (fun x => x.2)
  let s3 := modVault (changed.foldl settleSlot s2) (fun v => { v with lost := lost })
  fresh.foldl reportLost (pages.foldl reportPage s3)

/-- At a start the operation in progress is settled: committed if the record's REV_SEQ carries its r, else discarded; a
destruction then ends; waiting ones are gone with their requests (07 R238). -/
def settleOps (s : State) : State :=
  let s0 := modVault s (fun v => { v with waiting := [] })
  match s0.vault.op with
  | none => s0
  | some o =>
    let o' := { o with path := none }
    match opRecord s0 o with
    | some (_, r) =>
      if r.revSeq = o.r then
        let s1 := modVault s0 (fun v => { v with rvs := o.r, op := some o' })
        if o.action = 2 then freeKey s1 else endOp s1 o'
      else endOp s0 o'
    | none => endOp s0 o'

end Sys2Proof.Machine
end

