-- ==== Sys2Proof/Machine/Reset.lean ====
section
/-!
DEFINITION. Function-level resets, PERST#, the link and the bus: what a reset loses, keeps and starts again (02 R32, R37,
R38, R46, R49, R53; 04 R120, R123, R129; 06 R194; 11 R371; 17 R459).
-/

namespace Sys2Proof.Machine

open Sys2Proof

/-- Cores that a debugger has halted run again: no debugger reaches them any more (11 R372; log 54). -/
def releaseCores (s : State) : State := { s with cores := s.cores.map (fun x => (x.1, { x.2 with dbg := 0 })) }

/-- A granted debug scope ends (11 R371): recorded; FULL that ends in ANALYSIS closes the data plane again (16 R451). -/
def endDebug (s : State) : State :=
  if s.life.scope = 0 then s
  else
    let s0 := releaseCores s
    let s1 := record { s0 with life := { s.life with scope := 0 } } 0x2010 0 0 (leBytes 1 s.life.scope)
    if s.life.scope = 2 ∧ lifeCycle s = 5 then modHif s1 (fun h => { h with dpOpen := false }) else s1

/-- A quarter after its volatile state is lost: its failure, its copy of RVS and its place in the use ring stay. -/
def Quarter.lose (q : Quarter) (now : Nat) : Quarter :=
  { Quarter.reset with failed := q.failed, failCause := q.failCause, rvs := q.rvs, useNext := q.useNext, lastSend := now }

/-- A tile's stores after its state is lost: what the power manager watches stays. -/
def TileMem.lose (m : TileMem) : TileMem :=
  { TileMem.reset with slowSince := m.slowSince, demandSince := m.demandSince, disagreed := m.disagreed }

/-- All quarter and tile state is lost (04 R120): entries are abandoned, stores and engines are empty, script cores and
tile event units are as after reset with their code kept. -/
def loseQuarters (s : State) : State :=
  let s1 := s.entries.foldl loseEntry s
  let core (x : Nat × EloaCore) : Nat × EloaCore :=
    if x.1 < 64 then (x.1, { EloaCore.script with code := x.2.code }) else x
  { s1 with quarters := s1.quarters.map (fun x => (x.1, x.2.lose s1.now)), tmem := s1.tmem.map (fun x => (x.1, x.2.lose)),
            tiles := s1.tiles.map (fun x => (x.1, { x.2 with pke0 := x.2.pke0.stop, pke1 := x.2.pke1.stop })),
            cores := s1.cores.map core, evus := s1.evus.filter (fun x => decide (16 ≤ x.1)) }

/-- A public-key core at tile start: the reset values of its status, and the op-lists where a bank's library verifies (06 R205, R209;
11 R355, R356). -/
def PkeCore.start (lib : Option (List Byte)) : PkeCore := { PkeCore.reset with loaded := lib.isSome, lib := lib.getD [] }

/-- The standard scripts of the boot bank, loaded into S0 to S2 of tile t where their image verifies (01 R26, R28; 11 R355). -/
def loadScripts (s : State) (t : Nat) : State :=
  match (libBank s).bind (fun b => imageOf s b 4) with
  | none => s
  | some i => (List.range 3).foldl (fun u k =>
      modCore u (4 * t + k) (fun c => { c with code := Memory.write [] 0 (Config.imageCode 4 i.body k) })) s

/-- Tile start (11 R355 step 8): the module area, the op-lists, the standard scripts and the mask generator of a running tile. -/
def tileStart (s : State) (t : Nat) : State :=
  if (tileOf s t).power ≠ 0 ∨ (tileOf s t).fenced ∨ (quarterOf s (t / 4)).failed then s
  else
    let s1 := modTile (loadScripts s t) t (fun x => { x with pke0 := PkeCore.start (oplistImage s), pke1 := PkeCore.start (oplistImage s) })
    let area : ModuleArea := { hcb := hcb s, vrk := vrk s }
    seedBlinding (seedMask (modTmem s1 t (fun m => { m with moduleArea := some area, heart := s.now, rvs := s.vault.rvs })) t) t

/-- Tile start of every tile. -/
def startTiles (s : State) : State := (List.range 16).foldl tileStart s

/-- A doorbell page and its mirrors after a reset of the function (02 R46, R49). DEDUCED from the Reset column of R46: CPL_ERR
clears although R38 keeps the context of R50; DESIGN CHOICE: completions pending for the interrupt are forgotten and no message
is sent for them (log 66). -/
def Qp.resetPage (q : Qp) : Qp :=
  { q with tail := q.wm % 2 ^ 32, cqHead := q.wm % 2 ^ 32, irqMask := false, badDb := 0, badFetch := 0, cplErr := false,
           tailWritten := false, headWritten := false, fetching := 0, paused := false, pendCount := 0, pendSince := 0 }

/-- Replay of a queue pair begins with its published head h: fetching runs again from w once it is known (04 R123). -/
def beginReplay (s : State) (qp : Nat) : State :=
  noteTop (modQp s qp (fun q => { q with next := q.w, flushed := q.w, replaying := !q.headWait })) qp

/-- Replay of a queue pair whose w is known may have nothing to do. -/
def settleKnown (s : State) (qp : Nat) : State := if (qpOf s qp).headWait then s else settleReplay s qp

/-- Every assigned queue pair begins its replay. -/
def replayAll (s : State) (qps : List Nat) : State := replayCheck (qps.foldl settleKnown (qps.foldl beginReplay s))

/-- Drains restart their deadlines where every w is known, squashes go on (04 R129). -/
def resumeParts (s : State) : State :=
  (partsCreated s).foldl (fun u x => settle (x.2.qps.foldl resumeCmd u) x.1) s

/-- The assigned queue pairs. -/
def assignedQps (s : State) : List Nat := (s.qps.filter (fun x => x.2.assigned)).map (fun x => x.1)

/-- The mailbox and its request are reset: a write that waits is withdrawn, one that runs goes on without it. -/
def resetMailbox (s : State) : State :=
  let free (o : KeyOp) : KeyOp := if o.path = some .tunnel then { o with path := none } else o
  let s1 := withdrawKeyOps (dropXfers s .tunnel) .tunnel
  modHif (modVault s1 (fun v => { v with op := v.op.map free })) (fun h => { h with mbx := Mailbox.reset })

/-- The registers of 02 R53 after a PF0 function-level reset, and the configuration space of every function. DP_OPEN and GATE take their
reset values: the data plane opens again at the end of the reset where it may, the gate by its next computations (04 R131; 11 R357);
the link is reported as it stands (log 66). A partition command in progress goes on (04 R129) and no longer reports to HIF_ADM_PCMD_STS
(log 66). A module failure ends, unless no journal device works (01 R18). -/
def resetGlobals (s : State) : State :=
  let t := { s with parts := s.parts.map (fun (x : Nat × Part) => (x.1, { x.2 with cmd := x.2.cmd.map (fun (c : PartCmd) => { c with viaPcmd := false }) })) }
  let u := { t with power := { t.power with gate := 2, upCount := 0, upOpen := 0 } }
  modHif u (fun h => { h with dpOpen := false, fetchEn := false, atsUse := false, isr := 0, ier := 0, strayDb := 0, pcmdWord := 0,
                              pcmdBusy := false, pcmdDone := false, pcmdRefused := false, pcmdOverrun := false,
                              pcmdReason := 0, pcmdPart := 0, replayActive := true, failed := !journalUp s, bme := [],
                              ats := [], maxRead := 512, numVfs := 0, reads := [], readWait := [], invals := [], atc := [], msix := [] })

/-- The OTP life-cycle word: each bit by the majority of its three copies (11 R362). -/
def otpWord (l : Life) : Word := (l.otpA &&& l.otpB) ||| (l.otpA &&& l.otpC) ||| (l.otpB &&& l.otpC)

/-- The life-cycle word is valid (11 R362). -/
def otpValid (w : Word) : Bool :=
  let sb (k : Nat) : Bool := w.getLsbD (2 * k - 1)
  let pb (k : Nat) : Bool := w.getLsbD (2 * k - 2)
  [1, 2, 3, 4, 5, 6].all (fun k => !sb k || pb k) && (!sb 2 || sb 1) && (!sb 3 || sb 2) && (!sb 4 || sb 3) &&
    (!sb 5 || sb 3) && decide (w.toNat < 4096)

/-- The state that a word gives: the highest Sk, SCRAP where it is invalid (11 R362). -/
def otpState (w : Word) : Nat :=
  if otpValid w then ((List.range 7).filter (fun k => decide (1 ≤ k) && w.getLsbD (2 * k - 1))).foldl max 0 else 6

/-- The pending transition: the highest k with Pk and without Sk, 0 for none; one that a higher state has overtaken is never completed (11
R362, R367). -/
def pendingTarget (w : Word) : Nat :=
  ((List.range 7).filter (fun k => decide (otpState w < k) && w.getLsbD (2 * k - 2) && !w.getLsbD (2 * k - 1))).foldl max 0

/-- The data plane may open (11 R357; 04 R119): by life cycle and scope, with a journal device and firmware verified. -/
def mayOpen (s : State) : Bool :=
  let lc := lifeCycle s
  (decide (lc ≤ 1) || lc == 3 || (lc == 5 && s.life.scope == 2)) && journalUp s && !s.hif.failed && !s.fw.recovery &&
    !s.boot.failed && !s.life.barred && pendingTarget (otpWord s.life) == 0 && s.vault.restored && s.boot.booted

/-- HIF_GLOBAL_STS.DP_OPEN (11 R357). -/
def openPlane (s : State) : State := if mayOpen s then modHif s (fun h => { h with dpOpen := true }) else s

/-- A stopped M0 starts again (01 R18; 09 R282). -/
def recoverKernel (s : State) : State := if (coreOf s 64).stopped then resetMgmt s 0 else s

/-- The debug challenge expires (11 R370). -/
def dropChallenge (s : State) : State := clearObj (modLife s (fun l => { l with challenge := none })) 0x2010 0x02

/-- PF0 function-level reset (02 R38, R46, R53; 04 R120, R123, R129; 06 R194; 11 R371). It ends a module failure, unless no journal device
works, and the data plane opens again where it may (01 R18; 11 R357). -/
def functionReset (s : State) : State :=
  let s1 := startTiles (loseQuarters (endDebug (dropChallenge s)))
  let s2 := modSvc s1 (fun v => { Svc.reset with slots := v.slots, ignoredForces := v.ignoredForces })
  let s3 := resetGlobals (resetMailbox s2)
  let s4 := { s3 with qps := s3.qps.map (fun x => (x.1, if x.2.assigned then x.2.resetPage else x.2)) }
  let s5 := resumeParts (replayAll s4 (assignedQps s4))
  openPlane (if s.hif.failed then recoverKernel s5 else s5)

/-- PF0_FUNCTION_LEVEL_RESET (02 R38; 04 R120). -/
def execPf0FunctionLevelReset (s : State) : Host.Outcome State Fault Refusal := done s (functionReset s)

/-- PERST_ASSERT (17 R459): with main power good it is a PF0 function-level reset; the link goes down. -/
def execPerstAssert (s : State) : Host.Outcome State Fault Refusal :=
  done s (if s.hif.perst then s
    else
      let t := modHif s (fun h => { h with perst := true, linkUp := false, speed := 0, width := 0, degraded := false })
      if s.power.main then functionReset t else t)

/-- VF_FUNCTION_LEVEL_RESET (02 R38, R46, R49; 04 R120): fetching stops, accepted work goes on, completions wait for Bus
Master Enable. -/
def execVfFunctionLevelReset (vf : Nat) (s : State) : Host.Outcome State Fault Refusal :=
  guardUnit (vfOk vf) vf s
    (let t := { s with qps := s.qps.map (fun x =>
       (x.1, if x.2.assigned && x.2.func == vf then { x.2.resetPage with replaying := false } else x.2)) }
     replayCheck (modHif t (fun h => { h with bme := tblErase h.bme vf, ats := tblErase h.ats vf,
                                              msix := h.msix.filter (fun x => x.1 / 2048 != vf) })))

/-- BUS_MASTER_ENABLE_SET (02 R38). -/
def execBusMasterEnableSet (vf : Nat) (s : State) : Host.Outcome State Fault Refusal :=
  guardUnit (vfOk vf) vf s (modHif s (fun h => { h with bme := tblSet h.bme vf true }))

/-- ATS_INVALIDATION (02 R37): the translations of a page of a function go, in every PASID, and the invalidation joins the queue
of 32; it is completed once every request that used them has been issued. A host sends no more than the queue holds. -/
def execAtsInvalidation (func page : Nat) (s : State) : Host.Outcome State Fault Refusal :=
  guardUnit (decide (func ≤ 255)) func s
    (if 32 ≤ s.hif.invals.length then s
    else settleInvals (modHif s (fun h => { h with atc := h.atc.filter (fun x => !(x.func == func && x.page == page)),
                                                   invals := h.invals ++ [(func, page)] })))

/-- A link configuration that exists (02 R32, R53). -/
def linkOk (speed width : Nat) : Bool := decide (1 ≤ speed ∧ speed ≤ 5) && [1, 2, 4, 8, 16].contains width

/-- The link has trained at a rate and width: outside the rated set it is degraded; a change is reported (02 R32, R53; 09
R316; 14 R414). HIF_LINK_MAX_SPEED bounds the rate. -/
def linkTrained (s : State) (speed width : Nat) : State :=
  let v := min speed (objNat s 0x9000 0x04 5)
  let d := decide (v < 3) || !([4, 8, 16].contains width)
  let t := modHif s (fun h => { h with linkUp := true, speed := v, width := width, degraded := d })
  if linkSts t = linkSts s then t else record (raiseModule (raiseIsr t 1) 0x71) 0x3020 0 0 (leBytes 4 (linkSts t))

/-- PERST_DEASSERT (02 R32; 17 R459): the link trains, whatever stage start-up has reached. -/
def execPerstDeassert (speed width : Nat) (s : State) : Host.Outcome State Fault Refusal :=
  done s (if s.hif.perst && linkOk speed width && s.power.main then
      linkTrained (modHif s (fun h => { h with perst := false })) speed width
    else s)

/-- LINK_RETRAINING (02 R32). -/
def execLinkRetraining (speed width : Nat) (s : State) : Host.Outcome State Fault Refusal :=
  done s (if !s.hif.perst && linkOk speed width && s.power.main then
      linkTrained (modHif s (fun h => { h with retrains := (h.retrains + 1) % 2 ^ 32 })) speed width
    else s)

end Sys2Proof.Machine
end

