-- ==== Sys2Proof/Machine/Sessions.lean ====
section
/-!
DEFINITION. How a session of the management bus ends, and the abort of a ceremony (10 R326, R345); the removal of a partition, which
ends sessions (08 R260); what every restart of the module loses (04 R120; 12 R387).
-/

namespace Sys2Proof.Machine

open Sys2Proof

/-- Change the dictionary. -/
def modDict (s : State) (f : Dict → Dict) : State := { s with dict := f s.dict }

/-- The debug scope in force: FULL from reset in TEST and MANUFACTURE (11 R372). -/
def debugScope (s : State) : Nat := if lifeCycle s ≤ 1 then 2 else s.life.scope

/-- LC_STS (11 R366). -/
def lcSts (s : State) : Nat :=
  let l := s.life
  let k := pendingTarget (otpWord l)
  lifeCycle s + 8 * b2n (k != 0) + 16 * k + 128 * b2n (l.regA != l.regB || l.regA != l.regC) +
    256 * b2n (l.shA != ~~~l.regA || l.shB != ~~~l.regB || l.shC != ~~~l.regC) + 512 * b2n l.mirrorErr +
    1024 * debugScope s + 4096 * b2n l.zeroised

/-- An open or combined ceremony aborts: every component and the combined key are erased, CER_STATE is 4 (10 R345). -/
def abortCeremony (s : State) : State :=
  if s.dict.cer.state = 1 ∨ s.dict.cer.state = 2 then
    record (modDict s (fun d => { d with cer := { Ceremony.reset with state := 4 } })) 0x5003 0 0 (leBytes 4 4)
  else s

/-- What a session leaves behind when it ends: its pieces, its waiting operations, its key slot, its proposals and a ceremony it wrote a
component of (10 R326, R332, R345; 07 R243). -/
def afterSession (s : State) (sid : Nat) : State :=
  let path : Path := .session sid
  let free (o : KeyOp) : KeyOp := if o.path = some path then { o with path := none } else o
  let s1 := withdrawKeyOps (dropXfers s path) path
  let s2 := modVault s1 (fun v => { v with op := v.op.map free })
  let own (r : QReq) : QReq := if r.origin = path then { r with live := false } else r
  let s3 := modDict { s2 with svc := { s2.svc with slots := s2.svc.slots.filter (fun x => x.2.sid != sid) } }
    (fun d => { d with reqs := d.reqs.map (fun x => (x.1, own x.2)) })
  if s3.dict.cer.state = 1 ∧ s3.dict.cer.writers.any (fun w => w.1 == sid) then abortCeremony s3 else s3

/-- End every session that a test picks (10 R326). -/
def endSessions (s : State) (f : Session → Bool) : State :=
  let gone := (s.fmp.sessions.filter f).map (fun x => x.sid)
  gone.foldl afterSession (dropSessions s f)

/-- The images of partition p's scripts are erased from the DDR5 (08 R260, R268). -/
def eraseImages (s : State) (p : Nat) : State :=
  let at_ (a : Nat) : Bool := (partOf s p).scripts.any (fun x => decide (x.2.addr ≤ a ∧ a < x.2.addr + 2 ^ 15))
  { s with ddr := s.ddr.filter (fun c => !(at_ c.1)) }

/-- Removal, steps 1 to 7 (08 R260). -/
def removePart (s : State) (p : Nat) : State :=
  let qs := (partOf s p).qps
  let lines := (s.vault.lines.filter (fun x => x.2.kind == 1 && x.2.part == p)).map (fun x => x.1)
  let s1 := eraseColour s p
  let s2 := qs.foldl (fun u q => modQp u q (fun x =>
    { x with assigned := false, en := false, partition := 0, allowance := 0 })) s1
  let s3 := lines.foldl (fun u i => if lineDirty (lineOf u i) then checkpointPage u ((lineOf u i).slot / 64) else u) s2
  let s4 := modLines s3 (fun l => l.filter (fun x => !(x.2.kind == 1 && x.2.part == p)))
  let s5 := modJournal s4 (fun j => { j with records := j.records.filter (fun r => !(qs.contains r.qp)) })
  let s6 := (List.range 4).foldl (fun u q => modQuarter u q (fun x =>
    { x with ops := tblErase x.ops p, pke := tblErase x.pke p, l5 := x.l5.filter (fun y => y.1 / 2 != p), drain := tblErase x.drain p
             nonce := tblErase x.nonce p })) s5
  let s7 := refuseRequests (endSessions (clearIndex s6 (0x4000 + p)) (fun x => x.role == 2 && x.scope == p)) p
  let s8 := modPart (pushBounds (eraseImages s7 p) p) p (fun x =>
    { Part.reset with incarnation := x.incarnation, outcome := 1, disagreeCount := x.disagreeCount })
  record s8 0x4003 5 p (leBytes 1 7 ++ leBytes 4 (partCmdStatus (partOf s8 p)))

/-- Removal as it is applied: only from SUSPENDED with nothing in flight and every watermark at its next ASN (08 R255). -/
def applyRemove (p : Nat) (s : State) : Nat × State :=
  if (partOf s p).created ∧ effectiveOf s p = 1 ∧ inflightOf s p = 0 ∧ partQuiet s p then (0, removePart s p)
  else (0x0009, modPart s p (fun x => { x with reason := if x.created then 1 else 3, outcome := 3 }))

/-- PART_REMOVE (08 R260; 10 R337): an RWQ write of 1 under the module quorum. -/
def execPartRemove (path : Path) (p : Nat) (s : State) : Host.Outcome State Fault Refusal :=
  guardUnit (partOk p) p s (proposeOrApply s path (0x4000 + p) 0xE0 (leBytes 1 1) (applyRemove p))

/-- A tile after a restart: its enable, its wake sources and what the planner stored stay; its fence and quarantines are
gone, its core runs (03 R101; 15 R446). -/
def Tile.restart (t : Tile) : Tile :=
  { Tile.reset with enable := t.enable, wakeEn := t.wakeEn, slack := t.slack, ro := t.ro, wearReserve := t.wearReserve,
                    wearDate := t.wearDate, planTclk := t.planTclk, volt := t.volt, planVolt := t.planVolt, tclk := t.planTclk, pclk := t.pclk }

/-- A queue pair whose written count is lost: CFG_ERR and CPL_ERR take their reset values, the rest of its context, FETCH_ERR and DB_ERR
with it, is restored (02 R50), and it waits for the host's first head write, which begins its replay (04 R120, R122, R123). -/
def Qp.restart (q : Qp) : Qp :=
  let c := { q with cfgErr := false, cplErr := false }
  if q.assigned then { c.resetPage with headWait := true, w := q.wm, next := q.wm, flushed := q.wm, replaying := false }
  else c

/-- Every volatile state of the module is lost, as on loss of main power or the restart after ZEROIZE (04 R120; 12 R387):
quarters, tiles, cores, registers, the vault's working copy, units that have not started, sessions, pieces, an open
ceremony, the debug scope, buffered records. perst is the level of PERST# afterwards. -/
def volatileLost (s : State) (perst : Bool) : State :=
  let s1 := abortCeremony (endSessions (loseQuarters (endDebug (dropChallenge s))) (fun _ => true))
  { s1 with
    hif := { Hif.reset with perst := perst },
    qps := s1.qps.map (fun x => (x.1, x.2.restart)),
    quarters := s1.quarters.map (fun x => (x.1, { Quarter.reset with useNext := x.2.useNext })),
    tiles := s1.tiles.map (fun x => (x.1, x.2.restart)), tmem := [], cores := [], evus := [], svc := Svc.reset,
    ddr := [], reqArea := [],
    journal := { s1.journal with units := [], rr := 0 },
    parts := s1.parts.map (fun x => (x.1, { x.2 with recordsReserved := 0 })),
    vault := { s1.vault with slots := [], waiting := [], grants := [], restored := false },
    tamper := { s1.tamper with seen := [], boundsBad := [] },
    fmp := { Fmp.reset with node := s1.fmp.node, rate := s1.fmp.rate, term := s1.fmp.term },
    dict := { s1.dict with xfers := [], cursors := [], limitSel := [], cur := [] },
    life := { s1.life with scope := 0, dbgWait := [], barred := false },
    fw := { s1.fw with running := false, previous := none, recovery := false,
                       state := if s1.fw.state = 1 ∨ s1.fw.state = 2 then 0 else s1.fw.state },
    boot := { s1.boot with booted := false, step := 0, held := none, failed := false },
    rng := { Rng.reset with drbg := s1.rng.drbg.map (fun x => (x.1, { Drbg.reset with drawn := x.2.drawn })),
                            raw := s1.rng.raw, failures := s1.rng.failures },
    evr := { s1.evr with buffer := [], wall := none, limits := [], mode := 1 },
    power := { s1.power with gate := 2, upCount := 0, upOpen := 0, tCeil := 1450, pCeil := 1200, throttle := 0, pulseHold := none },
    therm := { s1.therm with slow := 0, hard := false, drift := false } }

end Sys2Proof.Machine
end

