-- ==== Sys2Proof/Machine/Tamper.lean ====
section
/-!
DEFINITION. Tamper detection and response: counting events, alarms, the five ranks, backup power, inverted shadows and the
release of HALT (12 R378 to R395, R472, R473; 16 R452).
-/

namespace Sys2Proof.Machine

open Sys2Proof

/-- Defaults of source i: K, W in ms, response (12 R378). -/
def srcDefault (i : Nat) : TamperSrc :=
  match i with
  | 0 => .of 1 0 4
  | 1 => .of 1 10 4
  | 2 => .of 2 10 2
  | 3 => .of 3 10 4
  | 4 => .of 3 10 4
  | 5 => .of 3 1 3
  | 6 => .of 2 1 3
  | 7 => .of 1 1 4
  | 8 => .of 2 10000 1
  | 9 => .of 1 0 2
  | _ => .of 1 0 3

/-- Range of K of source i (12 R378). -/
def kRange (i : Nat) : Nat × Nat :=
  match i with
  | 1 => (1, 3)
  | 2 => (1, 8)
  | 3 => (1, 8)
  | 4 => (1, 8)
  | 5 => (1, 15)
  | 6 => (1, 15)
  | 7 => (1, 4)
  | 8 => (1, 8)
  | _ => (1, 1)

/-- Range of W of source i in ms (12 R378); none for the sources without a window. -/
def wRange (i : Nat) : Nat × Nat :=
  match i with
  | 1 => (1, 100)
  | 2 => (1, 1000)
  | 3 => (1, 10000)
  | 4 => (1, 10000)
  | 5 => (1, 100)
  | 6 => (1, 100)
  | 7 => (1, 100)
  | 8 => (1000, 60000)
  | _ => (0, 0)

/-- Range of the response of source i (12 R378). -/
def respRange (i : Nat) : Nat × Nat :=
  match i with
  | 0 => (4, 4)
  | 2 => (0, 4)
  | 6 => (2, 4)
  | 8 => (0, 2)
  | 9 => (1, 4)
  | _ => (3, 4)

/-- Source i. -/
def srcT (s : State) (i : Nat) : TamperSrc := tblGet (srcDefault i) s.tamper.src i

/-- Change source i. -/
def modSrc (s : State) (i : Nat) (f : TamperSrc → TamperSrc) : State :=
  modTamper s (fun t => { t with src := tblSet t.src i (f (srcT s i)) })

/-- K in force: 1 while a shadow disagrees (12 R389). -/
def kOf (s : State) (i : Nat) : Nat := if (srcT s i).kOk then (srcT s i).k else 1

/-- The response in force: the top of its range while a shadow disagrees (12 R389). -/
def respOf (s : State) (i : Nat) : Nat := if (srcT s i).respOk then (srcT s i).resp else (respRange i).2

/-- The sample period of source i on backup, in µs (12 R390). -/
def backupPeriod (i : Nat) : Nat := if i < 3 then 2000 else 250000

/-- The sample period of detector A of source i on main power, in µs: 0 for the continuously watched ones (12 R378). -/
def mainPeriod (i : Nat) : Nat :=
  match i with
  | 0 => 1
  | 1 => 1000
  | 2 => 100
  | 3 => 1000
  | 4 => 1000
  | 8 => 1000000
  | _ => 0

/-- The sample period of a detector B that is slower than its detector A, in µs (12 R378). -/
def slowPeriod (i : Nat) : Nat := if i = 0 then 10 else if i = 7 then 100 else 0

/-- A sample of source i on main power is one of detector B too, and so a comparison of the pair: B of BACKUP is read at a load test only
(12 R378, R379; 15 R443). -/
def compareDue (s : State) (i : Nat) : Bool := i != 8 && decide ((srcT s i).comparedAt + slowPeriod i ≤ s.now)

/-- Detector A of source i has no coded reading: a contact pair, a PLL lock (12 R378, R395). -/
def uncoded (i : Nat) : Bool := i == 1 || i == 6

/-- Word j of TMP_CAL of source i as it was calibrated (12 R378, R395; log 55). -/
def calRaw (i j : Nat) : Nat := leNat ([2 * j, 2 * j + 1].map (Config.constByte ((0x6010 + i) * 256 + 8)))

/-- The low bound of a detector of source i, second for B: open where the detector has none, 0 where it has no coded reading (12 R378,
R395). -/
def calLow (i : Nat) (second : Bool) : Nat :=
  if (if second then [3, 7, 8].contains i else uncoded i || [3, 7].contains i) then 0 else calRaw i (2 * b2n second)

/-- The high bound of a detector of source i. A calibration gives no high bound below the low one (12 R378, R395; log 55). -/
def calHigh (i : Nat) (second : Bool) : Nat :=
  if !second && uncoded i then 0
  else if (if second then [1, 4, 6].contains i else [4, 8].contains i) then 0xFFFF
  else max (calLow i second) (calRaw i (2 * b2n second + 1))

/-- A reading of a detector of source i, second for B, is an excursion: the detector reports one, or its coded sample lies beyond a bound
of TMP_CAL (12 R379, R395; log 55). -/
def excursion (i : Nat) (second : Bool) (r : Reading) : Bool :=
  r.beyond || ((second || !uncoded i) && (decide (r.sample % 65536 < calLow i second) || decide (calHigh i second < r.sample % 65536)))

/-- The window in force in µs: W, the top of its range while a shadow disagrees; on backup at least K sample periods
(12 R380, R389). -/
def windowOf (s : State) (i : Nat) : Nat :=
  let w := 1000 * (if (srcT s i).wOk then (srcT s i).w else (wRange i).2)
  if s.power.main then w else max w (kOf s i * backupPeriod i)

/-- The K most recent events of a source with a window lie within W before now (12 R380, R472). -/
def windowFull (s : State) (i : Nat) (h : List Nat) : Bool :=
  match h[kOf s i - 1]? with
  | some t => decide (s.now ≤ t + windowOf s i)
  | none => false

/-- A completed count: the rank asked, whether its source enters alarm with it, events in the window, the samples. -/
structure Alarm where
  src    : Nat
  asked  : Nat
  enters : Bool
  events : Nat
  a      : Nat
  b      : Nat

/-- Source i counts a sample, an event or not: its history, its alarm state, and a completed count, or its passing into alarm without an
event, if there is one (12 R379, R380, R472, R473). MESH stays in alarm while detector B lies beyond its threshold. -/
def countSample (s : State) (i : Nat) (ev : Bool) (a b : Nat) : State × List Alarm :=
  let x := srcT s i
  let h := if ev then (s.now :: x.history).take 15 else x.history
  let al := if i = 0 then ev || x.bBeyond else if 9 ≤ i then ev else windowFull s i h
  let n := if i = 0 ∨ 9 ≤ i then 1 else (h.filter (fun t => decide (s.now ≤ t + windowOf s i))).length
  let t := modSrc s i (fun y => { y with history := h, events := sat (2 ^ 32 - 1) (y.events + b2n ev), alarm := al })
  (t, if al && (ev || !x.alarm) then [{ src := i, asked := respOf s i, enters := !x.alarm, events := n, a := a, b := b }] else [])

/-- A pair disagrees: one of its detectors reports an excursion and the other does not, or one is implausible (12 R379). -/
def disagrees (i : Nat) (a b : Reading) : Bool := (excursion i false a != excursion i true b) || !a.plausible || !b.plausible

/-- The comparison of the pair of source i (12 R379): 16 disagreements in a row, or 1 ms without a break for a continuously
watched quantity (sources 5 and 6), give an event and start the count again. -/
def comparePair (s : State) (i : Nat) (dis : Bool) : State × Bool :=
  let x := srcT s i
  if !dis then (modSrc s i (fun y => { y with runs := 0, dis := false, gave := false }), false)
  else if i = 5 ∨ i = 6 then
    if x.runs = 0 then (modSrc s i (fun y => { y with runs := s.now + 1, dis := true }), false)
    else if x.runs + 1000 ≤ s.now + 1 then
      (modSrc s i (fun y => { y with runs := s.now + 1, dis := true, gave := true,
                                     disagree := sat (2 ^ 32 - 1) (y.disagree + 1) }), true)
    else (modSrc s i (fun y => { y with dis := true }), false)
  else if 15 ≤ x.runs then
    (modSrc s i (fun y => { y with runs := 0, dis := true, gave := true, disagree := sat (2 ^ 32 - 1) (y.disagree + 1) }), true)
  else (modSrc s i (fun y => { y with runs := y.runs + 1, dis := true }), false)

/-- SENSOR_FAULT stays in alarm while a pair that gave it an event goes on disagreeing (12 R472). -/
def sensorHolds (s : State) : Bool := (List.range 9).any (fun i => (srcT s i).gave)

/-- A module source of M0, which no one hears on backup power (12 R391; 09 R316). -/
def raiseOnMain (s : State) (n : Nat) : State := if s.power.main then raiseModule s n else s

/-- A SENSOR_FAULT event of a pair (12 R379; 09 R316), or the end of its alarm. -/
def sensorFault (s : State) (ev : Bool) (a b : Nat) : State × List Alarm :=
  if ev then
    let (t, l) := countSample s 9 true a b
    (raiseOnMain t 0x03, l)
  else (modSrc s 9 (fun y => { y with alarm := y.alarm && sensorHolds s }), [])

/-- One sample of source i: its event, its comparison (12 R379, R380). compared is false where detector B is not sampled. -/
def samplePair (s : State) (i : Nat) (a b : Reading) (compared : Bool) : State × List Alarm :=
  let s1 := modSrc s i (fun y =>
    { y with sampledAt := s.now, sampleA := a.sample % 65536, sampleB := if compared then b.sample % 65536 else y.sampleB,
             comparedAt := if compared then s.now else y.comparedAt, bBeyond := if compared then excursion i true b else y.bBeyond })
  let (s2, l1) := countSample s1 i (excursion i false a || (compared && excursion i true b)) (srcT s1 i).sampleA (srcT s1 i).sampleB
  let (s3, ev) := if compared then comparePair s2 i (disagrees i a b) else (s2, false)
  let (s4, l2) := sensorFault s3 ev (srcT s1 i).sampleA (srcT s1 i).sampleB
  (s4, l1 ++ l2)

/-- A life-cycle register differs from its shadow or from the other two (11 R366). -/
def lifeDiffers (s : State) : Bool :=
  let l := s.life
  l.shA != ~~~l.regA || l.shB != ~~~l.regB || l.shC != ~~~l.regC || l.regA != l.regB || l.regA != l.regC

/-- Some field of 12 R388 still disagrees with its shadow; a key-cache tag that did has been erased. -/
def shadowsDiffer (s : State) : Bool :=
  (List.range 11).any (fun i => !(srcT s i).kOk || !(srcT s i).wOk || !(srcT s i).respOk) || !s.tamper.latchOk || !s.tamper.restoreOk ||
    !s.tamper.boundsBad.isEmpty || lifeDiffers s

/-- LOGIC_INTEGRITY leaves alarm when every comparison agrees (12 R472). -/
def settleLogic (s : State) : State :=
  if (srcT s 10).alarm && !shadowsDiffer s then modSrc s 10 (fun y => { y with alarm := false }) else s

/-- The BBRAM is erased: its secrets, with the record key derived from them in the service engine, the life-cycle mirror, the tamper
configuration and the log (12 R387; 07 R211; 11 R368). -/
def eraseBbram (s : State) : State :=
  let d (i : Nat) (x : TamperSrc) : TamperSrc :=
    { x with k := (srcDefault i).k, w := (srcDefault i).w, resp := (srcDefault i).resp, kOk := true, wOk := true, respOk := true }
  let s1 := modTamper s (fun t => { t with src := t.src.map (fun x => (x.1, d x.1 x.2)), log := [], logSeq := 0, logCopied := 0 })
  let s2 := { s1 with svc := { s1.svc with slots := tblErase s1.svc.slots 0 } }
  modLife (modVault s2 (fun v => { v with rs := none, kek := none }))
    (fun l => { l with bbram := false, mirror := 0 })

/-- HALT (12 R382; 01 R21; 04 R120): engines abandon their operations, accepted work goes back to its entries, the buffer of
the recorder is flushed (14 R415). -/
def haltNow (s : State) : State :=
  let was := s.tamper.halt
  let s1 := modTamper s (fun t => { t with halt := true, latch := true, latchOk := true })
  let s2 := (s1.entries.filter (fun e => e.cpl.isNone && e.tile.isSome)).foldl redispatch s1
  let s3 := { s2 with
    tiles := s2.tiles.map (fun x => (x.1, { x.2 with pke0 := x.2.pke0.stop, pke1 := x.2.pke1.stop })) }
  let s4 := modEvr (raiseModule s3 0x00) (fun e => evrFlushAll e s.now)
  if was then s4 else raiseIsr s4 2

/-- The end of the vault index in the DDR5, after the working copy's 1 GiB and its own 512 MiB (01 R31). -/
def vaultIndexEnd : Nat := 3 * 2 ^ 29

/-- PURGE (12 R382): tile stores, module areas, service-engine slots, the vault's working copy and index, sessions, an open ceremony
and the debug scope are erased. -/
def purge (s : State) : State :=
  let f (m : TileMem) : TileMem :=
    { m with cache := [], pinQ := [], moduleArea := none, tokens := [], sens := [] }
  let s1 := { s with tmem := s.tmem.map (fun x => (x.1, f x.2)), svc := { s.svc with slots := [], op := none },
                     ddr := s.ddr.filter (fun c => decide (vaultIndexEnd ≤ c.1)) }
  let s2 := modVault s1 (fun v => { v with slots := [], restored := false })
  endDebug (abortCeremony (endSessions (modTamper s2 (fun t => { t with restorePending := true, restoreOk := true })) (fun _ => true)))

/-- The tenancy and the journal that no start may find after ZEROIZE or an erasing transition (04 R126; 11 R364): every
queue pair unassigned, partitions not created, lines, images and journal empty. keepInc tells that incarnation counts
survive. -/
def eraseTenancy (s : State) (keepInc : Bool) : State :=
  let part (x : Nat × Part) : Nat × Part :=
    (x.1, { Part.reset with incarnation := if keepInc then x.2.incarnation else 0 })
  let s1 := { s with entries := [], qps := [], parts := s.parts.map part,
                     quarters := s.quarters.map (fun x =>
                       (x.1, { x.2 with ops := [], pke := [], l5 := [], drain := [], nonce := [], matchQ := [] })) }
  let s2 := modJournal s1 (fun j => { j with records := [], units := [], useA := [], useB := [] })
  modVault (modLines s2 (fun _ => [])) (fun v => { v with slots := [], under := [], img0 := [], img1 := [], map0 := [], map1 := [], next0 := 65536,
                                                          next1 := 65536, grants := [], waiting := [], op := none, lost := [] })

/-- The trusted kernel's persistent state is erased: every stored object and request (10 R341; 12 R387). A ceremony that it aborts leaves
CER_STATE = 4 (10 R345). -/
def eraseKernel (s : State) : State :=
  modDict s (fun d => { d with store := [], reqs := [], cer := { Ceremony.reset with state := if d.cer.state = 0 ∨ d.cer.state = 3 then 0 else 4 } })

/-- ZEROIZE ends in a restart of every domain but the Nightside (12 R387): start-up runs from its step 1. -/
def zeroizeRestart (s : State) : State := eraseTenancy (eraseKernel (volatileLost s s.hif.perst)) false

/-- The severity of a tamper record by the rank executed (12 R382; 14 R412). -/
def rankSeverity (r : Nat) : Nat := if r = 0 then 2 else r + 3

/-- A Nightside record of an alarm (12 R392). -/
def nsAlarm (s : State) (x : Alarm) (rdone : Nat) (capped zero : Bool) : State :=
  nsAppend s { nsRec s x.src x.asked rdone (x.events % 256) x.a x.b with capped := capped, zeroised := zero }

/-- After a ZEROIZE on backup, the sources that have a record since are noted (12 R391). -/
def noteZeroed (s : State) (src : Nat) : State :=
  if s.tamper.zeroedBackup then modTamper s (fun t => { t with zeroedOn := insertAsc src t.zeroedOn }) else s

/-- Record one alarm on main power: its event record with the rank asked and executed, and a Nightside record for rank HALT
or above (12 R382, R383, R392, R473; 14 R414). A count that only goes on being in alarm executes nothing above LOG. -/
def recordAlarm (top : Nat) (capped : Bool) (s : State) (x : Alarm) : State :=
  let d := if x.enters then top else 0
  let data := leBytes 1 x.asked ++ leBytes 1 d ++ leBytes 1 x.events ++ leBytes 2 x.a ++ leBytes 2 x.b
  let s1 := recordSev s (0x6000 + x.src) (rankSeverity d) 8 x.src false data
  if 2 ≤ x.asked then noteZeroed (nsAlarm s1 x d capped (d == 4)) x.src else s1

/-- The alarms of one sample are counted, and their sources marked as seen (12 R393, R395). -/
def noteAlarms (s : State) (l : List Alarm) (top : Nat) : State :=
  let es := l.filter (fun x => x.enters)
  if es.isEmpty then s
  else modTamper s (fun t => { t with alarms := sat (2 ^ 32 - 1) (t.alarms + es.length), lastRank := top,
                                      seen := es.foldl (fun m x => insertAsc x.src m) t.seen })

/-- The highest rank asked by the sources that enter alarm, capped at ALERT in TEST (12 R381, R383). -/
def topRank (s : State) (l : List Alarm) : Nat :=
  let r := (l.filter (fun x => x.enters)).foldl (fun m x => max m x.asked) 0
  if lifeCycle s = 0 then min 1 r else r

/-- Responses on main power (12 R382, R383, R387, R473). -/
def respondMain (s : State) (l : List Alarm) : State :=
  let top := topRank s l
  let capped := lifeCycle s == 0
  let s1 := noteAlarms s l top
  let s2 := if top = 4 then modTamper (eraseBbram s1) (fun t => { t with zeroedBackup := false, zeroedOn := [] }) else s1
  let s3 := if 1 ≤ top then raiseModule s2 0x01 else s2
  let s4 := if 2 ≤ top then haltNow s3 else s3
  let s5 := if 3 ≤ top then purge s4 else s4
  let s6 := l.foldl (recordAlarm top capped) s5
  if top = 4 then zeroizeRestart s6 else s6

/-- One more alarm of a source that has its record since a ZEROIZE on backup (12 R391). -/
def suppress (s : State) (src : Nat) : State :=
  let hit := (s.tamper.log.filter (fun r => r.source == src)).getLast?
  match hit with
  | none => s
  | some h =>
    modTamper s (fun t => { t with log := t.log.map (fun r =>
      if r.seq = h.seq then { r with suppressed := sat 65535 (r.suppressed + 1) } else r) })

/-- Record one alarm on backup power (12 R391, R392). -/
def recordBackup (top : Nat) (capped : Bool) (s : State) (x : Alarm) : State :=
  let d := if x.enters then top else 0
  if s.tamper.zeroedBackup ∧ s.tamper.zeroedOn.contains x.src then suppress s x.src
  else noteZeroed (nsAlarm s x d capped (d == 4)) x.src

/-- Responses on backup power (12 R391): the log, the HALT latch, RESTORE_PENDING, or the erasure. -/
def respondBackup (s : State) (l : List Alarm) : State :=
  let top := topRank s l
  let s1 := noteAlarms s l top
  let s2 := if top = 4 then modTamper (eraseBbram s1) (fun t => { t with zeroedBackup := true, zeroedOn := [] })
    else if 2 ≤ top then modTamper s1 (fun t => { t with latch := true, latchOk := true, restorePending := t.restorePending || top == 3,
                                                           restoreOk := t.restoreOk || top == 3 })
    else s1
  l.foldl (recordBackup top (lifeCycle s == 0)) s2

/-- Respond to the completed counts of a sample, by the supply at that sample (12 R394). -/
def respond (s : State) (l : List Alarm) : State :=
  if l.isEmpty then s else if s.power.main then respondMain s l else respondBackup s l

/-- TAMPER_SAMPLE (12 R378 to R383, R472, R473): a sample of detector A on main power, its period after the last one, and one of detector
B where that is due. -/
def execTamperSample (src : Nat) (a b : Reading) (s : State) : Host.Outcome State Fault Refusal :=
  guardUnit (decide (src ≤ 8)) src s
    (if s.power.main then
      let u := advanceTo s ((srcT s src).sampledAt + mainPeriod src)
      let (t, l) := samplePair (settleLogic u) src a b (compareDue u src)
      respond t l
    else s)

/-- The time of the next burst: 2 ms after the last one (12 R390). -/
def burstTime (s : State) : Nat := max s.tamper.burstAt s.power.lostAt + 2000

/-- The sources that a burst now samples: MESH, LID and EXT_LOOP in each, TEMP_HIGH, TEMP_LOW and BACKUP 250 ms after their last sample
(12 R378, R390). -/
def burstSources (s : State) : List Nat :=
  [0, 1, 2] ++ [3, 4, 8].filter (fun i => decide ((srcT s i).sampledAt + backupPeriod i ≤ s.now))

/-- The reading that a burst brings of a source. -/
def burstReading (rs : List BurstReading) (i : Nat) : Option BurstReading := rs.find? (fun r => r.src == i)

/-- The pairs of a burst, one sample: of BACKUP, detector A alone (12 R379, R390). -/
def burstSamples (s : State) (rs : List BurstReading) : State × List Alarm :=
  ((burstSources s).filterMap (burstReading rs)).foldl (fun (acc : State × List Alarm) r =>
    let (t, l) := samplePair acc.1 r.src r.a r.b (r.src != 8)
    (t, acc.2 ++ l)) (s, [])

/-- The Nightside domain runs from the backup input: main power is absent and the input lies at 2.0 to 5.5 V (12 R390). -/
def onBackup (s : State) : Bool := !s.power.main && decide (2000 ≤ s.power.backupMv ∧ s.power.backupMv ≤ 5500)

/-- NIGHTSIDE_BURST (12 R390, R391): readings that leave a source of the burst out are none. -/
def execNightsideBurst (rs : List BurstReading) (s : State) : Host.Outcome State Fault Refusal :=
  let u := advanceTo s (burstTime s)
  done s (if !onBackup s ∨ (burstSources u).any (fun i => (burstReading rs i).isNone) then s
    else
      let (t, l) := burstSamples (settleLogic (modTamper u (fun x => { x with burstAt := u.now }))) rs
      respond t l)

/-- The backup input stands below 2.0 V with main power absent: the Nightside executes ZEROIZE as source BACKUP (12 R391). At 0 V no
backup energy is left, and the BBRAM loses its contents whatever the response (00 R3). -/
def lowBackup (s : State) : State :=
  if s.power.main ∨ 2000 ≤ s.power.backupMv then s
  else
    let u := respond s [{ src := 8, asked := 4, enters := !(s.tamper.zeroedBackup && s.tamper.zeroedOn.contains 8),
                          events := 1, a := (srcT s 8).sampleA, b := (srcT s 8).sampleB }]
    if s.power.backupMv = 0 then eraseBbram u else u

/-- BACKUP_UNDERVOLTAGE (12 R391): the backup input is measured at mv. -/
def execBackupUndervoltage (mv : Nat) (s : State) : Host.Outcome State Fault Refusal :=
  done s (lowBackup { s with power := { s.power with backupMv := mv } })

/-- The tag at place i of a tile's key cache is erased with its entry, and the descriptors that pin it end with DATA_INTEGRITY_ERROR (12
R389). -/
def eraseTag (s : State) (t i : Nat) : State :=
  match (tmemOf s t).cache[i]? with
  | none => s
  | some e =>
    e.pins.foldl (fun u d =>
      match entryOf u d.1 d.2 with
      | some x => if x.cpl.isNone then finishEntry u { x with fired := true } cplData else u
      | none => u) (modTmem s t (fun m => { m with cache := m.cache.eraseIdx i }))

/-- Life-cycle register r reads v and its shadow sh: VOTE_ERR and SHADOW_ERR occurrences are counted and recorded (11 R366, R377; 14
R414). -/
def upsetLife (s : State) (r : Nat) (v sh : BitVec 3) : State :=
  let t := modLife s (fun l =>
    { l with regA := if r = 0 then v else l.regA, regB := if r = 1 then v else l.regB, regC := if r = 2 then v else l.regC,
             shA := if r = 0 then sh else l.shA, shB := if r = 1 then sh else l.shB, shC := if r = 2 then sh else l.shC })
  let vote := t.life.regA != t.life.regB || t.life.regA != t.life.regC
  let u := modLife t (fun l => { l with voteEvents := (l.voteEvents + b2n vote + b2n (sh != ~~~v)) % 2 ^ 32 })
  if lifeDiffers u then record u 0x2002 0 0 (leBytes 4 (lcSts u)) else u

/-- What a mismatch leaves beside its event (12 R388, R389; 11 R366): a field that is not trusted until it is written again, the latch or
RESTORE_PENDING at their restrictive value, a life-cycle register that differs, bounds that differ, an erased tag. -/
def shadowEffect (s : State) (g : ShadowGroup) : State :=
  match g with
  | .config i window => modSrc s i (fun y => if window then { y with wOk := false } else { y with kOk := false })
  | .response i => modSrc s i (fun y => { y with respOk := false })
  | .latch =>
    let t := if lifeCycle s = 0 then s else if s.power.main then haltNow s else modTamper s (fun t => { t with latch := true })
    modTamper t (fun t => { t with latchOk := false })
  | .restore => modTamper s (fun t => { t with restorePending := true, restoreOk := false })
  | .lifeCycle r v sh => upsetLife s r v sh
  | .bounds unit p => modTamper s (fun t => { t with boundsBad := (unit, p) :: t.boundsBad.filter (fun x => x != (unit, p)) })
  | .keyTag t i => eraseTag s t i

/-- A group that the module has (12 R388). -/
def groupOk (g : ShadowGroup) : Bool :=
  match g with
  | .config i _ => decide (i ≤ 8)
  | .response i => decide (i ≤ 10)
  | .lifeCycle r _ _ => decide (r < 3)
  | .bounds unit p => decide (unit < 20) && partOk p
  | .keyTag t _ => tileOk t
  | _ => true

/-- A group that the Nightside domain holds, which it compares on backup power too (12 R388). -/
def nightGroup (g : ShadowGroup) : Bool :=
  match g with
  | .config _ _ => true
  | .response _ => true
  | .latch => true
  | .restore => true
  | _ => false

/-- A LOGIC_INTEGRITY event (12 R388, R391; 09 R316). -/
def logicEvent (s : State) : State :=
  let s1 := modTamper s (fun t => { t with shadowEvents := sat (2 ^ 32 - 1) (t.shadowEvents + 1), logicAlarm := true })
  let (t, l) := countSample s1 10 true 0 0
  respond (raiseOnMain t 0x02) l

/-- The values that a command brings leave a mismatch: of a life-cycle register they may agree, and a place of the cache may be empty. -/
def leavesMismatch (s : State) (g : ShadowGroup) : Bool :=
  match g with
  | .lifeCycle r v sh => lifeDiffers (upsetLife s r v sh)
  | .keyTag t i => ((tmemOf s t).cache[i]?).isSome
  | _ => true

/-- SHADOW_MISMATCH (12 R388, R389; 11 R366): of a group whose unit has power. -/
def execShadowMismatch (g : ShadowGroup) (s : State) : Host.Outcome State Fault Refusal :=
  guardUnit (groupOk g) 0 s
    (if !s.power.main ∧ !nightGroup g then s
     else if leavesMismatch s g then logicEvent (shadowEffect (settleLogic s) g) else shadowEffect s g)

/-- A source with a response of HALT or above that is in alarm, or had an event in the last 1 s; or SENSOR_FAULT had one
(12 R386). -/
def releaseBarred (s : State) : Bool :=
  let recent (i : Nat) : Bool :=
    match (srcT s i).history with
    | t :: _ => decide (s.now ≤ t + 1000000)
    | [] => false
  (List.range 11).any (fun i => decide (2 ≤ respOf s i) && ((srcT s i).alarm || recent i)) || recent 9

/-- The HALT latch and the level clear, the timers of the watchdog and of the host fabric start anew (12 R386, R393; 04 R120; 16
R452). -/
def dropHalt (s : State) : State :=
  if !s.tamper.halt ∧ !s.tamper.latch then s
  else
    let s1 := modTamper s (fun t => { t with halt := false, latch := false, latchOk := true })
    raiseIsr { s1 with tmem := s1.tmem.map (fun x => (x.1, { x.2 with heart := s.now })),
                       quarters := s1.quarters.map (fun x => (x.1, { x.2 with lastSend := s.now })) } 2

/-- TMP_HALT_CTL.RELEASE by M0: honoured while no source of rank HALT or above is in alarm (12 R393). -/
def writeRelease (s : State) : State :=
  let t := settleLogic s
  if (List.range 11).any (fun i => decide (2 ≤ respOf t i) && (srcT t i).alarm) then t else dropHalt t

/-- HALT is released (12 R386): the vault is restored first where PURGE has erased it. -/
def releaseHalt (s : State) : State :=
  if !s.tamper.halt ∧ !s.tamper.latch then s
  else if s.tamper.restorePending then
    dropHalt (modTamper (startTiles (restoreVault s s.vault.lost)) (fun t => { t with restorePending := false, restoreOk := true }))
  else dropHalt s

/-- TMP_HALT_RELEASE as it is applied (12 R386). -/
def applyHaltRelease (s : State) : Nat × State :=
  let t := settleLogic s
  if releaseBarred t then (0x0009, t) else (0, releaseHalt t)

/-- TMP_HALT_RELEASE (12 R386, R395; 10 R337). -/
def execTmpHaltRelease (path : Path) (s : State) : Host.Outcome State Fault Refusal :=
  done s (proposeOrApply s path 0x6000 0x04 (leBytes 1 1) applyHaltRelease)

end Sys2Proof.Machine
end

