-- ==== Sys2Proof/Machine/EloaMem.lean ====
section
/-!
DEFINITION. The data addresses of the Eloa cores: data memory, the event vector units' registers, the management complex
registers and the DDR5 aperture (09 R281, R286, R308, R309; 01 R31; 06 R194; 07 R217, R224; 12 R393).
-/

namespace Sys2Proof.Machine

open Sys2Proof

/-- What a data address names (09 R281). -/
inductive Place where
  | data (a : Nat)
  | evu (off : Nat)
  | mgmt (off : Nat)
  | ddr (a : Nat)
  deriving DecidableEq, Repr

/-- A core of the OPEN world: M1 to M3 (09 R278). -/
def isOpen (c : Nat) : Bool := decide (64 < c)

/-- Where OPEN may reach in the DDR5: the script image area and its own working memory, the regions taken in the order of
01 R31 (09 R281; log 35). No core reaches the staging region. -/
def ddrOk (c a : Nat) : Bool :=
  if isOpen c then decide (3 * 2 ^ 29 ≤ a ∧ a < 2 ^ 32) else decide (a < 2 ^ 32)

/-- The place of data address a for core c (09 R281): RANGE where nothing lies, PRIV where the core's world may not go.
M1 to M3 reach the registers from offset 0x8000 on (11 R352). -/
def placeOf (s : State) (c a : Nat) : Except Stop Place :=
  if c < 64 then
    if a < 0x2000 then .ok (.data a)
    else if 0x10000 ≤ a ∧ a < 0x11000 then (if isS3 c then .error (.fault fltPriv) else .ok (.evu (a - 0x10000)))
    else .error (.fault fltRange)
  else if a < 0x40000 then .ok (.data a)
  else if 0x40000000 ≤ a ∧ a < 0x40010000 then
    if isOpen c ∧ a < 0x40008000 then .error (.fault fltPriv) else .ok (.mgmt (a - 0x40000000))
  else if 0x40010000 ≤ a ∧ a < 0x40011000 then .ok (.evu (a - 0x40010000))
  else if 0x80000000 ≤ a then
    let d := bits (coreOf s c).ctl.dwin.toNat 1 0 * 2 ^ 31 + (a - 0x80000000)
    if ddrOk c d then .ok (.ddr d) else .error (.fault fltPriv)
  else .error (.fault fltRange)

/-- The place of an access of n bytes: ALIGN comes first where the address is not a multiple of n (09 R305; log 36). -/
def accessOf (s : State) (c a n : Nat) : Except Stop Place :=
  if a % n ≠ 0 then .error (.fault fltAlign) else placeOf s c a

/-- n bytes of the DDR5 at address a, within one slot of the working copy or in the regions kept as bytes. DESIGN CHOICE: the spec gives
no byte layout for the slot maps, lineage tables, quotas and images of the vault index and the script image area (01 R31), so a load
there reads the bytes that cores have stored, 0 where none has (log 4). -/
def ddrRead (s : State) (a n : Nat) : List Byte :=
  if a < 2 ^ 30 then slice (recBytes (slotOf s (a / 256))) (a % 256) n else Memory.read s.ddr a n

/-- Write bytes to the DDR5: into a record of the working copy, or into the regions kept as bytes. -/
def ddrWrite (s : State) (a : Nat) (v : List Byte) : State :=
  if a < 2 ^ 30 then
    let i := a / 256
    let old := slotOf s i
    modVault s (fun x => { x with slots := tblSet x.slots i (recOf (splice (recBytes old) (a % 256) v) old) })
  else { s with ddr := Memory.write s.ddr a v }

/-- Words of the vectors of unit u (09 R309). -/
def evuWords (u : Nat) : Nat := if u < 16 then 2 else 8

/-- Word k of a vector of sources. -/
def vecWord (l : List Nat) (k : Nat) : Nat :=
  ((List.range 32).map (fun i => b2n (l.contains (32 * k + i)) * 2 ^ i)).sum

/-- EVU_SRC_CFG (09 R308). -/
def srcWord (c : EvuSrc) : Nat := c.sense + 8 * b2n c.mask + 16 * c.prio + 256 * c.target + 65536 * b2n c.level

/-- A word of unit u's registers; offsets without a register read as zero (09 R308, R309; log 36). -/
def evuRead (s : State) (u off : Nat) : Nat :=
  let e := evuOf s u
  let k := off % 0x20 / 4
  if off < 128 * evuWords u then srcWord (srcOf s u (off / 4))
  else if 0x400 ≤ off ∧ off < 0x440 ∧ k < evuWords u then vecWord e.pend k
  else if 0x440 ≤ off ∧ off < 0x460 ∧ k < evuWords u then vecWord e.active k
  else if 0x500 ≤ off ∧ off < 0x580 then
    let i := (off - 0x500) / 0x20
    let r := evuCoreOf s u i
    if k = 0 then r.thresh
    else if k = 1 then r.vbase.toNat
    else if k = 2 then r.runpri
    else if k = 3 then r.cur
    else 0
  else 0

/-- The level sources of unit u whose level is asserted: pending in every cycle (09 R310). -/
def levelsOn (s : State) (u : Nat) : List Nat :=
  ((evuOf s u).cfg.map (fun x => x.1)).filter (fun x => sourceListed u x && !softSource u x && levelOn (srcOf s u x))

/-- Sample the levels: an asserted level source is pending (09 R310), then deliver what is deliverable. -/
def evuSettle (s : State) (u : Nat) : State :=
  deliverAll (modEvu s u (fun e => { e with pend := (levelsOn s u).foldl (fun l x => insertAsc x l) e.pend })) u

/-- Sources whose bit is set in word k. -/
def vecBits (k v : Nat) : List Nat := ((List.range 32).filter (fun i => bit v i)).map (fun i => 32 * k + i)

/-- A write of 1s to EVU_PEND_SET: the sources become pending, but for those that never are (09 R308, R309, R315, R316). -/
def pendSet (s : State) (u k v : Nat) : State :=
  let l := (vecBits k v).filter (fun x => sourceListed u x && decide ((srcOf s u x).sense ≤ 4))
  evuSettle (modEvu s u (fun e => { e with pend := l.foldl (fun p x => insertAsc x p) e.pend })) u

/-- A write of EVU_SRC_CFG of source x by core c: PRIV from the OPEN world to a source of M0's, or to make it one; a fixed source ignores
it (09 R308). -/
def writeSrc (s : State) (c u x v : Nat) : Except Stop State :=
    let old := srcOf s u x
    if u = 16 ∧ isOpen c ∧ (old.target = 0 ∨ bits v 9 8 = 0) then .error (.fault fltPriv)
    else if u = 16 ∧ x ∈ fixedSources then .ok s
    else
      let n : EvuSrc := { sense := bits v 2 0, mask := bit v 3, prio := bits v 7 4, target := bits v 9 8,
                          level := old.level }
      .ok (evuSettle (modEvu s u (fun e => { e with cfg := tblSet e.cfg x n })) u)

/-- A write of word v to unit u's register at offset off by core c (09 R309). -/
def evuWrite (s : State) (c u off v : Nat) : Except Stop State :=
  let k := off % 0x20 / 4
  if off < 128 * evuWords u then writeSrc s c u (off / 4) v
  else if 0x400 ≤ off ∧ off < 0x420 ∧ k < evuWords u then
    let l := vecBits k v
    .ok (evuSettle (modEvu s u (fun e => { e with pend := e.pend.filter (fun x => !l.contains x) })) u)
  else if 0x420 ≤ off ∧ off < 0x440 ∧ k < evuWords u then .ok (pendSet s u k v)
  else if 0x500 ≤ off ∧ off < 0x580 then
    let i := (off - 0x500) / 0x20
    if i ≠ (unitOf c).2 ∧ c ≠ 64 then .error (.fault fltPriv)
    else if k = 0 then .ok (deliverAll (modEvuCore s u i (fun r => { r with thresh := bits v 3 0 })) u)
    else if k = 1 then .ok (modEvuCore s u i (fun r => { r with vbase := BitVec.ofNat 32 (v / 16 * 16) }))
    else .ok s
  else .ok s

/-- Is the register at offset off of a unit one whose written 1s act and whose written 0s do nothing? -/
def evuOnes (off : Nat) : Bool := decide (0x400 ≤ off ∧ off < 0x440)

/-- TMP_SRC_CFG of source i (12 R393). -/
def tmpCfgWord (s : State) (i : Nat) : Nat := (srcT s i).k + 256 * (if i = 0 then 0 else (srcT s i).w)

/-- TMP_RESP_MAP0 or 1 (12 R393). -/
def tmpRespWord (s : State) (m : Nat) : Nat :=
  ((List.range (if m = 0 then 8 else 3)).map (fun i => (srcT s (8 * m + i)).resp * 8 ^ i)).sum

/-- TMP_STS (12 R393): CAPPED shows the cap of TEST, under which a response is no more than ALERT (12 R381). -/
def tmpSts (s : State) : Nat :=
  let on (f : TamperSrc → Bool) : Nat := ((List.range 11).map (fun i => b2n (f (srcT s i)) * 2 ^ i)).sum
  b2n s.tamper.halt + 2 * b2n s.tamper.restorePending + 4 * b2n (lifeCycle s == 0) + 16 * on (fun x => x.alarm) +
    65536 * (on (fun x => x.dis) % 512) + 2 ^ 25 * s.tamper.lastRank

/-- TMP_LATCH (12 R393). -/
def tmpLatch (s : State) : Nat := vecWord s.tamper.seen 0

/-- A word of the management complex registers whose offsets the spec gives; WO and W1S fields read as zero (00 R11). -/
def mgmtRead (s : State) (off : Nat) : Option Nat :=
  if 0x2000 ≤ off ∧ off < 0x2024 then some (tmpCfgWord s ((off - 0x2000) / 4))
  else if off = 0x2030 then some (tmpRespWord s 0)
  else if off = 0x2034 then some (tmpRespWord s 1)
  else if off = 0x2040 then some 0
  else if off = 0x8010 then some (lcSts s)
  else if off = 0x8020 then some (tmpSts s)
  else if off = 0x8024 then some (tmpLatch s)
  else if off = 0x8100 then some (svcLockWord s)
  else if off = 0x8104 then some 0
  else if 0xC000 ≤ off ∧ off < 0xD000 then some (leNat (Memory.read s.reqArea (off - 0xC000) 4))
  else none

/-- Is it a register whose written 1s act and whose written 0s do nothing? -/
def mgmtOnes (off : Nat) : Bool := off == 0x2040 || off == 0x8024 || off == 0x8104

/-- A value within a range. -/
def inRange (r : Nat × Nat) (v : Nat) : Bool := decide (r.1 ≤ v ∧ v ≤ r.2)

/-- K and W of a source, each with its shadow (12 R388). -/
def TamperSrc.withK (x : TamperSrc) (k : Nat) : TamperSrc := { x with k := k, kOk := true }
def TamperSrc.withW (x : TamperSrc) (w : Nat) : TamperSrc := { x with w := w, wOk := true }

/-- New response of a source, with its shadow. -/
def TamperSrc.withResp (x : TamperSrc) (r : Nat) : TamperSrc := { x with resp := r, respOk := true }

/-- A write of TMP_SRC_CFG of source i (12 R393): a value outside its range leaves its field; source 0 keeps its fixed values, which the
write gives their shadows again. -/
def writeTmpCfg (s : State) (i v : Nat) : State :=
  modSrc s i (fun x =>
    if i = 0 then (x.withK x.k).withW x.w
    else
      let y := if inRange (kRange i) (bits v 3 0) then x.withK (bits v 3 0) else x
      if inRange (wRange i) (bits v 23 8) then y.withW (bits v 23 8) else y)

/-- A write of TMP_RESP_MAP (12 R381, R393): a rank outside the source's range leaves its field; source 0 keeps its own. -/
def writeTmpResp (s : State) (m v : Nat) : State :=
  (List.range (if m = 0 then 8 else 3)).foldl (fun u i =>
    let r := bits v (3 * i + 2) (3 * i)
    let n := 8 * m + i
    if n = 0 then modSrc u 0 (fun x => x.withResp x.resp)
    else if inRange (respRange n) r then modSrc u n (fun x => x.withResp r) else u) s

/-- A write of word v to the management complex register at offset off by core c; none where the spec gives no register
there. Read-only registers ignore writes (00 R11). -/
def mgmtWrite (s : State) (c off v : Nat) : Option State :=
  if 0x2000 ≤ off ∧ off < 0x2024 then some (writeTmpCfg s ((off - 0x2000) / 4) v)
  else if off = 0x2030 then some (writeTmpResp s 0 v)
  else if off = 0x2034 then some (writeTmpResp s 1 v)
  else if off = 0x2040 then some (if c = 64 ∧ bit v 0 then writeRelease s else s)
  else if off = 0x8010 ∨ off = 0x8020 ∨ off = 0x8100 then some s
  else if off = 0x8024 then
    some (modTamper s (fun t => { t with seen := t.seen.filter (fun i => !bit v i) }))
  else if off = 0x8104 then some (svcWriteCtl (c - 64) (BitVec.ofNat 32 v) s)
  else if 0xC000 ≤ off ∧ off < 0xD000 then
    some { s with reqArea := Memory.write s.reqArea (off - 0xC000) (leBytes 4 v) }
  else none

/-- n bytes of a word at byte lane i. -/
def byteLane (w i n : Nat) : Nat := w / 256 ^ i % 256 ^ n

/-- A word with n bytes at lane i replaced. -/
def intoLane (w i n v : Nat) : Nat := leNat (splice (leBytes 4 w) i (leBytes n v))

/-- Load n bytes at data address a on core c: the value, and the state after it (a read of SVC_LOCK clears FORCED; a
register whose offset the spec does not give reads as a free value, log 5). -/
def loadAt (s : State) (c a n : Nat) : Except Stop (Nat × State) :=
  match accessOf s c a n with
  | .error e => .error e
  | .ok (.data x) => .ok (leNat (Memory.read (coreOf s c).mem x n), s)
  | .ok (.ddr x) => .ok (leNat (ddrRead s x n), s)
  | .ok (.evu o) => .ok (byteLane (evuRead s (unitOf c).1 (o - o % 4)) (o % 4) n, s)
  | .ok (.mgmt o) =>
    (match mgmtRead s (o - o % 4) with
    | some w =>
      .ok (byteLane w (o % 4) n, if o - o % 4 = 0x8100 then { s with svc := { s.svc with forced := false } } else s)
    | none =>
      let (v, t) := takeFree s
      .ok (v % 256 ^ n, t))

/-- Store n bytes at data address a on core c. A part of a register is written with its other bytes as they stand, or as
zeros where only written 1s act (log 36). A store to a register of the management complex that no chapter names changes nothing that the
model holds (log 11). -/
def storeAt (s : State) (c a n v : Nat) : Except Stop State :=
  match accessOf s c a n with
  | .error e => .error e
  | .ok (.data x) => .ok (modCore s c (fun k => { k with mem := Memory.write k.mem x (leBytes n v) }))
  | .ok (.ddr x) => .ok (ddrWrite s x (leBytes n v))
  | .ok (.evu o) =>
    let u := (unitOf c).1
    let r := o - o % 4
    evuWrite s c u r (intoLane (if evuOnes r then 0 else evuRead s u r) (o % 4) n v)
  | .ok (.mgmt o) =>
    let r := o - o % 4
    .ok ((mgmtWrite s c r (intoLane (if mgmtOnes r then 0 else (mgmtRead s r).getD 0) (o % 4) n v)).getD s)

end Sys2Proof.Machine
end

