-- ==== Sys2Proof/Machine/ObjTable.lean ====
section
/-!
DEFINITION. The object dictionary's tables: every object the chapters define, with its type, access class, length,
default and range (07 R243; 08 R277; 10 R327 to R351; 11 R377; 12 R395; 13 R410; 14 R425; 15 R446, R447; 17 R470).
-/

namespace Sys2Proof.Machine

open Sys2Proof

/-- An object: type code of 10 R328, access class, greatest length, whether a shorter value is allowed, and for the
numeric types the default and the range. -/
structure Obj where
  ty   : Nat
  acc  : Access
  len  : Nat
  var  : Bool
  dflt : Nat
  lo   : Nat
  hi   : Nat
  deriving DecidableEq, Repr

/-- The bytes of a numeric type of 10 R328. -/
def tyLen (ty : Nat) : Nat :=
  if ty = 1 ∨ ty = 2 then 1 else if ty = 3 ∨ ty = 6 then 2 else if ty = 4 ∨ ty = 7 then 4
  else if ty = 5 ∨ ty = 10 then 8 else if ty = 8 then 6 else 48

/-- A numeric object with a range. -/
def num (ty : Nat) (a : Access) (d lo hi : Nat) : Obj :=
  { ty := ty, acc := a, len := tyLen ty, var := false, dflt := d, lo := lo, hi := hi }
/-- A numeric object whose range is that of its type: a signed type's bounds are 64-bit two's complement. -/
def full (ty : Nat) (a : Access) (d : Nat) : Obj :=
  if ty = 1 then num ty a d 0 1
  else if ty = 6 then num ty a d (2 ^ 64 - 2 ^ 15) (2 ^ 15 - 1)
  else if ty = 7 then num ty a d (2 ^ 64 - 2 ^ 31) (2 ^ 31 - 1)
  else num ty a d 0 (256 ^ tyLen ty - 1)
/-- OCTETS(n). -/
def octets (n : Nat) (a : Access) : Obj := { ty := 9, acc := a, len := n, var := false, dflt := 0, lo := 0, hi := 0 }
/-- OCTETS of any length up to n: an image, certificate or value object (10 R328). -/
def upTo (n : Nat) (a : Access) : Obj := { octets n a with var := true }
/-- DIGEST. -/
def digestObj (a : Access) : Obj := { ty := 11, acc := a, len := 48, var := false, dflt := 0, lo := 0, hi := 0 }

/-- 0x1000 to 0x1002 (10 R347). -/
def objIdent (idx : Nat) : List (Nat × Obj) :=
  if idx = 0x1000 then
    [(1, octets 16 .const), (2, full 3 .const 0x5134), (3, octets 16 .const), (4, full 2 .const 0x10), (5, full 5 .const 0),
     (6, num 2 .const 0 0 1)]
  else if idx = 0x1001 then
    [(1, full 4 .const 0), (2, full 4 .ro 0), (3, full 4 .ro 0), (4, num 2 .ro 0 0 1), (5, full 4 .ro 0)]
  else
    [(1, upTo 97 .ro), (2, upTo 1952 .ro), (3, upTo 4096 .ro), (4, upTo 16384 .ro), (5, upTo 32768 .ro)]

/-- 0x1100 to 0x1120 (10 R348). -/
def objPort (idx : Nat) : List (Nat × Obj) :=
  if idx = 0x1100 then [(1, num 2 .rwb 1 1 127), (2, num 2 .rwb 8 2 8), (3, full 1 .rwb 1), (4, num 2 .rwb 0 1 1)]
  else if idx = 0x1101 then
    [(1, num 2 .ro 0 0 2), (2, full 2 .ro 0), (3, full 2 .ro 0), (4, full 4 .ro 0), (5, full 4 .ro 0), (6, full 4 .ro 0),
     (7, full 4 .ro 0)]
  else if idx = 0x1110 then
    [(1, full 2 .const 32), (2, num 3 .rwb 600 60 3600), (3, octets 512 .ro), (4, num 2 .rwb 5 0 7)]
  else (List.range 8).map (fun n => (1 + n, octets 2073 .rwq))

/-- 0x2000 to 0x2050 (11 R377). -/
def objLife (idx : Nat) : List (Nat × Obj) :=
  if idx = 0x2000 then
    [(1, num 2 .ro 0 0 6), (2, num 2 .ro 0 0 6), (3, full 4 .ro 0), (4, num 2 .rwq 0 1 6), (5, full 4 .ro 0)]
  else if idx = 0x2001 then [(1, full 1 .ro 0), (2, num 2 .ro 0 0 2)]
  else if idx = 0x2010 then
    [(1, num 2 .rwb 0 1 0x16), (2, octets 112 .ro), (3, upTo 4787 .rwb), (4, num 2 .ro 0 0 2), (5, num 2 .rwb 0 1 1)]
  else if idx = 0x2020 then
    [(1, num 2 .ro 0 0 1), (2, num 4 .wo 0 1 16777216), (3, upTo 65536 .wo), (4, num 2 .ro 0 0 4), (5, full 3 .ro 0),
     (6, num 2 .rwq 0 1 1), (7, octets 16 .ro), (8, octets 64 .ro), (9, octets 64 .ro)]
  else if idx = 0x2030 then
    [(1, digestObj .const), (2, digestObj .ro), (3, digestObj .ro), (4, digestObj .ro), (5, digestObj .ro),
     (6, digestObj .ro), (7, digestObj .ro)]
  else if idx = 0x2040 then [(1, num 3 .rw 0xFFFF 0 0xFFFF), (2, octets 32 .rw), (3, upTo 12288 .ro)]
  else [(1, full 4 .ro 0), (2, full 4 .ro 0)]

/-- 0x3000 to 0x3020 (10 R350). -/
def objPools (idx : Nat) : List (Nat × Obj) :=
  if idx = 0x3000 then
    [(1, full 3 .const 16384), (2, num 3 .ro 16384 0 16384), (3, num 3 .ro 14208 0 14208), (4, num 3 .ro 0 0 4096)]
  else if idx = 0x3020 then [(1, full 4 .rwq 3)]
  else [(1, num 3 .ro 0 0 16384), (2, num 3 .ro 0 0 16384), (3, num 3 .ro 0 0 16320), (4, num 3 .ro 0 0 4096)]

/-- 0x4000 + p: the settings (08 R277). -/
def objPartSet : List (Nat × Obj) :=
  [(0x09, num 3 .rw 1000 1 65535), (0x10, num 2 .rw 1 1 64), (0x11, octets 128 .ro), (0x12, num 3 .rw 256 1 16384),
   (0x20, num 3 .rw 1 1 8190), (0x21, num 3 .rw 0 0 3520), (0x22, num 3 .rw 64 8 16320), (0x23, num 3 .rw 1 1 14208),
   (0x24, num 3 .rw 1 1 1000), (0x28, num 4 .rw 1000000 1 500000000), (0x29, num 4 .rw 65536 1 16777215),
   (0x2A, num 4 .rw 100000 1 38400000), (0x2B, num 4 .rw 10000 1 16777215), (0x30, full 4 .rwq 0), (0x31, octets 64 .rwq),
   (0x40, octets 97 .rwq), (0x41, octets 1952 .rwq), (0x42, num 4 .rwq 100000 1000 10000000)]

/-- 0x4000 + p (08 R277; 10 R349). -/
def objPart : List (Nat × Obj) :=
  [(0x01, num 2 .ro 7 0 7), (0x02, num 2 .ro 7 0 7), (0x03, num 2 .ro 7 0 7), (0x04, full 4 .ro 0), (0x05, num 2 .wo 0 1 5),
   (0x06, full 4 .ro 0), (0x07, full 4 .ro 0), (0x08, full 4 .ro 0)] ++ objPartSet ++
  (List.range 64).map (fun n => (0x50 + n, upTo 27917 .wo)) ++ (List.range 64).map (fun n => (0x90 + n, octets 80 .ro)) ++
  [(0xD0, num 2 .wo 0 1 64), (0xE0, num 2 .rwq 0 1 1), (0xE8, num 2 .rwq 2 1 8), (0xE9, num 2 .ro 0 0 16)] ++
  (List.range 16).map (fun n => (0xF0 + n, octets 2073 .rwq))

/-- 0x5000 to 0x5011 (07 R243). -/
def objVault (idx : Nat) : List (Nat × Obj) :=
  if idx = 0x5000 then
    [(1, full 4 .const 4194304), (2, num 3 .ro 8190 0 8190), (3, num 3 .ro 11776 0 11776), (4, num 3 .ro 3520 0 3520),
     (5, num 3 .ro 0 0 11776), (6, full 4 .ro 0), (7, full 4 .ro 0), (8, full 5 .ro 0)]
  else if idx = 0x5010 then [(1, full 10 .rw 0), (2, num 2 .wo 0 1 2), (3, full 3 .ro 0)]
  else [(1, full 10 .rwq 0), (2, num 2 .rwq 0 1 2), (3, full 3 .ro 0)]

/-- 0x5100 to 0x525F (10 R349). -/
def objQuorum (idx : Nat) : List (Nat × Obj) :=
  if idx = 0x5100 then
    [(1, octets 24 .rwq), (2, num 2 .ro 0 0 4), (3, num 2 .ro 0 0 7), (4, octets 44 .rwb), (5, octets 5 .ro),
     (6, octets 5 .rwb), (7, full 10 .ro 0), (8, num 2 .rwb 0 1 1), (9, num 3 .rwq 1800 60 14400)]
  else if idx = 0x5200 then
    [(1, num 2 .rwq 2 1 8), (2, num 2 .ro 0 0 16), (3, num 4 .rwq 900 60 86400), (4, num 2 .ro 0 0 64)] ++
      (List.range 16).map (fun n => (0x10 + n, octets 2073 .rwq))
  else if idx = 0x5210 then [(1, octets 3413 .rwb)]
  else
    [(1, octets 96 .ro), (2, num 2 .ro 0 0 5), (3, full 3 .ro 0), (4, full 3 .ro 0), (5, upTo 65536 .ro), (6, num 2 .ro 0 0 32),
     (7, num 2 .wo 0 1 1)]

/-- 0x6000 and 0x6010 + s (12 R395). -/
def objTamper (idx : Nat) : List (Nat × Obj) :=
  if idx = 0x6000 then
    [(1, full 4 .ro 0), (2, num 2 .ro 0 0 4), (3, full 4 .ro 0), (4, num 2 .rwq 0 1 1), (5, octets 2048 .ro), (6, full 3 .ro 0),
     (7, full 4 .ro 0)]
  else
    let i := idx - 0x6010
    let d := srcDefault i
    [(1, num 2 .rwq d.k (kRange i).1 (kRange i).2), (2, num 3 .rwq d.w (wRange i).1 (wRange i).2),
     (3, num 2 .rwq d.resp (respRange i).1 (respRange i).2), (4, full 4 .ro 0), (5, full 3 .ro 0), (6, full 3 .ro 0), (7, full 4 .ro 0), (8, octets 8 .const)]

/-- 0x6800 to 0x6817 (13 R410). -/
def objRng (idx : Nat) : List (Nat × Obj) :=
  if idx = 0x6800 then
    [(1, num 2 .ro 0 0 3), (2, full 4 .ro 0), (3, full 4 .ro 0), (4, num 2 .wo 0 1 1), (5, full 4 .ro 0), (6, full 4 .ro 0),
     (7, full 1 .rwq 0), (8, num 2 .rw 0 0 7), (9, upTo 4096 .ro)]
  else if idx = 0x6801 then (List.range 5).map (fun n => (1 + n, num 2 .ro 0 0 2))
  else
    [(1, num 2 .const 0 0 1), (2, full 3 .ro 0), (3, full 6 .ro 0), (4, full 6 .ro 0), (5, full 6 .ro 0), (6, full 6 .ro 0),
     (7, num 3 .ro 0 0 81), (8, num 3 .ro 0 0 1024)]

/-- 0x7000 to 0x7010 (14 R425). -/
def objEvr (idx : Nat) : List (Nat × Obj) :=
  if idx = 0x7000 then
    [(1, num 2 .rwq 0 0 1), (2, num 2 .ro 1 0 2), (3, num 2 .ro 3 0 3), (4, num 2 .rwq 5 0 7), (5, full 5 .ro 0),
     (6, num 4 .ro 0 0 262144), (7, full 5 .ro 0), (8, full 5 .ro 0), (9, full 8 .ro 0), (10, num 4 .ro 0 0 16777215),
     (11, full 8 .rw 0)]
  else if idx = 0x7001 then [(1, octets 72 .ro), (2, full 5 .rw 0), (3, upTo 4096 .ro)]
  else [(1, num 3 .rw 0x1001 0x1001 0x7802), (2, octets 6 .rwq), (3, full 4 .ro 0)]

/-- 0x7800 to 0x7840 (15 R446). -/
def objPower (idx : Nat) : List (Nat × Obj) :=
  if idx = 0x7800 then [(1, full 3 .ro 0), (2, octets 8 .ro), (3, num 2 .rw 110 60 110)]
  else if idx = 0x7810 then [(1, full 3 .ro 0), (2, full 3 .ro 2500), (3, full 4 .ro 6000), (4, full 4 .ro 0), (5, num 2 .ro 0 0 2)]
  else if idx = 0x7811 then [(1, num 2 .ro 2 0 2), (2, full 4 .ro 4000), (3, full 4 .ro 8000)]
  else if idx = 0x7820 then
    [(1, full 6 .ro 0), (2, full 6 .ro 0), (3, full 6 .ro 0), (4, num 2 .rw 80 60 85), (5, num 2 .ro 0 0 3), (6, full 4 .ro 0)]
  else if idx = 0x7830 then
    [(1, full 8 .ro 0), (2, num 2 .wo 0 1 1), (3, full 1 .rwq 0), (4, num 2 .rw 20 0 100), (5, num 2 .ro 100 0 100)]
  else
    [(1, full 3 .ro 0), (2, full 3 .ro 0), (3, num 3 .ro 600 0 600), (4, full 1 .ro 0), (5, full 8 .ro 0),
     (6, num 3 .rw 365 30 1825), (7, num 3 .rw 1000 100 20000), (8, num 2 .wo 0 1 1)]

/-- 0x8000 + n and 0x8100 + q (15 R447). -/
def objTiles (idx : Nat) : List (Nat × Obj) :=
  if idx < 0x8100 then
    [(0x01, full 1 .rw 1), (0x02, num 2 .rw 0 0 1), (0x03, num 2 .ro 0 0 3), (0x04, num 2 .ro 0 0 4), (0x05, num 2 .rw 7 0 7),
     (0x06, num 2 .wo 0 1 1), (0x07, full 4 .ro 0), (0x08, full 4 .ro 0), (0x09, full 4 .ro 0), (0x10, num 3 .ro 1200 600 1450),
     (0x11, num 3 .ro 1200 600 1200), (0x12, num 3 .ro 1200 1000 1450), (0x13, num 3 .ro 850 700 850), (0x14, octets 24 .ro),
     (0x15, octets 8 .ro), (0x16, num 2 .ro 100 0 100), (0x17, full 8 .ro (2 ^ 48 - 1))]
  else [(1, num 2 .ro 0 0 1), (2, num 2 .ro 0 0 3), (3, num 2 .ro 4 0 4), (4, octets 16 .ro)]

/-- 0x9000 to 0x9010 (10 R351). -/
def objHost (idx : Nat) : List (Nat × Obj) :=
  if idx = 0x9000 then
    [(1, num 2 .ro 0 0 5), (2, num 2 .ro 0 0 16), (3, full 1 .ro 0), (4, num 2 .rw 5 1 5), (5, full 4 .ro 0)]
  else if idx = 0x9001 then
    [(1, full 2 .const 255), (2, full 2 .ro 0), (3, full 3 .const 2048), (4, full 3 .const 2048), (5, full 2 .const 64)]
  else if idx = 0x9002 then [(1, full 4 .ro 0), (2, full 4 .ro 0), (3, full 4 .ro 0), (4, full 4 .ro 0)]
  else [(1, full 1 .rwb 1), (2, full 1 .rwb 0)]

/-- 0xA000 to 0xA0F0 (17 R470). -/
def objAtb (idx : Nat) : List (Nat × Obj) :=
  if idx = 0xA000 then [(1, num 2 .ro 0 0 1), (2, num 2 .ro 0 0 10)]
  else if idx = 0xA010 then (List.range 12).map (fun n => (1 + n, full 3 .ro 0))
  else if idx = 0xA0F0 then [(1, full 3 .rw 0), (2, full 3 .ro 0)]
  else (List.range 9).map (fun n => (1 + n, full 3 .ro 0))

/-- Is an index one of those listed? -/
def among (l : List Nat) (idx : Nat) : Bool := l.contains idx

/-- The objects of an index, none where it defines none (10 R327, R346). -/
def objsAt (idx : Nat) : List (Nat × Obj) :=
  if among [0x1000, 0x1001, 0x1002] idx then objIdent idx
  else if among [0x1100, 0x1101, 0x1110, 0x1120] idx then objPort idx
  else if among [0x2000, 0x2001, 0x2010, 0x2020, 0x2030, 0x2040, 0x2050] idx then objLife idx
  else if among [0x3000, 0x3010, 0x3011, 0x3012, 0x3013, 0x3020] idx then objPools idx
  else if 0x4000 ≤ idx ∧ idx ≤ 0x4FFF then objPart
  else if among [0x5000, 0x5010, 0x5011] idx then objVault idx
  else if among [0x5100, 0x5200, 0x5210] idx ∨ (0x5220 ≤ idx ∧ idx ≤ 0x525F) then objQuorum idx
  else if idx = 0x6000 ∨ (0x6010 ≤ idx ∧ idx ≤ 0x601A) then objTamper idx
  else if among [0x6800, 0x6801] idx ∨ (0x6810 ≤ idx ∧ idx ≤ 0x6817) then objRng idx
  else if among [0x7000, 0x7001, 0x7010] idx then objEvr idx
  else if among [0x7800, 0x7810, 0x7811, 0x7820, 0x7830, 0x7840] idx then objPower idx
  else if (0x8000 ≤ idx ∧ idx ≤ 0x800F) ∨ (0x8100 ≤ idx ∧ idx ≤ 0x8103) then objTiles idx
  else if among [0x9000, 0x9001, 0x9002, 0x9010] idx then objHost idx
  else if among [0xA000, 0xA010, 0xA020, 0xA021, 0xA022, 0xA023, 0xA0F0] idx then objAtb idx
  else []

end Sys2Proof.Machine
end

