-- ==== Sys2Proof/Machine/JournalRegion.lean ====
section
/-!
DEFINITION. The journal region of the MRAM devices: where it holds what, the bytes of its records, and how a start settles two
devices that differ (01 R30; 04 R115, R116, R119).
-/

namespace Sys2Proof.Machine

open Sys2Proof

/-- The line of queue pair q in the queue pair table (04 R115). -/
def qpLineAddr (q : Nat) : Nat := 0x00110000 + 64 * q

/-- The entry of partition p in the partition share table (04 R115). -/
def shareEntryAddr (p : Nat) : Nat := 0x00210000 + 32 * p

/-- Record i of the share of partition p: its extents of 128 records, joined in their order (04 R115, R118). DESIGN CHOICE: a share whose
extents do not follow one another is their list, though its table entry has the first and the count only (log 81). -/
def recordAddr (s : State) (p i : Nat) : Option Nat :=
  ((partOf s p).journalExtents[i / 128]?).map (fun e => 0x00300000 + 16384 * e + 128 * (i % 128))

/-- A watermark slot: WM, two reserved bytes, the number of its batch (04 R115). -/
def slotBytes (x : Nat × Nat) : List Byte := leBytes 6 x.1 ++ zeros 2 ++ leBytes 8 x.2

/-- A queue pair's line as a device holds it: the copy of its context, then the watermark slots (04 R115). -/
def qpLineBytes (q : Qp) (slots : List (Nat × Nat)) : List Byte :=
  ((List.range 8).flatMap (fun k => leBytes 4 (ctxWord q k))) ++ slotBytes (slots.getD 0 (0, 0)) ++ slotBytes (slots.getD 1 (0, 0))

/-- A partition's entry of the share table: first extent, extent count, log head, log tail, a word each, the rest reserved (04 R115;
log 81). -/
def shareBytes (s : State) (p : Nat) : List Byte :=
  let x := partOf s p
  leBytes 4 (x.journalExtents.getD 0 0) ++ leBytes 4 x.journalExtents.length ++ leBytes 4 (logHead s p) ++ leBytes 4 x.logTail ++ zeros 16

/-- The header of an MRAM device: layout version, mirror sequence, clean-shutdown mark, eight bytes each (01 R30; log 81). DESIGN CHOICE:
the mirror sequence keeps its value, since no rule says when it advances (log 81). -/
def mramHeader (j : Journal) : List Byte := leBytes 8 j.layout ++ leBytes 8 j.mirrorSeq ++ leBytes 8 (b2n j.cleanMark)

/-- The header of the journal region on a device whose batch commit word is n: layout version, that word, the highest ISN issued,
and where the share table is, eight bytes each (04 R115; log 81). -/
def journalHeader (j : Journal) (n : Nat) : List Byte :=
  leBytes 8 j.layout ++ leBytes 8 n ++ leBytes 8 (j.isn - 1) ++ leBytes 8 (shareEntryAddr 0)

/-- Word w of the use rings, quarter by quarter, and its bytes on a device: the ISN of the unit that took it (06 R183, R186). -/
def useWordAddr (w : Nat) : Nat := 0x0F810000 + 8 * w

/-- The bytes of a use word. -/
def useWordBytes (ring : Tbl Nat) (w : Nat) : List Byte := leBytes 8 (tblGet 0 ring w)

/-- A use word in force: of the working devices' copies the one written later (06 R183). -/
def useWord (j : Journal) (w : Nat) : Nat := max (if j.devA then tblGet 0 j.useA w else 0) (if j.devB then tblGet 0 j.useB w else 0)

/-- The words of STATE (04 R116). -/
def stateWord (st : Nat) : Nat := if st = 1 then 0xA5A1 else if st = 2 then 0xA5D0 else if st = 3 then 0xA5AB else 0

/-- EFFECT_KIND and EFFECT_REF (04 R116). -/
def Effect.ref (e : Effect) : Nat × Nat :=
  match e with
  | .none => (0, 0)
  | .record _ _ i => (1, i)
  | .nonceUse w _ _ => (2, w)

/-- The first 120 bytes of a head record (04 R116). -/
def JRec.body (r : JRec) : List Byte :=
  leBytes 8 r.isn ++ leBytes 2 r.qp ++ leBytes 6 r.asn ++ leBytes 2 r.cmd ++ leBytes 2 r.cpl.status ++ leBytes 2 r.cpl.detail ++
    leBytes 1 r.cpl.result.length ++ leBytes 1 r.cpl.cflags ++ fit 32 r.cpl.result ++ fit 8 r.tag ++ leBytes 4 r.cpl.outLen ++
    leBytes 1 (recordsOf r - 1) ++ leBytes 1 r.effect.ref.1 ++ zeros 2 ++ leBytes 8 r.effect.ref.2 ++ zeros 40

/-- A head record with its CRC-32C and a device's STATE (04 R116). -/
def JRec.bytes (r : JRec) (st : Nat) : List Byte := r.body ++ leBytes 4 (crc32c r.body) ++ leBytes 4 (stateWord st)

/-- Continuation record i: ISN, INDEX, LEN, up to 112 bytes of output, and its CRC-32C (04 R116). -/
def JRec.cont (r : JRec) (i : Nat) : List Byte :=
  let d := (r.cpl.out.drop (112 * i)).take 112
  let b := leBytes 8 r.isn ++ leBytes 2 i ++ leBytes 2 d.length ++ fit 112 d
  b ++ leBytes 4 (crc32c b)

/-- The order in which a start prefers STATE: DONE, ABANDONED, PREPARED, free (04 R119). -/
def stateRank (st : Nat) : Nat := if st = 2 then 3 else if st = 3 then 2 else st

/-- The STATE in force of a record: the more advanced of those that the working devices hold, a copy with a bad CRC being absent (04
R116, R119). -/
def settledState (i : StartInfo) (r : JRec) : Nat :=
  let a := if i.devA && !i.bad.contains (false, r.isn) then r.stA else 0
  let b := if i.devB && !i.bad.contains (true, r.isn) then r.stB else 0
  if stateRank a < stateRank b then b else a

/-- The watermark that a start takes for a queue pair: of the slot with the highest batch number not above the batch commit word (04
R115). -/
def slotWm (word : Nat) (l : List (Nat × Nat)) : Option Nat :=
  ((l.filter (fun x => decide (x.2 ≤ word))).foldl (fun m x => match m with
    | none => some x
    | some y => if y.2 < x.2 then some x else some y) none).map (fun x => x.1)

/-- The batch that wrote a slot pair last. -/
def lastBatchOf (l : List (Nat × Nat)) : Nat := (l.map (fun x => x.2)).foldl max 0

/-- The slot pair written last of what two devices hold. -/
def newerSlots (a b : List (Nat × Nat)) : List (Nat × Nat) := if lastBatchOf a < lastBatchOf b ∨ a.isEmpty then b else a

/-- A queue pair as the journal restores it. -/
def Qp.restore (i : StartInfo) (word : Nat) (q : Qp) : Qp :=
  let l := newerSlots (if i.devA then q.slotsA else []) (if i.devB then q.slotsB else [])
  match slotWm word l with
  | none => q
  | some v =>
    { q with wm := v, w := v, next := v, flushed := v, tail := v % 2 ^ 32, cqHead := v % 2 ^ 32,
             slotsA := if i.devA then l else q.slotsA, slotsB := if i.devB then l else q.slotsB }

/-- The greater of two tables' values at each key. -/
def mergeMax (a b : Tbl Nat) : Tbl Nat := b.foldl (fun m x => if tblGet 0 m x.1 < x.2 then tblSet m x.1 x.2 else m) a

/-- A start reads the journal region from the devices that work: the batch commit word, every record's settled STATE, which is
copied to the other device, the nonce reservations, and each queue pair's watermark (04 R115, R119; 06 R183). With no working device it reads nothing. -/
def settleDevices (s : State) (i : StartInfo) : State :=
  let s1 := modJournal s (fun j => { j with devA := i.devA, devB := i.devB })
  if !i.devA && !i.devB then s1
  else
    let j := s1.journal
    let word := max (if i.devA then j.batchA else 0) (if i.devB then j.batchB else 0)
    let s2 := modJournal s1 (fun j =>
      { j with batch := word, batchA := if i.devA then word else j.batchA, batchB := if i.devB then word else j.batchB,
               nextA := if i.devA then mergeMax j.nextA (if i.devB then j.nextB else []) else j.nextA,
               nextB := if i.devB then mergeMax j.nextB (if i.devA then j.nextA else []) else j.nextB,
               useA := if i.devA then mergeMax j.useA (if i.devB then j.useB else []) else j.useA,
               useB := if i.devB then mergeMax j.useB (if i.devA then j.useA else []) else j.useB,
               records := (j.records.map (fun r => r.write j (settledState i r))).filter JRec.held })
    let one (x : Nat × Qp) : Nat × Qp := (x.1, if x.2.assigned then x.2.restore i word else x.2)
    let s3 : State := { s2 with qps := s2.qps.map one }
    settleLogs s3

end Sys2Proof.Machine
end

