-- ==== Sys2Proof/Machine/Life.lean ====
section
/-!
DEFINITION. Life cycle, debug and firmware update (11 R357 to R372; 16 R450, R451, R453).
-/

namespace Sys2Proof.Machine

open Sys2Proof

/-- Burn a bit of the life-cycle word into its three copies (11 R363). -/
def burn (s : State) (b : Nat) : State :=
  let m : Word := BitVec.ofNat 32 (2 ^ b)
  modLife s (fun l => { l with otpA := l.otpA ||| m, otpB := l.otpB ||| m, otpC := l.otpC ||| m })

/-- Load the in-service registers from OTP with their shadows, and the mirror of BBRAM (11 R363, R366). -/
def loadLife (s : State) : State :=
  let k : BitVec 3 := BitVec.ofNat 3 (otpState (otpWord s.life))
  modLife s (fun l => { l with regA := k, regB := k, regC := k, shA := ~~~k, shB := ~~~k, shC := ~~~k })

/-- The transitions that a state leaves to (11 R361): by LC_TARGET, or by a signed response. -/
def leavesTo (lc k : Nat) (signed : Bool) : Bool :=
  match lc with
  | 0 => k == 1 || k == 6
  | 1 => k == 2 || k == 6
  | 2 => k == 3 || k == 6
  | 3 => k == 4 || k == 5 || k == 6
  | 4 => signed && (k == 5 || k == 6)
  | 5 => signed && k == 6
  | _ => false

/-- At least M module custodians and one manager console are enrolled (10 R338). -/
def rostersUsable (s : State) : Bool :=
  decide (quorumM s 0xFFFF ≤ (rosterOf s 0xFFFF).length) &&
    (List.range 8).any (fun n => byteAt (objBytes s 0x1120 (1 + n) 2073) 0 == 1)

/-- What stands against a transition to state k (11 R361): a result code, 0 for none. A zeroised module moves by a signed
response alone (11 R369). -/
def transitionBar (s : State) (k : Nat) (signed : Bool) : Nat :=
  let busy (x : Nat × Part) : Bool :=
    x.2.created && (effectiveOf s x.1 == 0 || effectiveOf s x.1 == 2 || effectiveOf s x.1 == 3)
  if !leavesTo (lifeCycle s) k signed || (s.life.zeroised && !signed) then 0x0009
  else if k = 3 ∧ (s.life.identity ≠ 1 ∨ rostersUsable s = false) then 0x0009
  else if (k = 4 ∨ k = 5) ∧ s.parts.any busy then 0x0009
  else 0

/-- A transition is requested or pending. -/
def transitioning (s : State) : Bool := s.life.request.isSome || pendingTarget (otpWord s.life) != 0

/-- A transition to state k is requested (11 R361, R362, R367): BUSY while another is in progress, which only SCRAP
overtakes. -/
def requestTransition (s : State) (k : Nat) (signed : Bool) : Nat × State :=
  if transitioning s ∧ (k ≠ 6 ∨ s.life.request = some 6) then (0x000B, s)
  else
    let c := transitionBar s k signed
    if c = 0 then (0, modLife s (fun l => { l with request := some k })) else (c, s)

/-- LC_TARGET as it is applied. -/
def applyLcTarget (k : Nat) (s : State) : Nat × State := requestTransition s k false

/-- LC_TARGET (11 R361, R367; 10 R337). -/
def execLcTarget (path : Path) (k : Nat) (s : State) : Host.Outcome State Fault Refusal :=
  done s (onWrite s path .rwq 0x2000 0x04 (leBytes 1 k) (fun t =>
    if k < 1 ∨ 6 < k then answer t path 0x0008 [] else settleRwq t path 0x2000 0x04 (leBytes 1 k) (applyLcTarget k)))

/-- The keys derived from the secrets of BBRAM take their places again: VRK's slot of the service engine, and the module area of every
tile that holds one (07 R211, R212). -/
def loadDerived (s : State) : State :=
  let f (m : TileMem) : TileMem := { m with moduleArea := m.moduleArea.map (fun _ => { hcb := hcb s, vrk := vrk s }) }
  { loadVrk s with tmem := s.tmem.map (fun x => (x.1, f x.2)) }

/-- A new key-encrypting key from the management DRBG (07 R210). -/
def newKek (s : State) : State :=
  let (b, t) := drawBytes s 4 32
  loadDerived (modVault t (fun v => { v with kek := some b }))

/-- The stored objects that an erasing transition takes: rosters, consoles and partition configuration (11 R364). -/
def tenantObject (key : Nat) : Bool :=
  let idx := key / 256
  decide (0x4000 ≤ idx ∧ idx ≤ 0x4FFF) || idx == 0x1120 || (idx == 0x5200 && decide (0x10 ≤ key % 256))

/-- The end of the script image area in the DDR5: the working copy, the vault index and the area itself come to 2.5 GiB (01 R31). -/
def scriptAreaEnd : Nat := 5 * 2 ^ 29

/-- The erasure of a transition to state k (11 R364). -/
def eraseFor (s : State) (k : Nat) : State :=
  if k = 3 then s
  else
    let s1 := if k ≠ 6 ∨ (drbgOf s 4).state = 1 then newKek s else modVault s (fun v => { v with kek := none })
    let s2 := eraseTenancy { s1 with ddr := s1.ddr.filter (fun c => decide (scriptAreaEnd ≤ c.1)) } true
    let s3 := modDict s2 (fun d => { d with store := d.store.filter (fun x => !(tenantObject x.1)), reqs := [] })
    if k = 6 then eraseBbram s3 else s3

/-- Step 2 of a transition: the data plane closes, until the next start where the module has started; sessions and the debug scope end,
Pk is burnt (11 R363). -/
def beginTransition (s : State) (k : Nat) : State :=
  let t := modHif (endSessions (endDebug (releaseCores s)) (fun _ => true)) (fun h => { h with dpOpen := false })
  burn (modLife t (fun l => { l with barred := l.barred || s.boot.booted })) (2 * k - 2)

/-- Steps 3 to 5: erasure, Sk, mirror and registers, the event (11 R363; 14 R414). An identity is certified in MANUFACTURE (R361, R369):
DEDUCED: a module that leaves it for FIELD_BLANK has a certified one (log 89). -/
def endTransition (s : State) (k : Nat) : State :=
  let old := lifeCycle s
  let s1 := loadLife (burn (eraseFor s k) (2 * k - 1))
  let s2 := modLife s1 (fun l => { l with request := none, mirror := k, identity := if old = 1 ∧ k = 2 ∧ l.bbram then 1 else l.identity })
  record s2 0x2001 0 0 (leBytes 1 old ++ leBytes 1 k ++ leBytes 1 5)

/-- The erasure may run: its new KEK needs an instantiated management DRBG; raw mode is ended first (16 R453). -/
def kekReady (s : State) (k : Nat) : Bool := k == 3 || k == 6 || (drbgOf s 4).state == 1

/-- Run the transition that is requested or pending (11 R362, R363, R365; 16 R453). -/
def runTransition (s : State) : State :=
  let k := max (pendingTarget (otpWord s.life)) (s.life.request.getD 0)
  if k = 0 then s
  else
    let s1 := beginTransition s k
    if kekReady s1 k then endTransition s1 k else if s1.rng.state = rngRaw then startTest s1 else s1

/-- Scope codes of a debug request (11 R370). -/
def scopeCode (c : Nat) : Bool := c == 1 || c == 2 || decide (0x11 ≤ c ∧ c ≤ 0x16)

/-- DBG_REQUEST (11 R370, R372): INVALID_STATE while the management DRBG is not instantiated (13 R409); a stalled one makes
the request wait (13 R401, R405). -/
def execDbgRequest (path : Path) (scope : Nat) (s : State) : Host.Outcome State Fault Refusal :=
  done s (onWrite s path .rwb 0x2010 0x01 (leBytes 1 scope) (fun t =>
    if !scopeCode scope then answer t path 0x0008 []
    else if (drbgOf t 4).state = 0 then answer t path 0x0009 []
    else match drawRandom t 4 32 with
      | .bytes b u => answer (challenge u scope b) path 0 []
      | .waits => modLife t (fun l => { l with dbgWait := l.dbgWait ++ [(path, scope)] })
      | .blocked => answer t path 0x0009 []))

/-- The BBRAM of a module in FIELD_BLANK or later was erased: a new RS and KEK, and an identity that is never certified
(11 R368, R369). -/
def loseIdentity (s : State) : State :=
  let (b, t) := drawBytes s 4 64
  loadDerived (modLife (modVault t (fun v => { v with rs := some (b.take 32), kek := some (b.drop 32) }))
    (fun l => { l with bbram := true, zeroised := true, identity := 2, mirror := lifeCycle s }))

/-- The scope of a response is permitted in the present state (11 R371, R372). -/
def scopePermitted (s : State) (scope : Nat) : Bool :=
  let lc := lifeCycle s
  if scope = 1 then lc == 2 || lc == 3 || lc == 5
  else if scope = 2 then lc == 5
  else leavesTo lc (scope - 0x10) true

/-- A debug scope is granted and recorded; FULL in ANALYSIS erases the BBRAM first and lets the data plane open (11 R357,
R371, R372; 16 R451). -/
def grantScope (s : State) (scope : Nat) : State :=
  let s1 := if scope = 2 then loseIdentity (eraseBbram s) else s
  openPlane (record (modLife s1 (fun l => { l with scope := scope })) 0x2010 0 0 (leBytes 1 scope))

/-- An accepted response: its challenge is used up; a scope is granted, or a transition starts at once (11 R371). -/
def acceptResponse (s : State) (scope : Nat) : Nat × State :=
  let s1 := clearObj (modLife s (fun l => { l with challenge := none })) 0x2010 0x02
  if scope = 1 ∨ scope = 2 then (0, grantScope s1 scope)
  else
    let (r, t) := requestTransition s1 (scope - 0x10) true
    (r, if r = 0 then runTransition t else t)

/-- The response passes every check of 11 R371: its layout, both signatures, its challenge, its scope; a challenge of
another state fails (R367). -/
def responseOk (s : State) (v : List Byte) : Bool :=
  match s.life.challenge with
  | none => false
  | some c =>
    slice v 0 4 == ascii "YDR1" && allZero (slice v 0x35 11) && slice v 4 48 == c.digest && field v 0x34 1 == c.scope &&
      c.lc == lifeCycle s && scopePermitted s c.scope && romSigsOk 2 (v.take 0x40) (slice v 0x40 96) (slice v 0xA0 4627)

/-- DBG_RESPONSE (11 R371, R372). -/
def execDbgResponse (path : Path) (value : List Byte) (s : State) : Host.Outcome State Fault Refusal :=
  done s (onWrite s path .rwb 0x2010 0x03 value (fun t =>
    if value.length ≠ 4787 then answer t path 0x0007 []
    else if responseOk t value then
      let (r, u) := acceptResponse t (field value 0x34 1)
      answer u path r []
    else answer t path 0x000F []))

/-- DBG_CLOSE (11 R371; 16 R451). -/
def execDbgClose (path : Path) (s : State) : Host.Outcome State Fault Refusal :=
  done s (onWrite s path .rwb 0x2010 0x05 (leBytes 1 1) (fun t => answer (endDebug t) path 0 []))

/-- Operating time reaches t ms. -/
def advanceOp (s : State) (t : Nat) : State := elapse s (1000 * (t - s.evr.opMs))

/-- DBG_CHALLENGE_EXPIRY (11 R370): 10 minutes of operating time after it was issued. -/
def execDbgChallengeExpiry (s : State) : Host.Outcome State Fault Refusal :=
  done s (match s.life.challenge with
    | none => s
    | some c =>
      clearObj (modLife (advanceOp s (c.since + 600000)) (fun l => { l with challenge := none })) 0x2010 0x02)

/-- Change the firmware. -/
def modFw (s : State) (f : Fw → Fw) : State := { s with fw := f s.fw }

/-- The event of an update (14 R414). DEDUCED: it is recorded at each change of FW_UPD_STATE (log 33). -/
def recordFw (s : State) : State := record s 0x2020 0 0 (leBytes 1 s.fw.state ++ leBytes 2 s.fw.result)

/-- Change bank b. -/
def modBank (s : State) (b : Nat) (f : FwBank → FwBank) : State :=
  modFw s (fun w => if b = 0 then { w with bank0 := f w.bank0 } else { w with bank1 := f w.bank1 })

/-- Verification of a whole bank: the first failure, a missing kind being TYPE_LENGTH (11 R359; log 33). -/
def bankResult (s : State) (b : Nat) : Nat :=
  match ((bankOf s b).images.map (imageResult s)).find? (fun r => r != 0) with
  | some r => r
  | none => if [1, 2, 3, 4].all (fun k => (imageOf s b k).isSome) then 0 else 0x0007

/-- The bank that did not start the module. -/
def otherBank (s : State) : Nat := 1 - s.fw.boot

/-- FW_UPD_START (11 R359): BUSY while an update is being received or awaits power-up. -/
def execFwUpdStart (path : Path) (total : Nat) (s : State) : Host.Outcome State Fault Refusal :=
  done s (onWrite s path .wo 0x2020 0x02 (leBytes 4 total) (fun t =>
    if total < 1 ∨ 16777216 < total then answer t path 0x0008 []
    else if t.fw.state = 1 ∨ t.fw.state = 4 then answer t path 0x000B []
    else
      let u := modBank t (otherBank t) (fun _ => { FwBank.reset with present := true })
      answer (recordFw (modFw u (fun w => { w with state := 1, result := 0, total := total, recv := [] }))) path 0 []))

/-- The image at the start of a string of bytes with what follows it, none where its header is not one of 11 R358. -/
def imageAt (b : List Byte) : Option (FwImage × List Byte) :=
  let n := field b 0x14 4
  let m := b.take (0x20 + n)
  let rest := b.drop (0x20 + n)
  if slice b 0 4 = ascii "YQF1" ∧ allZero (slice b 5 3) ∧ allZero (slice b 0x18 8) ∧ n ≤ 8388608 ∧ 0x20 + n + 4723 ≤ b.length then
    some ({ kind := field b 4 1, version := field b 8 4, secVersion := field b 0x0C 4, minRom := field b 0x10 4,
            sigsOk := romSigsOk 0 m (rest.take 96) (slice rest 96 4627), body := m.drop 0x20 }, rest.drop 4723)
  else none

/-- An image of no kind: it never verifies. -/
def noImage : FwImage := { kind := 0, version := 0, secVersion := 0, minRom := 0, sigsOk := false, body := [] }

/-- The images of an update in order (11 R359); bytes that are none end the list with one that never verifies. fuel bounds their
number. -/
def imagesIn (fuel : Nat) (b : List Byte) : List FwImage :=
  match fuel with
  | 0 => if b = [] then [] else [noImage]
  | fuel + 1 =>
    if b = [] then []
    else match imageAt b with
      | some (i, rest) => i :: imagesIn fuel rest
      | none => [noImage]

/-- A chunk of an update: the last one triggers verification (11 R359). A bank of 16 MiB holds fewer than 4,096 images. -/
def fwChunk (s : State) (data : List Byte) : State :=
  let b := otherBank s
  let v := s.fw.recv ++ data
  let s1 := modFw s (fun w => { w with recv := v })
  if v.length = s.fw.total then
    let s2 := modBank s1 b (fun k => { k with images := imagesIn 4096 v })
    let r := bankResult s2 b
    recordFw (modFw s2 (fun w => { w with state := if r = 0 then 2 else 3, result := r }))
  else s1

/-- FW_UPD_DATA (11 R359). -/
def execFwUpdData (path : Path) (data : List Byte) (s : State) : Host.Outcome State Fault Refusal :=
  done s (onWrite s path .wo 0x2020 0x03 data (fun t =>
    if data.length < 1 ∨ 65536 < data.length then answer t path 0x0007 []
    else if t.fw.state ≠ 1 then answer t path 0x0009 []
    else if t.fw.total < t.fw.recv.length + data.length then
      answer (recordFw (modFw t (fun w => { w with state := 3, result := 0x0008 }))) path 0x0008 []
    else answer (fwChunk t data) path 0 []))

/-- Kinds whose image differs between the banks. -/
def kindsDiffer (s : State) (k : Nat) : Bool := imageOf s 0 k != imageOf s 1 k

/-- The header of an image (11 R358). -/
def FwImage.header (i : FwImage) : List Byte :=
  ascii "YQF1" ++ leBytes 1 i.kind ++ zeros 3 ++ leBytes 4 i.version ++ leBytes 4 i.secVersion ++ leBytes 4 i.minRom ++
    leBytes 4 i.body.length ++ zeros 8

/-- The measurement of an image: SHA3-384 over header and body (11 R358). -/
def FwImage.meas (i : FwImage) : List Byte := sha3_384 (i.header ++ i.body)

/-- The measurement of the image of a kind in bank b, as it is recorded before the image runs; the old one where no image runs (01 R28;
11 R358). -/
def measOf (s : State) (b : Option Nat) (k : Nat) (old : List Byte) : List Byte :=
  match b.bind (fun x => imageOf s x k) with
  | some i => i.meas
  | none => old

/-- The measurements of what runs: the ROM; the patch, the open firmware and the Nightside tables of bank b; the op-lists and scripts of
the bank whose library verifies (01 R28; 11 R356, R358). -/
def measureBank (s : State) (b : Nat) : State :=
  let m (i : Nat) : List Byte := s.fw.meas.getD i (zeros 48)
  modFw s (fun w => { w with meas := [sha3_384 Config.kernelRom, measOf s (some b) 1 (m 1), measOf s (some b) 2 (m 2),
                                      measOf s (libBank s) 3 (m 3), measOf s (libBank s) 4 (m 4), measOf s (some b) 1 (m 5)] })

/-- The body of the image of a kind in bank b. -/
def bodyOf (s : State) (b k : Nat) : List Byte := ((imageOf s b k).map (fun i => i.body)).getD []

/-- The code store of a core from a body of a kind (01 R26, R28). -/
def codeFrom (kind : Nat) (body : List Byte) (c : Nat) : List Host.Cell := Memory.write [] 0 (Config.imageCode kind body c)

/-- The cores of the open world are loaded from bank b and start anew; a lock that one of them holds is released by force (01 R28; 06
R195; 11 R360). -/
def restartOpen (s : State) (b : Nat) : State :=
  [1, 2, 3].foldl (fun u m =>
    modCore (resetMgmt u m) (64 + m) (fun k => { k with code := codeFrom 2 (bodyOf s b 2) (64 + m) })) s

/-- M1 to M3 are loaded from bank b: manager sessions end and a mailbox request in progress is cancelled (11 R360). -/
def reloadOpen (s : State) (b : Nat) : State :=
  let s1 := endSessions (restartOpen (modFw s (fun w => { w with boot := b })) b) (fun x => x.role == 1)
  measureBank (if s1.hif.mbx.busy then answer (withdrawKeyOps (dropXfers s1 .tunnel) .tunnel) .tunnel 0x0013 [] else s1) b

/-- FW_UPD_ACTIVATE as it is applied (11 R359, R360, R367): at once where only the open firmware differs, else at the next
power-up. -/
def applyActivate (s : State) : Nat × State :=
  if transitioning s then (0x000B, s)
  else if s.fw.state ≠ 2 then (0x0009, s)
  else if kindsDiffer s 1 || kindsDiffer s 3 || kindsDiffer s 4 then (0, recordFw (modFw s (fun w => { w with state := 4 })))
  else
    let old := s.fw.boot
    (0, recordFw (modFw (reloadOpen s (otherBank s)) (fun w =>
      { w with state := 0, newSince := some s.evr.opMs, previous := some old })))

/-- FW_UPD_ACTIVATE (11 R359, R360; 10 R337). -/
def execFwUpdActivate (path : Path) (s : State) : Host.Outcome State Fault Refusal :=
  done s (proposeOrApply s path 0x2020 0x06 (leBytes 1 1) applyActivate)

/-- FW_READY_TIMEOUT (11 R360): 10 s after the new open firmware was started, the previous bank is loaded again. -/
def execFwReadyTimeout (s : State) : Host.Outcome State Fault Refusal :=
  done s (match s.fw.previous, s.fw.newSince with
    | some b, some t =>
      let s1 := reloadOpen (advanceOp s (t + 10000)) b
      recordFw (modFw s1 (fun w => { w with state := 3, newSince := none, previous := none }))
    | _, _ => s)

/-- FW_SECVER_RAISE (11 R360): 10 minutes of operating time on a new bank raise the floors to its SEC_VERSION values. -/
def execFwSecverRaise (s : State) : Host.Outcome State Fault Refusal :=
  done s (match s.fw.newSince with
    | none => s
    | some t =>
      let u := advanceOp s (t + 600000)
      let v (k : Nat) : Nat :=
        match imageOf u u.fw.boot k with
        | some i => max i.secVersion (u.fw.floors.getD (k - 1) 0)
        | none => u.fw.floors.getD (k - 1) 0
      modFw u (fun w => { w with floors := [v 1, v 2, v 3, v 4], newSince := none, previous := none }))

end Sys2Proof.Machine
end

