-- ==== Sys2Proof/Machine/PowerOps.lean ====
section
/-!
DEFINITION. Power, the hold-up bank, the throttle, wear planning and the backup cell (15 R427 to R444; 04 R130, R131;
17 R470). Quotients are rounded down.
-/

namespace Sys2Proof.Machine

open Sys2Proof

/-- Change the power state. -/
def modPower (s : State) (f : Power → Power) : State := { s with power := f s.power }

/-- Change the thermal and wear state. -/
def modTherm (s : State) (f : Therm → Therm) : State := { s with therm := f s.therm }

/-- 45 times v_floor in mV: 2.7 V and the drop of 60 W / 2.7 V across what the ESR exceeds 6 mΩ by (15 R429). -/
def floor45 (esr : Nat) : Nat := 45 * 2700 + (esr - 6000)

/-- E in mJ at a bank voltage of mv (15 R429). -/
def energyAt (cap esr mv : Nat) : Nat := cap * ((45 * mv) ^ 2 - (floor45 esr) ^ 2) / (2 * 10 ^ 6 * 45 ^ 2)

/-- t_restr in mJ (15 R431). -/
def restrOf (esr : Nat) : Nat := 4000 + (esr - 6000) * 8 / 243

/-- The gate level of an energy (04 R130). -/
def levelOf (p : Power) (e : Nat) : Nat := if p.tOpen ≤ e then 0 else if p.tRestr ≤ e then 1 else 2

/-- The level after a computation: a lower one at once, a higher one after ten in a row at or above its threshold (04
R131). -/
def nextGate (p : Power) (e : Nat) : Nat :=
  let want := levelOf p e
  if p.gate ≤ want then want
  else if p.tOpen ≤ e ∧ 10 ≤ p.upOpen + 1 then 0
  else if p.gate = 2 ∧ 10 ≤ p.upCount + 1 then 1
  else p.gate

/-- A computation of the gate from the energy (04 R131; 09 R316; 14 R414, R416). -/
def gateStep (s : State) (mv e : Nat) : State :=
  let p := s.power
  let g := nextGate p e
  let s1 := modPower s (fun x =>
    { x with bankMv := mv, energyMj := e, gate := g, upCount := if x.tRestr ≤ e then min 10 (x.upCount + 1) else 0,
             upOpen := if x.tOpen ≤ e then min 10 (x.upOpen + 1) else 0 })
  if g = p.gate then settleMode s1
  else
    let s2 := settleMode (raiseModule (raiseIsr s1 3) 0x09)
    record s2 0x3001 0 0 (leBytes 1 p.gate ++ leBytes 1 g ++ leBytes 4 e)

/-- GATE_COMPUTE (01 R21; 04 R131; 15 R429, R430): 100 µs after the last computation; during the ESR pulse and 1 ms after it the last
voltage before the pulse counts. mv is the bank voltage measured; the monitor measures on main power. -/
def execGateCompute (mv : Nat) (s : State) : Host.Outcome State Fault Refusal :=
  done s (if !s.power.main then s else
    let s := modPower (advanceTo s (s.power.gateAt + 100)) (fun p => { p with gateAt := max s.now (p.gateAt + 100) })
    let held := (s.power.pulseHold.map (fun t => decide (s.now < t))).getD false
    let v := if held then s.power.bankMv else mv
    let s1 := if held then s else modPower s (fun p => { p with pulseHold := none })
    gateStep s1 v (energyAt s.power.capMf s.power.esrUohm v))

/-- A WEAR_PLAN or BATTERY_LOW record: a reserve in % and a date (14 R414). -/
def recordPlan (s : State) (code sev date : Nat) : State :=
  recordSev s code sev 0 0 false (leBytes 1 s.therm.reserveMin ++ leBytes 6 date)

/-- The earliest predicted date of the tiles (15 R440). -/
def wearDateMin (s : State) : Nat := ((List.range 16).map (fun t => (tileOf s t).wearDate)).foldl min (2 ^ 48 - 1)

/-- Thresholds re-planned and E_full compared with them, after each kept measurement (15 R431, R432). -/
def replan (s : State) : State :=
  let r := restrOf s.power.esrUohm
  let full := energyAt s.power.capMf s.power.esrUohm 5400
  let eol := if 4 * r ≤ full then 0 else if 2 * r ≤ full then 1 else 2
  let s1 := modPower s (fun p => { p with tRestr := r, tOpen := 2 * r, eol := eol })
  if eol = 0 then s1 else recordPlan s1 0x7800 (if eol = 1 then 4 else 6) (wearDateMin s1)

/-- CAPACITANCE_MEASURE (15 R430 to R432): charge in µC, rise in mV; kept if the rise is at least 1.0 V, the charge ran
clean and main power is there. -/
def execCapacitanceMeasure (charge rise : Nat) (clean : Bool) (s : State) : Host.Outcome State Fault Refusal :=
  done s (if clean ∧ 1000 ≤ rise ∧ s.power.main then replan (modPower s (fun p => { p with capMf := min 65535 (charge / rise) })) else s)

/-- ESR_PULSE (15 R430 to R432): stepUv is the voltage step of the 5 A pulse, in µV; the pulses after the first of a power-up come every
24 operating hours. -/
def execEsrPulse (stepUv : Nat) (s : State) : Host.Outcome State Fault Refusal :=
  done s (if s.power.main then
      let t := match s.power.esrAt with
        | some a => advanceOp s (a + 86400000)
        | none => s
      replan (modPower t (fun p =>
        { p with esrUohm := min (2 ^ 32 - 1) (stepUv / 5), pulseHold := some (t.now + 2000), esrAt := some t.evr.opMs }))
    else s)

/-- The TCLK that the plan and the throttle leave a tile, and its PCLK (15 R433, R434, R442). -/
def targetClk (s : State) (t : Nat) (pke : Bool) : Nat :=
  if s.therm.hard then 600
  else if pke then min 1200 s.power.pCeil
  else min (tileOf s t).planTclk s.power.tCeil

/-- The highest planned TCLK of the tiles. -/
def planMax (s : State) : Nat := ((List.range 16).map (fun t => (tileOf s t).planTclk)).foldl max 600

/-- Every clock is allowed its ceiling (15 R433). -/
def unthrottled (s : State) : Bool := decide (planMax s ≤ s.power.tCeil) && decide (1200 ≤ s.power.pCeil) && !s.therm.hard

/-- One step down: PCLK first, TCLK once PCLK stands at its floor (15 R433). -/
def stepDown (s : State) : State :=
  modPower s (fun p =>
    if 600 < p.pCeil then { p with pCeil := p.pCeil - 25 }
    else { p with tCeil := max 600 (min p.tCeil (planMax s) - 25) })

/-- One step up, in the reverse order (15 R433). -/
def stepUp (s : State) : State :=
  modPower s (fun p =>
    if p.tCeil < planMax s then { p with tCeil := p.tCeil + 25 }
    else if p.pCeil < 1200 then { p with pCeil := p.pCeil + 25 } else p)

/-- The event and the source of a throttling that begins or ends (15 R434; 09 R316; 14 R414): the record names the first
tile and the TCLK left to it. -/
def reportThrottle (old s : State) : State :=
  if unthrottled old = unthrottled s then s
  else
    let s1 := if unthrottled s then s
      else modPower s (fun p => { p with throttleCount := (p.throttleCount + 1) % 2 ^ 32 })
    raiseModule (record s1 0x3002 2 0 (leBytes 1 0 ++ leBytes 2 (targetClk s1 0 false))) 0x0A

/-- THROTTLE_ACTIVE: bit i set or cleared. -/
def setThrottle (s : State) (i : Nat) (on : Bool) : State :=
  modPower s (fun p => { p with throttle := setBit p.throttle i on })

/-- POWER_CAP_CHECK (15 R427, R433), 1 ms after the last one: dw is the 1 ms average in 0.1 W. Steps up are left to the thermal
throttle while it holds the clocks down (log 49). -/
def execPowerCapCheck (dw : Nat) (s : State) : Host.Outcome State Fault Refusal :=
  done s (if !s.power.main then s else
    let cap := 10 * objNat s 0x7800 0x03 110
    let t := advanceTo s (s.power.capAt + 1000)
    let s1 := modPower t (fun p => { p with inputDw := dw % 65536, capAt := t.now })
    if cap < dw then reportThrottle s1 (stepDown (setThrottle s1 1 true))
    else if dw + 50 ≤ cap then
      let s2 := setThrottle s1 1 false
      if bit s2.power.throttle 0 ∨ s2.therm.hard then s2 else reportThrottle s1 (stepUp s2)
    else s1)

/-- The prediction of 15 R434: p_slow in millionths of 0.1 W, temperatures in 0.1 °C. -/
def predict (s : State) (t : Int) (dw : Nat) : State :=
  modTherm s (fun x =>
    let p : Int := dw * 1000000
    let slow := x.slow + (p - x.slow) / 9000
    { x with slow := slow, core := t, inlet := t - 3 * slow / 10000000, pred := t + 849 * (p - slow) / 10000000000 })

/-- The hard limit: set above 88 °C, held until T is below 80 °C (15 R434); the clocks go to their floors and are stepped up from
there. -/
def hardLimit (s : State) (t : Int) : State :=
  let s1 := modTherm s (fun x => { x with hard := if 880 < t then true else if t < 800 then false else x.hard })
  if s1.therm.hard then modPower s1 (fun p => { p with tCeil := 600, pCeil := 600 }) else s1

/-- THERMAL_PREDICT (15 R434, R442), 10 ms after the last one: the four diodes in 0.1 °C and the power in 0.1 W. -/
def execThermalPredict (diodes : List Int) (dw : Nat) (s : State) : Host.Outcome State Fault Refusal :=
  done s
    (match diodes with
     | [] => s
     | d :: r =>
       if !s.power.main then s
       else
         let t := r.foldl max d
         let s0 := advanceTo s (s.therm.predAt + 10000)
         let s1 := hardLimit (predict (modTherm s0 (fun x => { x with diodes := diodes.take 4, predAt := s0.now })) t dw) t
         let lim : Int := 10 * objNat s 0x7820 0x04 80
         if s1.therm.hard then reportThrottle s0 (setThrottle s1 0 true)
         else if lim < s1.therm.pred then reportThrottle s0 (stepDown (setThrottle s1 0 true))
         else if s1.therm.pred < lim - 30 then
           let s2 := setThrottle s1 0 false
           reportThrottle s0 (if bit s2.power.throttle 1 then s2 else stepUp s2)
         else reportThrottle s0 s1)

/-- One 25 MHz step of a clock toward its target. -/
def stepToward (v target : Nat) : Nat :=
  if v + 25 ≤ target then v + 25 else if target + 25 ≤ v then v - 25 else v

/-- CLOCK_STEP (01 R21; 15 R433, R440, R442): 2 µs later a clock of a running tile has moved one step; a voltage that is to
fall follows the frequency. -/
def execClockStep (t : Nat) (pke : Bool) (s : State) : Host.Outcome State Fault Refusal :=
  guardUnit (tileOk t) t s
    (if (tileOf s t).power ≠ 0 ∧ (tileOf s t).power ≠ 1 then s
     else
       let k := targetClk s t pke
       modTile (elapse s 2) t (fun x =>
         if pke then { x with pclk := stepToward x.pclk k }
         else
           let c := stepToward x.tclk k
           { x with tclk := c, volt := if c ≤ x.planTclk then min x.volt x.planVolt else x.volt }))

/-- The worst slack of a tile at a point, from its last measurement (15 R440). -/
def slackOf (s : State) (t volt tclk : Nat) : Int :=
  let x := tileOf s t
  match x.slack with
  | [] => 0
  | y :: r => Config.slackAt t (r.foldl min y) x.volt x.tclk volt tclk

/-- The lowest rail voltage, in 5 mV steps from 0.700 to 0.850 V, with 25 ps at a TCLK (15 R440 step 2). -/
def planVoltFor (s : State) (t tclk : Nat) : Option Nat :=
  ((List.range 31).map (fun i => 700 + 5 * i)).find? (fun v => decide (25 ≤ slackOf s t v tclk))

/-- The highest step from 1.0 GHz up to a TCLK that a voltage meets (15 R440 steps 1, 3). -/
def highestStep (s : State) (t lim : Nat) : Nat :=
  (((List.range 19).map (fun i => 1000 + 25 * i)).filter
    (fun c => decide (c ≤ lim) && decide (25 ≤ slackOf s t 850 c))).foldl max 1000

/-- The target TCLK: 1.2 GHz, or with PLAN_BOOST the highest step up to 1.45 GHz (15 R440 step 1). -/
def planTarget (s : State) (t : Nat) : Nat :=
  if objNat s 0x7830 0x03 0 = 1 then max 1200 (highestStep s t 1450) else 1200

/-- The wear reserve from V_plan at 1.2 GHz now and at manufacture (15 R440 step 4). -/
def reserveOf (t v : Nat) : Nat :=
  let d := 850 - Config.planVoltMade t
  if d = 0 then 0 else min 100 (100 * (850 - v) / d)

/-- A tile's plan (15 R440): its operating point, its reserve, its date. A voltage that is to rise rises first. -/
def planTile (s : State) (t : Nat) : State :=
  let target := planTarget s t
  let (clk, volt) := match planVoltFor s t target with
    | some v => (target, v)
    | none => (highestStep s t target, 850)
  let v12 := (planVoltFor s t 1200).getD 850
  let hist := (tblGet [] s.therm.plans t ++ [(s.evr.opMs, v12)]).reverse.take 30 |>.reverse
  let date := if hist.length < 30 then 2 ^ 48 - 1 else (Config.wearLine hist).getD (2 ^ 48 - 1)
  modTherm (modTile s t (fun x =>
    { x with planTclk := clk, planVolt := volt, volt := max x.volt volt, wearReserve := reserveOf t v12,
             wearDate := date % 2 ^ 48 })) (fun x => { x with plans := tblSet x.plans t hist })

/-- A wear plan of every tile, its event, and WEAR_PLAN_DUE (15 R440; 09 R316). Tiles in ECLIPSE do not age in it (R439). -/
def wearPlan (s : State) : State :=
  let tiles := (List.range 16).filter (fun t => (tileOf s t).power != 2)
  let s1 := tiles.foldl planTile s
  let low := ((List.range 16).map (fun t => (tileOf s1 t).wearReserve)).foldl min 100
  let s2 := recordPlan (modTherm s1 (fun x => { x with wearLast := s1.evr.opMs, reserveMin := low })) 0x7800 2 (wearDateMin s1)
  if low < objNat s 0x7830 0x04 20 then raiseModule s2 0x0B else s2

/-- WEAR_PLAN (15 R440): 24 operating hours after the last one. -/
def execWearPlan (s : State) : Host.Outcome State Fault Refusal := done s (wearPlan (advanceOp s (s.therm.wearLast + 86400000)))

/-- WEAR_PLAN_NOW (15 R440). -/
def execWearPlanNow (path : Path) (s : State) : Host.Outcome State Fault Refusal :=
  done s (onWrite s path .wo 0x7830 0x02 (leBytes 1 1) (fun t => answer (wearPlan t) path 0 []))

/-- WEAR_MEASURE (15 R439, R441), 10 minutes of operating time after the tile's last one: 12 slacks in ps and 4 oscillators in MHz of a
tile in RUN; a slack below 12.5 ps moves its point at once. -/
def execWearMeasure (t : Nat) (slack : List Int) (ro : List Nat) (s : State) : Host.Outcome State Fault Refusal :=
  guardUnit (tileOk t) t s
    (if (tileOf s t).power ≠ 0 then s
     else
       let s0 := advanceOp s (tblGet 0 s.therm.measured t + 600000)
       let s1 := modTile (modTherm s0 (fun x => { x with measured := tblSet x.measured t s0.evr.opMs })) t
         (fun x => { x with slack := slack, ro := ro })
       if slack.any (fun x => decide (x ≤ 12)) then
         let s2 := modTile s1 t (fun x =>
           if x.volt < 850 then { x with volt := x.volt + 5, planVolt := max x.planVolt (x.volt + 5) }
           else { x with planTclk := max 1000 (x.planTclk - 25) })
         recordPlan s2 0x7800 2 (wearDateMin s2)
       else s1)

/-- The remaining charge of the backup source in nAh (15 R444): capacity less what backup drew at 4 µA, less 1% of capacity
a year; in proportion where the sag exceeds 1.5 times its first value (log 50). -/
def backupCharge (s : State) : Nat :=
  let x := s.therm
  let cap := (if s.ident.external then objNat s 0x7840 0x07 1000 else 1000) * 1000000
  let drawn := 4 * x.batDrawn / 3600000
  let ageMs := (s.evr.opMs - x.batAge) + x.batDrawn / 1000
  let left := cap - drawn - cap * ageMs / (100 * 31536000000)
  let sag := x.batRest - x.batLoad
  let first := x.batFirst.getD sag
  if 3 * first < 2 * sag then left * (3 * first) / (2 * sag) else left

/-- The remaining backup time at 4 µA, in ms. -/
def backupLeft (s : State) : Nat := backupCharge s * 900

/-- BAT_LOW and BAT_END_DATE (15 R444): the event as the warning period begins. -/
def planBackup (s : State) : State :=
  let left := backupLeft s
  let low := decide (left < objNat s 0x7840 0x06 365 * 86400000)
  let s1 := modTherm s (fun x => { x with batLow := low, batEnd := (s.evr.opMs + left) % 2 ^ 48 })
  if low ∧ s.therm.batLow = false then recordPlan s1 0x7801 4 s1.therm.batEnd else s1

/-- A load test's two voltages are taken: the first test of a source sets the sag limit (15 R443, R444). -/
def takeLoadTest (s : State) (rest load : Nat) : State :=
  planBackup (modTherm s (fun x =>
    let sag := rest - load
    let first := x.batFirst.getD sag
    { x with batRest := rest % 65536, batLoad := load % 65536, batFirst := some first, batLimit := min 600 (2 * first),
             batAge := if x.batFirst.isNone then s.evr.opMs else x.batAge }))

/-- BACKUP_LOAD_TEST (15 R443, R444; 12 R378, R379): on main power, at the first power-up and every 720 operating hours; the pair of
the BACKUP source is compared, detector A by the voltage at rest and detector B by the sag. -/
def execBackupLoadTest (rest load : Nat) (s : State) : Host.Outcome State Fault Refusal :=
  done s (if !s.power.main then s
    else
      let s0 := match s.therm.testAt with
        | some a => advanceOp s (a + 2592000000)
        | none => s
      let s1 := takeLoadTest (modTherm s0 (fun x => { x with testAt := some s0.evr.opMs })) rest load
      let a : Reading := { beyond := decide (rest < 2200), plausible := true, sample := rest }
      let b : Reading := { beyond := decide (s1.therm.batLimit < rest - load), plausible := true, sample := rest - load }
      let (t, l) := samplePair (settleLogic s1) 8 a b true
      respond t l)

/-- BAT_REPLACED (15 R444, R446): a new source; ACCESS_DENIED on the order code with the coin cell. -/
def execBatReplaced (path : Path) (s : State) : Host.Outcome State Fault Refusal :=
  done s (onWrite s path .wo 0x7840 0x08 (leBytes 1 1) (fun t =>
    if !t.ident.external then answer t path 0x0006 []
    else answer (modTherm t (fun x => { x with batFirst := none, batDrawn := 0 })) path 0 []))

/-- MEASURE_DRIFT (17 R470): the bank's two cells differ from HUB_VOLT_MV by more than 20 mV; recorded once in a power-up
while the difference lasts. -/
def execMeasureDrift (top bot : Nat) (s : State) : Host.Outcome State Fault Refusal :=
  done s
    (let v := s.power.bankMv
     let off := decide (v + 20 < top + bot ∨ top + bot + 20 < v)
     if off ∧ s.therm.drift = false then
       record (modTherm s (fun x => { x with drift := true })) 0x7802 0 0 (leBytes 2 (top + bot) ++ leBytes 2 v)
     else s)

end Sys2Proof.Machine
end

