-- ==== Sys2Proof/Machine/TileOps.lean ====
section
/-!
DEFINITION. Tile ECLIPSE, the administrative enable and the reset of a tile (15 R435 to R438, R445, R447; 03 R98). A tile
that is not in RUN counts as disabled; its enable is kept and stands again when it returns to RUN.
-/

namespace Sys2Proof.Machine

open Sys2Proof

/-- Tile t is the last tile in service in its quarter (15 R436). -/
def lastInService (s : State) (t : Nat) : Bool := tilesOf s (t / 4) == [t]

/-- A sleep request (15 R436): refused with its reason, or ENTERING. -/
def sleepRequest (s : State) (t : Nat) : State :=
  let x := tileOf s t
  let r := if x.power ≠ 0 then 4 else if x.wakeEn = 0 then 2 else if lastInService s t then 3 else 0
  if r = 0 then modTile s t (fun y => { y with power := 1 }) else modTile s t (fun y => { y with powerResult := r })

/-- A waking tile starts, and its enable stands again (15 R437), where its mask generator can be seeded: until its quarter's DRBG is
ready it stays in WAKING (16 R450). -/
def finishWake (s : State) (t : Nat) : State :=
  if (tileOf s t).power = 3 ∧ (drbgOf s (t / 4)).state = 1 then tileStart (modTile s t (fun y => { y with power := 0 })) t else s

/-- A tile wakes (15 R437): the planned operating point at the present throttle level, stores empty, then tile start. -/
def wakeTile (s : State) (t : Nat) : State :=
  let s1 := modTile s t (fun y => { y with power := 3, volt := y.planVolt })
  let s2 := modTile s1 t (fun y => { y with tclk := targetClk s1 t false, pclk := targetClk s1 t true })
  finishWake (modTmem s2 t (fun _ => TileMem.reset)) t

/-- The tiles in WAKING whose DRBG is ready now start (16 R450). -/
def finishWakes (s : State) : State := (List.range 16).foldl finishWake s

/-- TILE_POWER (15 R436, R437): 1 asks for sleep, 0 is the MANUAL wake source. The write is answered OK; what became of a
request is TILE_POWER_RESULT's (log 51). -/
def execTilePower (path : Path) (t v : Nat) (s : State) : Host.Outcome State Fault Refusal :=
  guardUnit (tileOk t) t s (onWrite s path .rw (0x8000 + t) 0x02 (leBytes 1 v) (fun u =>
    if 1 < v then answer u path 0x0008 []
    else if v = 1 then answer (sleepRequest u t) path 0 []
    else if (tileOf u t).power = 2 ∧ (tileOf u t).wakeEn.getLsbD 0 then answer (wakeTile u t) path 0 []
    else answer u path 0 []))

/-- A tile without power: its stores, cores, event unit and engines hold nothing (15 R435, R436). -/
def gateTile (s : State) (t : Nat) : State :=
  let off (c : PkeCore) : PkeCore := { c.stop with loaded := false, lib := [] }
  let s1 := modTile s t (fun y => { y with power := 2, powerResult := 0, pke0 := off y.pke0, pke1 := off y.pke1 })
  { modTmem s1 t (fun _ => TileMem.reset) with
    cores := s1.cores.filter (fun x => x.1 / 4 != t || decide (64 ≤ x.1)), evus := s1.evus.filter (fun x => x.1 != t) }

/-- ECLIPSE_DECISION (15 R436, R445): an ENTERING tile that holds no descriptor. wake holds the sources asserted in the
decision cycle. -/
def execEclipseDecision (t : Nat) (wake : BitVec 3) (s : State) : Host.Outcome State Fault Refusal :=
  guardUnit (tileOk t) t s
    (let x := tileOf s t
     if x.power ≠ 1 ∨ !(homedOn s t).isEmpty then s
     else if wake &&& x.wakeEn ≠ 0 then modTile s t (fun y => { y with power := 0, powerResult := 1 })
     else if (tilesOf s (t / 4)).isEmpty ∧ x.fenced = false then modTile s t (fun y => { y with power := 0, powerResult := 3 })
     else gateTile s t)

/-- TILE_WAKE (15 R437, R445): an enabled source asserts in ECLIPSE; PEER_LOSS in ENTERING ends the request. -/
def execTileWake (t : Nat) (src : BitVec 3) (s : State) : Host.Outcome State Fault Refusal :=
  guardUnit (tileOk t) t s
    (let x := tileOf s t
     if x.power = 2 ∧ src &&& x.wakeEn ≠ 0 then wakeTile s t
     else if x.power = 1 ∧ (src &&& x.wakeEn).getLsbD 2 then modTile s t (fun y => { y with power := 0, powerResult := 1 })
     else s)

/-- TILE_ENABLE (01 R22; 15 R447): INVALID_STATE for disabling the last tile in service of its quarter, and for enabling a
tile in ECLIPSE. A tile that already counts as disabled by its power state takes a 0 without effect. -/
def execTileEnable (path : Path) (t v : Nat) (s : State) : Host.Outcome State Fault Refusal :=
  guardUnit (tileOk t) t s (onWrite s path .rw (0x8000 + t) 0x01 (leBytes 1 v) (fun u =>
    if 1 < v then answer u path 0x0008 []
    else if v = 0 ∧ lastInService u t then answer u path 0x0009 []
    else if v = 1 ∧ (tileOf u t).power = 2 then answer u path 0x0009 []
    else if v = 0 ∧ (tileOf u t).power ≠ 0 then answer u path 0 []
    else answer (modTile u t (fun y => { y with enable := v == 1 })) path 0 []))

/-- The fence, the quarantines and the mismatch history of a tile are cleared, and a running tile starts (03 R98, R101). -/
def clearTile (s : State) (t : Nat) : State :=
  tileStart (modTile s t (fun y =>
    { y with fenced := false, fenceCause := 0, quar0 := false, quar1 := false, mism0 := 0, mism1 := 0, hist0 := [], hist1 := [] })) t

/-- TILE_RESET (15 R445, R447): permitted while fenced, disabled or in ECLIPSE; a tile in ECLIPSE wakes first. -/
def execTileReset (path : Path) (t : Nat) (s : State) : Host.Outcome State Fault Refusal :=
  guardUnit (tileOk t) t s (onWrite s path .wo (0x8000 + t) 0x06 (leBytes 1 1) (fun u =>
    let x := tileOf u t
    if x.fenced = false ∧ x.enable ∧ x.power = 0 then answer u path 0x0009 []
    else answer (clearTile (if x.power = 2 then wakeTile u t else u) t) path 0 []))

end Sys2Proof.Machine
end

