-- ==== Sys2Proof/Machine/RngDict.lean ====
section
/-!
DEFINITION. The random source's actions through the dictionary: RNG_RESTART, raw mode and raw data (13 R404, R408, R409); the
steps of its seeding, which let waking tiles start (13 R402, R405; 16 R450).
-/

namespace Sys2Proof.Machine

open Sys2Proof

/-- RNG_RESTART (13 R404, R409): ACCESS_DENIED in any state but STUCK. -/
def execRngRestart (path : Path) (s : State) : Host.Outcome State Fault Refusal :=
  done s (onWrite s path .wo 0x6800 0x04 (leBytes 1 1) (fun t =>
    if t.rng.state ≠ rngStuck then answer t path 0x0006 []
    else answer (modRng (startTest t) (fun r => { r with fails := 0 })) path 0 []))

/-- The event of raw mode (14 R414; log 47). -/
def recordRaw (s : State) : State := record s 0x6802 0 0 (leBytes 4 s.rng.lastFail)

/-- RNG_RAW_MODE as it is applied (13 R408, R409): 1 puts the source in RAW with every DRBG uninstantiated and the waiting
reads completed, whatever test was running; 0 ends raw mode. -/
def applyRawMode (on : Bool) (s : State) : Nat × State :=
  if on then
    if s.rng.state = rngRaw then (0, s)
    else (0, recordRaw (releaseReaders (modRng (uninstantiate s) (fun r => { r with state := rngRaw, testing := false }))))
  else if s.rng.state = rngRaw then (0, recordRaw (startTest s))
  else (0, s)

/-- RNG_RAW_MODE (13 R408; 10 R338). -/
def execRngRawMode (path : Path) (on : Bool) (s : State) : Host.Outcome State Fault Refusal :=
  done s (proposeOrApply s path 0x6800 0x07 (leBytes 1 (b2n on)) (applyRawMode on))

/-- RNG_RAW_DATA's value: 4,096 bytes captured at the read, or zero length outside raw mode (13 R408; log 13). -/
def rawData (s : State) : List Byte × State :=
  if s.rng.state = rngRaw then
    ((List.range 4096).map (fun i => Config.rawByte (s.rng.raw + i)), modRng s (fun r => { r with raw := r.raw + 4096 }))
  else ([], s)

/-- DRBG_RESEED (13 R405, R409). -/
def execDrbgReseed (n : Nat) (s : State) : Host.Outcome State Fault Refusal := guardUnit (decide (n < 5)) n s (finishWakes (reseed s n))

end Sys2Proof.Machine
end

