-- ==== Sys2Proof/Machine/Start.lean ====
section
/-!
DEFINITION. Loss of main power and start-up (04 R119 to R123, R132; 07 R228, R231, R238; 11 R354 to R357, R362, R365,
R368, R369; 12 R385, R392; 14 R413, R414).
-/

namespace Sys2Proof.Machine

open Sys2Proof

/-- Functions and PASIDs with completions that no committed watermark covers (04 R132 step 3). -/
def uncommitted (s : State) : List (Nat × Option Nat) :=
  (s.qps.filter (fun x => x.2.assigned && !x.2.headWait && x.2.w != x.2.wm)).foldl
    (fun l x => if l.contains (x.2.func, pasidOf x.2) then l else l ++ [(x.2.func, pasidOf x.2)]) []

/-- Step 3 of the flush: a flushing read for each of them, and the final watermark batch over the completions whose reads returned
(04 R132). While all 512 places of outstanding requests are taken, one goes out only as it gets the place of a read that returns (02
R33). -/
def finalBatch (s : State) (returned : List (Nat × Option Nat)) : State :=
  let s0 := ((uncommitted s).filter (fun x => readPlace s || returned.contains x)).foldl (fun u x => send u (.flushRead x.1 x.2)) s
  let s1 := { s0 with qps := s0.qps.map (fun x =>
    if x.2.assigned && !x.2.headWait && returned.contains (x.2.func, pasidOf x.2) then (x.1, { x.2 with flushed := x.2.w }) else x) }
  if journalUp s1 then batchNow s1 else s1

/-- Completions written and left uncovered by the committed watermarks. -/
def uncovered (s : State) : Nat :=
  ((s.qps.filter (fun x => x.2.assigned && !x.2.headWait)).map (fun x => sub48 x.2.w x.2.wm)).sum

/-- The flush of 04 R132, whose start releases the service engine's lock by force (06 R195), then everything volatile is gone: units
not started do not start, the final batch, the recorder's buffer, the clean-shutdown mark, the operating time saved. A backup input
that is below 2.0 V then acts at once (12 R391; 00 R3). -/
def powerLoss (s0 : State) (returned : List (Nat × Option Nat)) : State :=
  let s := svcForceRelease s0
  let s1 := finalBatch (modJournal s (fun j => { j with units := [] })) returned
  let s2 := raiseModule (record s1 0x1002 0 0 (leBytes 4 (uncovered s1))) 0x08
  let s3 := modEvr s2 (fun e => { evrFlushAll e s.now with saved := e.opMs })
  let s4 := volatileLost (modJournal s3 (fun j => { j with cleanMark := true })) true
  lowBackup { s4 with power := { s4.power with main := false, lostAt := s.now } }

/-- MAIN_POWER_LOSS (04 R120, R132). -/
def execMainPowerLoss (returned : List (Nat × Option Nat)) (s : State) : Host.Outcome State Fault Refusal :=
  done s (if s.power.main then powerLoss s returned else s)

/-- A transition whose request was recorded and whose Pk is not burnt is discarded: QRQ_RESULT reads CANCELLED; of one whose Sk is burnt
the mirror is rewritten (11 R365). -/
def discardRequest (s : State) (w : Word) : State :=
  match s.life.request with
  | none => s
  | some k =>
    let mine (r : QReq) : Bool := r.index == 0x2000 && r.sub == 4 && r.state == 2 && leNat r.value == k
    let t := modLife s (fun l => { l with request := none })
    if otpState w = k then modLife t (fun l => { l with mirror := k })
    else if pendingTarget w = k then t
    else modDict t (fun d => { d with reqs := d.reqs.map (fun x => if mine x.2 then (x.1, { x.2 with result := 0x0013 }) else x) })

/-- The horizon of severity v as a start rebuilds it: below the lowest SEQ retained of v, else the highest retained of all (14 R418). -/
def rebuiltHorizon (l : List EvRec) (v : Nat) : Nat :=
  match (l.filter (fun r => r.severity == v)).map (fun r => r.seq) with
  | [] => (l.map (fun r => r.seq)).foldl max 0
  | x :: m => m.foldl min x - 1

/-- Step 1: the ROM completes cut-off burns, loads the registers and counts the power cycle; the recorder takes up its
numbers, its horizons and its time; an invalid life-cycle word is recorded (11 R356, R362, R365, R366; 14 R413, R418). -/
def startOtp (s : State) (i : StartInfo) : State :=
  let w := otpWord s.life
  let s1 := loadLife (discardRequest (modLife s (fun l =>
    { l with otpA := l.otpA ||| w, otpB := l.otpB ||| w, otpC := l.otpC ||| w, mirrorErr := l.mirror != otpState w })) w)
  let top := (s.evr.held.map (fun r => r.seq)).foldl max 0
  let time := (s.evr.held.getLast?.map (fun r => r.opTime)).getD 0
  let s2 := modEvr s1 (fun e =>
    { e with devA := i.recA, devB := i.recB, horizon := (List.range 8).foldl (fun t v => tblSet t v (rebuiltHorizon e.held v)) [],
             seq := if s.journal.cleanMark then top else top + 256,
             opMs := max (max e.saved e.opMs) time, powerCycles := sat (2 ^ 24 - 1) (e.powerCycles + 1) })
  if otpValid w then s2 else recordOpen s2 0 0

/-- Step 2, an erased BBRAM: new secrets; before FIELD_BLANK an identity still to be certified, afterwards a zeroised
module with the HALT latch set (11 R368, R369; 12 R385). LF_TIME starts again (12 R392). What ZEROIZE clears is cleared before the
data plane opens, however the BBRAM was lost (00 R3; 04 R126; 12 R387). -/
def startBbram (s : State) : State :=
  if s.life.bbram then s
  else
    let s1 := modTamper (loseIdentity (eraseTenancy (eraseKernel s) false)) (fun t => { t with lfBase := s.now })
    if lifeCycle s ≤ 1 then modLife s1 (fun l => { l with zeroised := false, identity := 0 })
    else modTamper s1 (fun t => { t with latch := true, latchOk := true })

/-- The Nightside records not yet copied (12 R392). -/
def nsUncopied (s : State) : List NsRec := s.tamper.log.filter (fun r => decide (s.tamper.logCopied < r.seq))

/-- Copy one Nightside record into the recorder with the severity of its RANK_DONE, and note the ALERT frame of its copy (12 R392; 14
R413). -/
def copyNs (s : State) (r : NsRec) : State :=
  let t := recordSev s (0x6000 + r.source) (rankSeverity r.done) 8 r.source true
    (leBytes 6 r.lfTime ++ leBytes 2 r.sampleA ++ leBytes 2 r.sampleB)
  modFmp t (fun f => { f with alerts := f.alerts ++ [alertBytes (0x6000 + r.source) (rankSeverity r.done) t.evr.seq] })

/-- Step 2, the Nightside log: copied, and NIGHTSIDE_LOG raised (12 R392; 09 R316). -/
def startLog (s : State) : State :=
  let l := nsUncopied s
  if l.isEmpty then s
  else modTamper (raiseModule (l.foldl copyNs s) 0x04) (fun t => { t with logCopied := t.logSeq })

/-- Steps 4 to 7: the bank that starts the module, a new one tried first; its failures (11 R356, R358, R360). -/
def startFirmware (s : State) : State :=
  let fresh := s.fw.state == 4
  let b := if fresh then otherBank s else s.fw.boot
  let core (x : Nat) : Bool := kindOk s x 1 && kindOk s x 2
  let libs (x : Nat) : Bool := kindOk s x 3 && kindOk s x 4
  let use := if core b then some b else if core (1 - b) then some (1 - b) else none
  let s1 := modFw s (fun w => { w with boot := use.getD b, recovery := use.isNone, running := use.isSome,
                                       state := if fresh then 0 else w.state,
                                       newSince := if use ≠ some b then none else if fresh then some s.evr.opMs else w.newSince,
                                       previous := none })
  let bad := use != some b || !(libs b || libs (1 - b))
  let s2 := { s1 with boot := { s1.boot with failed := use.isSome && !(libs b || libs (1 - b)) } }
  let s3 := match use with
    | some x => measureBank s2 x
    | none => modFw s2 (fun w => { w with meas := sha3_384 Config.kernelRom :: w.meas.drop 1 })
  if bad then recordFw (modFw s3 (fun w => { w with result := 0x000F })) else if fresh then recordFw s3 else s3

/-- Instruction memory of M0 (01 R26): the ROM, with the patch area once the patch of a bank has verified. -/
def loadKernel (s : State) (patch : List Byte) : State :=
  modCore (modFw s (fun w => { w with patch := patch })) 64 (fun k =>
    { k with code := Memory.write [] 0 (if patch = [] then Config.kernelRom else Config.patchedRom patch) })

/-- Step 4: the patch area and the Nightside table from kind 1 (01 R26, R28; 11 R355, R356). -/
def loadPatch (s : State) : State :=
  if s.fw.recovery then s
  else
    let b := bodyOf s s.fw.boot 1
    modTamper (loadKernel s b) (fun t => { t with table := fit 512 (Config.nightsideTable b) })

/-- Step 6: M1 to M3 from kind 2 (01 R26, R28; 11 R355, R356). The tiles' stores are loaded at tile start. -/
def loadOpen (s : State) : State := if s.fw.recovery then s else restartOpen s s.fw.boot

/-- Step 6: the management port takes its settings and starts; ALERT frames for the copied records go out, whatever their
severity (10 R348; 12 R392). -/
def startPort (s : State) : State :=
  let s1 := modFmp s (fun f =>
    { f with serving := true, node := objNat s 0x1100 0x01 1, rate := objNat s 0x1100 0x02 8, term := objNat s 0x1100 0x03 1,
             alerts := [] })
  s.fmp.alerts.foldl (fun u b => sendFrame u 0x1 0 b) s1

/-- Step 9: PREPARED head records are resolved by their commit word (04 R121). -/
def resolveRec (s : State) (r : JRec) : JRec :=
  if r.state ≠ 1 then r
  else
    let hit := match r.effect with
      | .none => false
      | .record _ _ line => decide ((lineOf s line).commit = r.isn)
      | .nonceUse w _ _ => decide (useWord s.journal w = r.isn)
    { r with state := if hit then 2 else 3 }

/-- A start without a working journal device is recorded, as a failure of both (11 R356). -/
def recordNoDevice (s : State) : State :=
  if journalUp s then s else record (record s 0x5006 0 0 (leBytes 4 0)) 0x5006 0 0 (leBytes 4 1)

/-- Step 9: the journal region as the working devices hold it, then the records, the watermarks and the replay table (04 R115, R116,
R119, R121, R123; 07 R228; 11 R356). -/
def startJournal (s : State) (i : StartInfo) : State :=
  let s0 := recordNoDevice (settleLines (settleDevices s i) i.badLines)
  let s1 := modJournal s0 (fun j => { j with records := j.records.map (fun r => r.write j (resolveRec s0 r).state),
                                             cleanMark := false, lastBatch := s.now })
  replayAll (modHif s1 (fun h => { h with replayActive := true })) (assignedQps s1)

/-- The identity record of module slot i: 1 is the P-384 key, 2 the ML-DSA-65 key, from the seeds of RS (07 R211; 11 R354;
log 12). -/
def identityRecord (s : State) (i : Nat) : KeyRec :=
  let old := slotOf s i
  let mat := if i = 1 then beBytes 48 (identityScalar s) else identitySeed s
  { KeyRec.reset with
    handle := issueHandle (hcb s) none i (slotGen s i), ver := old.ver, ownerPart := 0xFFF, ownerInc := 0xFFFFF,
    state := recActive, alg := if i = 1 then 0x41 else 0x59, keyLen := if i = 1 then 48 else 32, usage := 2 ^ uSign,
    worlds := 2 ^ wTrusted + 2 ^ wData, masters := 2, lcSet := 0x2F, lgen := old.lgen, revSeq := old.revSeq,
    mat := mat }

/-- An identity record that is absent is committed again (11 R354). -/
def checkIdentity (s : State) (i : Nat) : State :=
  if (slotOf s i).state = recActive ∧ ownerModule (slotOf s i) then s
  else match trustedCommit s i (identityRecord s i) with
    | some t => t
    | none => s

/-- Step 10: the tenant scripts from the NAND (08 R268), the vault, the identity records, a key operation cut short (07 R228, R231, R238; 11 R354). -/
def startVault (s : State) (lost : List Nat) : State :=
  settleOps (checkIdentity (checkIdentity (restoreVault (storeImages s) lost) 1) 2)

/-- Step 11: local copies of partition states and RVS; an identity that is not certified is recorded (11 R356); drains and squashes go
on; the data plane opens under 11 R357 (08 R259; 07 R238; 04 R129). BOOT_LAST_MS is a free value: the start's length is the
implementation's (log 34). -/
def startCopies (s0 : State) : State :=
  let s := if s0.life.identity = 1 then s0 else recordOpen s0 0 0
  let s1 := { s with
    parts := s.parts.map (fun x =>
      (x.1, { x.2 with oper := if x.2.created then (homesOf s x.1).map (fun q => (q, x.2.admin)) else [] })),
    quarters := s.quarters.map (fun x => (x.1, { x.2 with rvs := s.vault.rvs, lastSend := s.now })) }
  let s2 := (List.range 4).foldl (fun u q => modQuarter u q (fun x => { x with rvs := s.vault.rvs, lastSend := s.now })) s1
  let (v, s3) := takeFree s2
  let s4 := { s3 with boot := { s3.boot with booted := true, step := 11, held := none, bootMs := v % 2 ^ 32, bootDpMs := 0 } }
  resumeParts (openPlane s4)

/-- Steps 6 to 11 (11 R355), and the record of the start; clean tells whether the clean-shutdown mark was found. -/
def finishStart (s : State) (i : StartInfo) (clean : Bool) : State :=
  let s1 := startPort (loadOpen s)
  let s2 := startCopies (startVault (startJournal (startTiles s1) i) i.lost)
  record (settleMode s2) 0x1001 0 0 (leBytes 4 s2.boot.bootMs ++ leBytes 1 s2.fw.boot ++ leBytes 1 (b2n clean))

/-- A start that a transition holds at its step 5 goes on once the transition is done (11 R355, R365). -/
def resumeStart (s : State) : State :=
  match s.boot.held with
  | none => s
  | some (i, clean) => if transitioning s then s else finishStart s i clean

/-- A pending transition of a held start is redone as soon as its new KEK can be drawn (11 R355 step 5; 13 R402; log 87). -/
def redoHeld (s : State) : State :=
  if s.boot.held.isSome ∧ (drbgOf s 4).state = 1 then resumeStart (runTransition s) else s

/-- Steps 1 to 4 (11 R355): the OTP, the BBRAM, the Nightside log, the start-up test of the noise source, the firmware banks. -/
def beginStart (s : State) (i : StartInfo) : State :=
  let s0 := { s with power := { s.power with main := true, gate := 2, upCount := 0, upOpen := 0, gateAt := s.now, capAt := s.now, esrAt := none },
                     boot := { s.boot with startUs := s.now, failed := false },
                     therm := { s.therm with batDrawn := s.therm.batDrawn + (if s.power.main then 0 else s.now - s.power.lostAt) } }
  let s1 := startBbram (loadKernel (startOtp s0 i) [])
  let s2 := modTamper s1 (fun t => { t with halt := t.latch, seen := [], logicAlarm := false })
  loadPatch (startFirmware (startTest (startLog s2)))

/-- POWER_GOOD_START (11 R355, R356): a pending transition is redone at step 5, and the start goes on when it is done; where its new KEK
must wait for the DRBG the start is held there (11 R365; 16 R453). -/
def powerGood (s : State) (i : StartInfo) : State :=
  let clean := s.journal.cleanMark
  let t := beginStart s i
  resumeStart (runTransition { t with boot := { t.boot with step := 5, held := some (i, clean) } })

/-- POWER_GOOD_START (11 R355, R356): only a module that has not started starts. -/
def execPowerGoodStart (i : StartInfo) (s : State) : Host.Outcome State Fault Refusal :=
  done s (if s.boot.booted ∨ s.boot.held.isSome then s else powerGood s i)

/-- LC_TRANSITION (11 R361 to R367; 16 R453). -/
def execLcTransition (s : State) : Host.Outcome State Fault Refusal := done s (resumeStart (runTransition s))

/-- RNG_STARTUP_TEST_DONE (13 R402 to R404). -/
def execRngStartupTestDone (r : StartupResult) (s : State) : Host.Outcome State Fault Refusal :=
  match r with
  | .passed => done s (if s.rng.testing then redoHeld (finishWakes (testPassed s)) else s)
  | .failed sampler apt =>
    guardUnit (decide (sampler < 8)) sampler s (if s.rng.testing then healthFail s sampler apt else s)

/-- CONDITIONER_BLOCK (13 R397, R402, R405): no block is released while a start-up test runs. -/
def execConditionerBlock (s : State) : Host.Outcome State Fault Refusal :=
  done s (if s.rng.testing then s else redoHeld (finishWakes (giveBlock (condBlock s))))

end Sys2Proof.Machine
end

