-- ==== Sys2Proof/Machine/Objects.lean ====
section
/-!
DEFINITION. The value each object of the dictionary reads: what the Q4 maintains comes from the state, the rest from the
store or from the object's default (10 R327 to R351 and the object tables of the other chapters).
-/

namespace Sys2Proof.Machine

open Sys2Proof

/-- Two's complement of n bytes. -/
def leInt (n : Nat) (v : Int) : List Byte := leBytes n (v % (256 ^ n : Int)).toNat

/-- The lowest of a list, or d for an empty one. -/
def leastOf (d : Nat) (l : List Nat) : Nat :=
  match l with
  | [] => d
  | x :: r => r.foldl min x

/-- The ordering code, zero-filled to 16 (00 R1). -/
def orderCode (s : State) : List Byte := ascii (if s.ident.external then "AVB-YQ4-16E" else "AVB-YQ4-16C")

/-- VERSION of the running image of a kind (11 R358). -/
def runningVersion (s : State) (k : Nat) : Nat := ((imageOf s s.fw.boot k).map (fun i => i.version)).getD 0

/-- LIB_ID and LIB_VERSION of the running op-list library, from the header its image carries (06 R205; 10 R347). -/
def libOf (s : State) : Nat := ((imageOf s s.fw.boot 3).map (fun i => field i.body 0 4)).getD 0

/-- A part of a certified identity; zero length while there is none (10 R347). -/
def identityBytes (s : State) (v : List Byte) : List Byte := if s.life.identity = 1 then v else []

/-- A certificate of the identity, which Avbor makes, at most n bytes (10 R347; log 12). -/
def identityCert (s : State) (name : String) (n : Nat) : List Byte :=
  identityBytes s ((Config.pkBytes name [leBytes 8 s.ident.serial]).take n)

/-- 0x1000 to 0x1002 (10 R347). -/
def liveIdent (s : State) (idx sub : Nat) : Option (List Byte) :=
  match idx, sub with
  | 0x1000, 1 => some (fit 16 (ascii "Avbor Systems"))
  | 0x1000, 3 => some (fit 16 (orderCode s))
  | 0x1000, 5 => some (leBytes 8 s.ident.serial)
  | 0x1000, 6 => some (leBytes 1 (b2n s.ident.external))
  | 0x1001, 1 => some (leBytes 4 s.ident.rom)
  | 0x1001, 2 => some (leBytes 4 (runningVersion s 1))
  | 0x1001, 3 => some (leBytes 4 (runningVersion s 2))
  | 0x1001, 4 => some (leBytes 1 s.fw.boot)
  | 0x1001, 5 => some (leBytes 4 (libOf s))
  | 0x1002, 1 => some (identityBytes s (p384.pubOf (identityScalar s)))
  | 0x1002, 2 => some (identityBytes s (dsaPub (dsaSet 0x59) (identitySeed s)))
  | 0x1002, 3 => some (identityCert s "ID_CERT_EC" 4096)
  | 0x1002, 4 => some (identityCert s "ID_CERT_PQ" 16384)
  | 0x1002, 5 => some (identityCert s "ID_CHAIN" 32768)
  | _, _ => none

/-- An entry of FMP_SESSION_TABLE; SID n stands in entry n − 1 (10 R348). -/
def sessionEntry (s : State) (sid : Nat) : List Byte :=
  match sessionOf s sid with
  | none => zeros 16
  | some x =>
    leBytes 1 sid ++ leBytes 1 x.node ++ leBytes 1 x.role ++ leBytes 1 x.index ++ leBytes 2 x.scope ++ zeros 2 ++
      leBytes 6 x.opened ++ zeros 2

/-- 0x1101 and 0x1110 (10 R348). -/
def livePort (s : State) (idx sub : Nat) : Option (List Byte) :=
  match idx, sub with
  | 0x1101, 1 => some (leBytes 1 s.fmp.busState)
  | 0x1101, 2 => some (leBytes 1 (min 255 s.fmp.tec))
  | 0x1101, 3 => some (leBytes 1 s.fmp.rxErr)
  | 0x1101, 4 => some (leBytes 4 s.fmp.busOff)
  | 0x1101, 5 => some (leBytes 4 s.fmp.dupNode)
  | 0x1101, 6 => some (leBytes 4 s.fmp.framesRx)
  | 0x1101, 7 => some (leBytes 4 s.fmp.framesTx)
  | 0x1110, 3 => some ((List.range 32).flatMap (fun i => sessionEntry s (i + 1)))
  | _, _ => none

/-- FW_BANK_INFO of a bank: VERSION and SEC_VERSION of each kind in turn (11 R377). -/
def bankInfo (s : State) (b : Nat) : List Byte :=
  [1, 2, 3, 4].flatMap (fun k =>
    match imageOf s b k with
    | some i => leBytes 4 i.version ++ leBytes 4 i.secVersion
    | none => zeros 8) ++ zeros 32

/-- 0x2000 to 0x2050 but for MEAS_CONFIG and ATT_STATEMENT (11 R377). -/
def liveLife (s : State) (idx sub : Nat) : Option (List Byte) :=
  match idx, sub with
  | 0x2000, 1 => some (leBytes 1 (lifeCycle s))
  | 0x2000, 2 => some (leBytes 1 (pendingTarget (otpWord s.life)))
  | 0x2000, 3 => some (leBytes 4 (otpWord s.life).toNat)
  | 0x2000, 5 => some (leBytes 4 s.life.voteEvents)
  | 0x2001, 1 => some (leBytes 1 (b2n s.life.zeroised))
  | 0x2001, 2 => some (leBytes 1 s.life.identity)
  | 0x2010, 3 => some []
  | 0x2010, 4 => some (leBytes 1 (debugScope s))
  | 0x2020, 1 => some (leBytes 1 s.fw.boot)
  | 0x2020, 4 => some (leBytes 1 s.fw.state)
  | 0x2020, 5 => some (leBytes 2 s.fw.result)
  | 0x2020, 7 => some (fit 16 (s.fw.floors.flatMap (leBytes 4)))
  | 0x2020, 8 => some (bankInfo s 0)
  | 0x2020, 9 => some (bankInfo s 1)
  | 0x2030, n => if 1 ≤ n ∧ n ≤ 6 then some (fit 48 (s.fw.meas.getD (n - 1) [])) else none
  | 0x2050, 1 => some (leBytes 4 s.boot.bootMs)
  | 0x2050, 2 => some (leBytes 4 s.boot.bootDpMs)
  | _, _ => none

/-- 0x3000 to 0x3013 (10 R350). -/
def livePools (s : State) (idx sub : Nat) : Option (List Byte) :=
  let q := idx - 0x3010
  if idx = 0x3000 then
    match sub with
    | 2 => some (leBytes 2 (16384 - (qpsTaken s).length))
    | 3 => some (leBytes 2 (14208 - (journalTaken s).length))
    | 4 => some (leBytes 2 (partsCreated s).length)
    | _ => none
  else if idx = 0x3020 then none
  else match sub with
    | 1 => some (leBytes 2 (qpsHomed s q))
    | 2 => some (leBytes 2 (allowSum s q))
    | 3 => some (leBytes 2 (quotaSum s q))
    | 4 => some (leBytes 2 ((partsCreated s).filter (fun x => (homesOf s x.1).contains q)).length)
    | _ => none

/-- SCRIPT_INFO of slot n (08 R277): zero for an empty slot. -/
def scriptInfo (x : Part) (n : Nat) : List Byte :=
  match tblFind x.scripts n with
  | none => zeros 80
  | some k =>
    fit 16 k.id ++ leBytes 4 k.version ++ leBytes 4 k.budget ++ leBytes 4 k.maxOut ++ leBytes 1 k.flags ++
      leBytes 1 k.keys ++ leBytes 1 k.sigAlgs ++ zeros 1 ++ fit 48 k.meas

/-- CACHE_QUOTA of a created partition: the least that a home quarter has rescaled it to (08 R249, R277). -/
def quotaNow (s : State) (p : Nat) : Nat :=
  let q0 := objNat s (0x4000 + p) 0x22 64
  if (partOf s p).created then leastOf q0 ((homesOf s p).map (fun q => tblGet q0 (partOf s p).quota q)) else q0

/-- 0x4000 + p (08 R277; 10 R349). -/
def livePart (s : State) (p sub : Nat) : Option (List Byte) :=
  let x := partOf s p
  if sub = 0x01 then some (leBytes 1 x.admin)
  else if sub = 0x02 then some (leBytes 1 (operOf s p))
  else if sub = 0x03 then some (leBytes 1 (effectiveOf s p))
  else if sub = 0x04 then some (leBytes 4 x.incarnation)
  else if sub = 0x06 then some (leBytes 4 (partCmdStatus x))
  else if sub = 0x07 then some (leBytes 4 x.lastCancelled)
  else if sub = 0x08 then some (leBytes 4 x.disagreeCount)
  else if sub = 0x11 then some (fit 128 (x.qps.flatMap (leBytes 2)))
  else if sub = 0x22 then some (leBytes 2 (quotaNow s p))
  else if 0x90 ≤ sub ∧ sub ≤ 0xCF then some (scriptInfo x (sub - 0x8F))
  else if sub = 0xE9 then some (leBytes 1 (rosterOf s p).length)
  else none

/-- 0x5000 to 0x5011 (07 R243). -/
def liveVault (s : State) (idx sub : Nat) : Option (List Byte) :=
  match idx, sub with
  | 0x5000, 2 => some (leBytes 2 (8190 - (extentsTaken s).length))
  | 0x5000, 3 => some (leBytes 2 (11776 - (s.vault.lines.filter (fun x => x.2.kind != 0)).length))
  | 0x5000, 4 => some (leBytes 2 (3520 - linesGranted s))
  | 0x5000, 5 => some (leBytes 2 (s.vault.lines.filter (fun x => x.2.ckpt != x.2.commit)).length)
  | 0x5000, 6 => some (leBytes 4 s.vault.nandErrors)
  | 0x5000, 7 => some (leBytes 4 s.vault.lost.length)
  | 0x5000, 8 => some (leBytes 8 s.vault.rvs)
  | 0x5010, 3 => some (leBytes 2 s.vault.keyOpResult)
  | 0x5011, 3 => some (leBytes 2 s.vault.modKeyOpResult)
  | _, _ => none

/-- QRQ_STATEMENT to QRQ_ORIGIN of a slot (10 R349). -/
def liveReq (s : State) (slot sub : Nat) : Option (List Byte) :=
  match tblFind s.dict.reqs slot with
  | none => if sub = 5 then some [] else none
  | some r =>
    match sub with
    | 1 => some (reqStatement s r)
    | 2 => some (leBytes 1 r.state)
    | 3 => some (leBytes 2 ((r.approvals.map (fun i => 2 ^ i)).sum))
    | 4 => some (leBytes 2 r.result)
    | 5 => some r.value
    | 6 => some (leBytes 1 (pathNo r.origin))
    | _ => none

/-- 0x5100 to 0x525F (10 R349). -/
def liveQuorum (s : State) (idx sub : Nat) : Option (List Byte) :=
  let c := s.dict.cer
  match idx, sub with
  | 0x5100, 2 => some (leBytes 1 c.state)
  | 0x5100, 3 => some (leBytes 1 ((c.values.map (fun x => 2 ^ (x.1 - 1))).sum))
  | 0x5100, 4 => some []
  | 0x5100, 5 => some (fit 5 c.kcv)
  | 0x5100, 7 => some (leBytes 8 c.result)
  | 0x5200, 2 => some (leBytes 1 (rosterOf s 0xFFFF).length)
  | 0x5200, 4 => some (leBytes 1 (s.dict.reqs.filter (fun x => x.2.state == 1)).length)
  | _, _ => if 0x5220 ≤ idx then liveReq s (idx - 0x5220) sub else none

/-- A record of the Nightside log as its 32 bytes (12 R392). -/
def nsBytes (r : NsRec) : List Byte :=
  let body := leBytes 2 r.seq ++ leBytes 1 r.source ++ leBytes 1 (r.asked + 8 * r.done) ++
    leBytes 1 (b2n r.backup + 2 * b2n r.zeroised + 4 * b2n r.capped) ++ leBytes 1 r.events ++ leBytes 2 r.suppressed ++
    leBytes 6 r.lfTime ++ zeros 2 ++ leBytes 2 r.sampleA ++ leBytes 2 r.sampleB ++ leBytes 3 r.powerCycles ++ zeros 5
  body ++ leBytes 4 (crc32c body)

/-- Slot i of the Nightside log: the record whose SEQ falls on it (12 R392, R395). -/
def nsSlot (s : State) (i : Nat) : List Byte :=
  match s.tamper.log.find? (fun r => (r.seq + 63) % 64 == i) with
  | some r => nsBytes r
  | none => zeros 32

/-- TMP_CAL: 0 for the sources without detectors (12 R395). -/
def calBytes (idx : Nat) : List Byte :=
  if 0x6019 ≤ idx then zeros 8 else [false, true].flatMap (fun b => leBytes 2 (calLow (idx - 0x6010) b) ++ leBytes 2 (calHigh (idx - 0x6010) b))

/-- 0x6000 to 0x601A (12 R395). -/
def liveTamper (s : State) (idx sub : Nat) : Option (List Byte) :=
  let i := idx - 0x6010
  let x := srcT s i
  let bare := decide (i = 9 ∨ i = 10)
  if idx = 0x6000 then
    match sub with
    | 1 => some (leBytes 4 (tmpSts s))
    | 2 => some (leBytes 1 s.tamper.lastRank)
    | 3 => some (leBytes 4 s.tamper.alarms)
    | 5 => some ((List.range 64).flatMap (nsSlot s))
    | 6 => some (leBytes 2 s.tamper.logOvf)
    | 7 => some (leBytes 4 s.tamper.shadowEvents)
    | _ => none
  else match sub with
    | 1 => some (leBytes 1 x.k)
    | 2 => some (leBytes 2 x.w)
    | 3 => some (leBytes 1 x.resp)
    | 4 => some (leBytes 4 x.events)
    | 5 => some (leBytes 2 (if bare then 0 else x.sampleA))
    | 6 => some (leBytes 2 (if bare then 0 else x.sampleB))
    | 7 => some (leBytes 4 (if bare then 0 else x.disagree))
    | 8 => some (calBytes idx)
    | _ => none

/-- 0x6800 to 0x6817 but for RNG_RAW_DATA (13 R410). -/
def liveRng (s : State) (idx sub : Nat) : Option (List Byte) :=
  let r := s.rng
  if idx = 0x6800 then
    match sub with
    | 1 => some (leBytes 1 r.state)
    | 2 => some (leBytes 4 r.failures)
    | 3 => some (leBytes 4 r.lastFail)
    | 5 => some (leBytes 4 r.reseeds)
    | 6 => some (leBytes 4 r.stalls)
    | 7 => some (leBytes 1 (b2n (r.state == rngRaw)))
    | _ => none
  else if idx = 0x6801 then
    (if sub = 0 then none else some (leBytes 1 (drbgOf s (sub - 1)).state))
  else
    let e := tblGet { bias := 0, corr1 := 0, corr2 := 0, corr3 := 0, corr4 := 0, rctMax := 0, aptMax := 0 } r.est (idx - 0x6810)
    match sub with
    | 1 => some (leBytes 1 ((Config.constByte (idx * 256 + 1) 0).toNat % 2))
    | 2 => some (leBytes 2 e.bias.toNat)
    | 3 => some (leBytes 2 e.corr1.toNat)
    | 4 => some (leBytes 2 e.corr2.toNat)
    | 5 => some (leBytes 2 e.corr3.toNat)
    | 6 => some (leBytes 2 e.corr4.toNat)
    | 7 => some (leBytes 2 e.rctMax.toNat)
    | 8 => some (leBytes 2 e.aptMax.toNat)
    | _ => none

/-- The wall clock, running on operating time; 0 while it is unset (14 R422). -/
def wallNow (s : State) : Nat :=
  match s.evr.wall with
  | none => 0
  | some (w, t) => (w + (s.evr.opMs - t)) % 2 ^ 48

/-- EVR_CURSOR of a path (14 R421). -/
def cursorOf (s : State) (path : Path) : Nat := ((s.dict.cursors.find? (fun x => x.1 == path)).map (fun x => x.2)).getD 0

/-- EVR_LIMIT_SEL of a path (14 R425). -/
def limitSelOf (s : State) (path : Path) : Nat :=
  ((s.dict.limitSel.find? (fun x => x.1 == path)).map (fun x => x.2)).getD 0x1001

/-- EVR_LIMIT of a code (14 R425). -/
def limitBytes (s : State) (code : Nat) : List Byte :=
  leBytes 2 code ++ leBytes 2 (evLimitOf s code).rate ++ leBytes 2 (evLimitOf s code).burst

/-- 0x7000 to 0x7010 but for EVR_RECORDS (14 R421, R425). -/
def liveEvr (s : State) (path : Path) (idx sub : Nat) : Option (List Byte) :=
  let e := s.evr
  match idx, sub with
  | 0x7000, 2 => some (leBytes 1 e.mode)
  | 0x7000, 3 => some (leBytes 1 (b2n e.devA + 2 * b2n e.devB))
  | 0x7000, 5 => some (leBytes 8 e.seq)
  | 0x7000, 6 => some (leBytes 4 e.held.length)
  | 0x7000, 7 => some (leBytes 8 e.overwrites)
  | 0x7000, 8 => some (leBytes 8 e.dropped)
  | 0x7000, 9 => some (leBytes 6 e.opMs)
  | 0x7000, 10 => some (leBytes 4 e.powerCycles)
  | 0x7000, 11 => some (leBytes 6 (wallNow s))
  | 0x7001, 1 => some (leBytes 8 e.seq ++ (List.range 8).flatMap (fun v => leBytes 8 (tblGet 0 e.horizon v)))
  | 0x7001, 2 => some (leBytes 8 (cursorOf s path))
  | 0x7010, 1 => some (leBytes 2 (limitSelOf s path))
  | 0x7010, 2 => some (limitBytes s (limitSelOf s path))
  | 0x7010, 3 => some (leBytes 4 (evLimitOf s (limitSelOf s path)).pending)
  | _, _ => none

/-- 0x7800 to 0x7840 but for PWR_BLOCKS_DW (15 R446). -/
def livePower (s : State) (idx sub : Nat) : Option (List Byte) :=
  let p := s.power
  let t := s.therm
  match idx, sub with
  | 0x7800, 1 => some (leBytes 2 p.inputDw)
  | 0x7810, 1 => some (leBytes 2 p.bankMv)
  | 0x7810, 2 => some (leBytes 2 p.capMf)
  | 0x7810, 3 => some (leBytes 4 p.esrUohm)
  | 0x7810, 4 => some (leBytes 4 p.energyMj)
  | 0x7810, 5 => some (leBytes 1 p.eol)
  | 0x7811, 1 => some (leBytes 1 p.gate)
  | 0x7811, 2 => some (leBytes 4 p.tRestr)
  | 0x7811, 3 => some (leBytes 4 p.tOpen)
  | 0x7820, 1 => some (leInt 2 t.core)
  | 0x7820, 2 => some (leInt 2 t.pred)
  | 0x7820, 3 => some (leInt 2 t.inlet)
  | 0x7820, 5 => some (leBytes 1 p.throttle)
  | 0x7820, 6 => some (leBytes 4 p.throttleCount)
  | 0x7830, 1 => some (leBytes 6 t.wearLast)
  | 0x7830, 5 => some (leBytes 1 t.reserveMin)
  | 0x7840, 1 => some (leBytes 2 t.batRest)
  | 0x7840, 2 => some (leBytes 2 t.batLoad)
  | 0x7840, 3 => some (leBytes 2 t.batLimit)
  | 0x7840, 4 => some (leBytes 1 (b2n t.batLow))
  | 0x7840, 5 => some (leBytes 6 t.batEnd)
  | _, _ => none

/-- 0x8000 + n (15 R447). -/
def liveTile (s : State) (n sub : Nat) : Option (List Byte) :=
  let t := tileOf s n
  if sub = 0x01 then some (leBytes 1 (b2n (t.enable && t.power == 0)))
  else if sub = 0x02 then some (leBytes 1 (b2n (t.power == 1 || t.power == 2)))
  else if sub = 0x03 then some (leBytes 1 t.power)
  else if sub = 0x04 then some (leBytes 1 t.powerResult)
  else if sub = 0x05 then some (leBytes 1 t.wakeEn.toNat)
  else if sub = 0x07 then some (leBytes 4 (tilePairSts s n))
  else if sub = 0x08 then some (leBytes 4 (pkeCoreSts s n 0))
  else if sub = 0x09 then some (leBytes 4 (pkeCoreSts s n 1))
  else if sub = 0x10 then some (leBytes 2 t.tclk)
  else if sub = 0x11 then some (leBytes 2 t.pclk)
  else if sub = 0x12 then some (leBytes 2 t.planTclk)
  else if sub = 0x13 then some (leBytes 2 t.volt)
  else if sub = 0x14 then some (fit 24 (t.slack.flatMap (leInt 2)))
  else if sub = 0x15 then some (fit 8 (t.ro.flatMap (leBytes 2)))
  else if sub = 0x16 then some (leBytes 1 t.wearReserve)
  else if sub = 0x17 then some (leBytes 6 t.wearDate)
  else none

/-- 0x8000 to 0x8103 but for QTR_DLIST_OCC (15 R447). -/
def liveTiles (s : State) (idx sub : Nat) : Option (List Byte) :=
  let q := idx - 0x8100
  if idx < 0x8100 then liveTile s (idx - 0x8000) sub
  else if sub = 1 then some (leBytes 1 (b2n (quarterOf s q).failed))
  else if sub = 2 then some (leBytes 1 (quarterOf s q).failCause)
  else if sub = 3 then some (leBytes 1 (tilesOf s q).length)
  else none

/-- 0x9000 to 0x9010 (10 R351). -/
def liveHost (s : State) (idx sub : Nat) : Option (List Byte) :=
  match idx, sub with
  | 0x9000, 1 => some (leBytes 1 s.hif.speed)
  | 0x9000, 2 => some (leBytes 1 s.hif.width)
  | 0x9000, 3 => some (leBytes 1 (b2n s.hif.degraded))
  | 0x9000, 5 => some (leBytes 4 s.hif.retrains)
  | 0x9001, 2 => some (leBytes 1 s.hif.numVfs)
  | 0x9002, 1 => some (leBytes 4 s.hif.strayTotal)
  | 0x9002, 2 => some (leBytes 4 s.hif.aerCorr)
  | 0x9002, 3 => some (leBytes 4 s.hif.aerUncorr)
  | 0x9002, 4 => some (leBytes 4 s.hif.fetchErrors)
  | _, _ => none

/-- Full access to the analogue test buses: by life cycle, or FULL in ANALYSIS (17 R469). -/
def atbFull (s : State) : Bool := debugScope s == 2

/-- The state's part of an object's value; none where the store or the default gives it. -/
def liveVal (s : State) (path : Path) (idx sub : Nat) : Option (List Byte) :=
  if idx < 0x1100 then liveIdent s idx sub
  else if idx < 0x2000 then livePort s idx sub
  else if idx < 0x3000 then liveLife s idx sub
  else if idx < 0x4000 then livePools s idx sub
  else if idx < 0x5000 then livePart s (idx - 0x4000) sub
  else if idx < 0x5100 then liveVault s idx sub
  else if idx < 0x6000 then liveQuorum s idx sub
  else if idx < 0x6800 then liveTamper s idx sub
  else if idx < 0x7000 then liveRng s idx sub
  else if idx < 0x7800 then liveEvr s path idx sub
  else if idx < 0x8000 then livePower s idx sub
  else if idx < 0x9000 then liveTiles s idx sub
  else if idx < 0xA000 then liveHost s idx sub
  else if idx = 0xA000 ∧ sub = 1 then some (leBytes 1 (b2n (atbFull s)))
  else none

/-- The value an object holds: live, stored, or its default. -/
def baseVal (s : State) (path : Path) (idx sub : Nat) (o : Obj) : List Byte :=
  match liveVal s path idx sub with
  | some v => v
  | none =>
    match tblFind s.dict.store (idx * 256 + sub) with
    | some v => v
    | none => if o.var then [] else leBytes o.len o.dflt

/-- The objects of an index as MEAS_CONFIG and the partition digest take them: INDEX, SUB, LEN, value (11 R374). -/
def digestForm (s : State) (idx : Nat) (keep : Nat → Obj → Bool) : List Byte :=
  (objsAt idx).flatMap (fun x =>
    if keep x.1 x.2 then
      let v := baseVal s .tunnel idx x.1 x.2
      leBytes 2 idx ++ leBytes 1 x.1 ++ leBytes 4 v.length ++ v
    else [])

/-- The indices that hold RWQ objects outside 0x4000–0x4FFF, 0x5100 and 0x5220–0x525F, and those of the four settings that
MEAS_CONFIG also takes, in order (11 R374). -/
def measIndices : List Nat :=
  [0x1110, 0x1120, 0x2000, 0x2020, 0x3020, 0x5011, 0x5200, 0x6000] ++ (List.range 11).map (fun i => 0x6010 + i) ++
  [0x6800, 0x7000, 0x7010, 0x7830, 0x9010]

/-- MEAS_CONFIG (11 R374). EVR_LIMIT counts as the tunnel reads it (log 43). -/
def measConfig (s : State) : List Byte :=
  sha3_384 (measIndices.flatMap (fun idx => digestForm s idx (fun sub o =>
    o.acc == .rwq || idx == 0x9010 || (idx == 0x1110 && (sub == 2 || sub == 4)))))

/-- The value an object reads where no reading is taken at the read. -/
def objVal (s : State) (path : Path) (idx sub : Nat) (o : Obj) : List Byte :=
  if idx = 0x2030 ∧ sub = 7 then measConfig s else baseVal s path idx sub o

/-- The highest sub of an index (10 R327). -/
def highestSub (idx : Nat) : Nat := (objsAt idx).foldl (fun m x => max m x.1) 0

/-- The object at a sub; sub 0 is the U8 CONST that holds the highest sub (10 R327). -/
def objOf (idx sub : Nat) : Option Obj :=
  if sub = 0 then some (full 2 .const (highestSub idx))
  else ((objsAt idx).find? (fun x => x.1 == sub)).map (fun x => x.2)

/-- NO_OBJECT or NO_SUB, else 0 (10 R327, R334); in recovery only identity and life-cycle objects exist (11 R356). -/
def missing (s : State) (idx sub : Nat) : Nat :=
  if (objsAt idx).isEmpty ∨ (s.fw.recovery ∧ barredIdx idx) then 0x0001 else if (objOf idx sub).isNone then 0x0002 else 0

/-- TUNNEL_DISABLED for a request of the tunnel (10 R334, R335; 11 R356). -/
def tunnelOff (s : State) (path : Path) : Bool :=
  path == .tunnel && (objNat s 0x9010 0x01 1 == 0 || s.fw.recovery)

end Sys2Proof.Machine
end

