-- ==== Sys2Proof/Machine/Ceremony.lean ====
section
/-!
DEFINITION. Component key loading: the ceremony of R342 to R345, as its writes act once their right to be made has been
checked (10 R342 to R345, R349).
-/

namespace Sys2Proof.Machine

open Sys2Proof

/-- Change the ceremony. -/
def modCer (s : State) (f : Ceremony → Ceremony) : State := modDict s (fun d => { d with cer := f d.cer })

/-- Bytes of a key of a ceremony's ALG (07 R218; 10 R343); 0 for an ALG that it does not take. -/
def cerKeyLen (alg : Nat) : Nat :=
  if alg = 0x01 ∨ alg = 0x10 then 16 else if alg = 0x02 ∨ alg = 0x11 then 24 else if alg = 0x12 then 32 else 0

/-- The template's fields, if its algorithm letter agrees with ALG (10 R343). -/
def cerTemplate (alg : Nat) (tmpl : List Byte) : Option KbHead :=
  match kbTemplate tmpl with
  | .error _ => none
  | .ok h => if h.alg = (if isAes alg then 0 else 1) then some h else none

/-- A value of CER_OPEN lies in its ranges (10 R343). -/
def cerOpenOk (v : List Byte) : Bool :=
  let scope := field v 0 2
  let alg := field v 2 1
  let n := field v 3 1
  (scope == 0xFFFF || decide (scope < 4096)) && cerKeyLen alg != 0 && (n == 2 || n == 3) && allZero (slice v 4 4) &&
    (cerTemplate alg (slice v 8 16)).isSome

/-- A ceremony is open or combined. -/
def cerBusy (s : State) : Bool := s.dict.cer.state == 1 || s.dict.cer.state == 2

/-- CER_OPEN as it is applied (10 R342 step 1): BUSY while a ceremony runs, INVALID_STATE for a partition not created. -/
def applyCerOpen (v : List Byte) (s : State) : Nat × State :=
  let scope := field v 0 2
  if cerBusy s then (0x000B, s)
  else if scope ≠ 0xFFFF ∧ (partOf s scope).created = false then (0x0009, s)
  else (0, modCer (setObj s 0x5100 0x01 v) (fun _ => { Ceremony.reset with
    state := 1, scope := scope, alg := field v 2 1, count := field v 3 1, template := slice v 8 16, opened := s.evr.opMs }))

/-- The custodian behind a path: scope and index. -/
def custodianOf (s : State) (path : Path) : Option (Nat × Nat) :=
  match roleOf s path with
  | some (.custodian scope index) => some (scope, index)
  | _ => none

/-- The SID of a path. -/
def sidOf (path : Path) : Nat := pathNo path

/-- The components combined (10 R342): their XOR, with odd parity for TDES. -/
def combine (c : Ceremony) : List Byte :=
  let k := (c.values.map (fun x => x.2)).foldl xorB (zeros (cerKeyLen c.alg))
  if isTdes c.alg then k.map oddParity else k

/-- All components have been accepted: the key is combined, or a weak one aborts the ceremony (10 R342 step 3). -/
def combineKey (s : State) : Nat × State :=
  let c := s.dict.cer
  let k := combine c
  if weakKey c.alg k then (0x0011, abortCeremony s)
  else (0, modCer s (fun x =>
    { x with state := 2, key := k, kcv := kcvOf c.alg k, values := x.values.map (fun y => (y.1, [])) }))

/-- The value of CER_COMPONENT lies in its ranges: INDEX, the reserved bytes, the zero fill (10 R343). -/
def componentOk (c : Ceremony) (v : List Byte) : Bool :=
  let n := cerKeyLen c.alg
  let i := field v 0 1
  decide (1 ≤ i ∧ i ≤ c.count) && allZero (slice v 1 3) && allZero (slice v (4 + n) (32 - n)) && allZero (slice v 41 3)

/-- A component that its custodian writes (10 R342 step 2, R343): one per custodian and per index. -/
def acceptComponent (s : State) (path : Path) (who : Nat) (v : List Byte) : Nat × State :=
  let c := s.dict.cer
  let i := field v 0 1
  let k := slice v 4 (cerKeyLen c.alg)
  if c.writers.any (fun w => w.2 == who) then (0x0005, s)
  else if c.values.any (fun x => x.1 == i) then (0x0006, s)
  else if v.length ≠ 44 then (0x0007, s)
  else if !componentOk c v then (0x0008, s)
  else if slice v 36 5 ≠ kcvOf c.alg k then (0x0010, s)
  else
    let t := modCer s (fun x => { x with values := x.values ++ [(i, k)], writers := x.writers ++ [(sidOf path, who)] })
    if t.dict.cer.values.length = c.count then combineKey t else (0, t)

/-- The attributes of the record of a ceremony (10 R344). -/
def cerNewKey (c : Ceremony) (h : KbHead) : NewKey :=
  let module := c.scope == 0xFFFF
  { alg := c.alg, usage := h.usage, export_ := h.exp, worlds := if module then 2 ^ wTrusted + 2 ^ wData else 2 ^ wData + 2 ^ wScript,
    masters := if module then 6 else 5, lcSet := 8, kvn := h.kvn, kcv := c.kcv, mat := c.key, mutv := 0, parent := none }

/-- A new module record in slot i (07 R215, R222). -/
def moduleRecord (s : State) (i : Nat) (n : NewKey) : KeyRec :=
  let old := slotOf s i
  { KeyRec.reset with
    handle := issueHandle (hcb s) none i (slotGen s i), ver := old.ver, ownerPart := 0xFFF, ownerInc := 0xFFFFF,
    state := recActive, alg := n.alg, keyLen := n.mat.length, usage := n.usage, exportRule := n.export_, worlds := n.worlds,
    masters := n.masters, lcSet := n.lcSet, lgen := old.lgen, revSeq := old.revSeq, kvn := n.kvn, kcv := n.kcv, mat := n.mat }

/-- The record of a ceremony and its physical slot: of the partition, or of the module (10 R344; 07 R222). -/
def cerRecord (s : State) (n : NewKey) : Option (Nat × KeyRec) :=
  if s.dict.cer.scope = 0xFFFF then (allocModule s).map (fun i => (i, moduleRecord s i n))
  else match newRecord s (hcb s) none s.dict.cer.scope 0 n with
    | some (r, .record phys _ _) => some (phys, r)
    | _ => none

/-- CER_CONFIRM (10 R342 step 4, R344): a matching KCV commits the record through a trusted line; with no slot or line the
ceremony aborts with RESOURCE, with another KCV with KCV_MISMATCH. -/
def confirmKey (s : State) (kcv : List Byte) : Nat × State :=
  let c := s.dict.cer
  if kcv.length ≠ 5 then (0x0007, s)
  else
  let s := setObj s 0x5100 0x06 kcv
  if kcv ≠ c.kcv then (0x0010, abortCeremony s)
  else match cerTemplate c.alg c.template with
    | none => (0x0012, abortCeremony s)
    | some h =>
      match cerRecord s (cerNewKey c h) with
      | none => (0x0012, abortCeremony s)
      | some (phys, r) =>
        match trustedCommit s phys r with
        | none => (0x0012, abortCeremony s)
        | some t => (0, modCer t (fun x => { x with state := 3, key := [], result := r.handle }))

/-- A custodian object of the ceremony: written from a custodian session of its scope, in a state that takes it (10 R349).
The code of R334 else. -/
def cerBar (s : State) (path : Path) (state : Nat) : Nat :=
  match custodianOf s path with
  | none => 0x0005
  | some (scope, _) =>
    if cerBusy s ∧ scope ≠ s.dict.cer.scope then 0x0005 else if s.dict.cer.state ≠ state then 0x0006 else 0

/-- CER_COMPONENT (10 R342, R343). -/
def execCerComponent (path : Path) (value : List Byte) (s : State) : Host.Outcome State Fault Refusal :=
  done s (onWrite s path .rwb 0x5100 0x04 value (fun t =>
    let b := cerBar t path 1
    if b ≠ 0 then answer t path b []
    else
      let (r, u) := acceptComponent t path ((custodianOf t path).map (fun x => x.2) |>.getD 0) value
      answer u path r []))

/-- CER_CONFIRM (10 R342, R344). -/
def execCerConfirm (path : Path) (kcv : List Byte) (s : State) : Host.Outcome State Fault Refusal :=
  done s (onWrite s path .rwb 0x5100 0x06 kcv (fun t =>
    let b := cerBar t path 2
    if b ≠ 0 then answer t path b []
    else
      let (r, u) := confirmKey t kcv
      answer u path r []))

/-- A custodian session of another scope than the ceremony's (10 R349). -/
def cerForeign (s : State) (path : Path) : Bool :=
  match custodianOf s path with
  | some (scope, _) => cerBusy s && scope != s.dict.cer.scope
  | none => false

/-- CER_ABORT (10 R333, R345, R349): a custodian session of the scope or a manager session. With no ceremony only its value is
kept. -/
def execCerAbort (path : Path) (s : State) : Host.Outcome State Fault Refusal :=
  done s (onWrite s path .rwb 0x5100 0x08 (leBytes 1 1) (fun t =>
    if cerForeign t path then answer t path 0x0005 []
    else answer (abortCeremony (setObj t 0x5100 0x08 (leBytes 1 1))) path 0 []))

/-- CER_TIMEOUT (10 R345): CER_TIMEOUT_S of operating time after the opening. -/
def execCerTimeout (s : State) : Host.Outcome State Fault Refusal :=
  done s (if cerBusy s then
      abortCeremony (advanceOp s (s.dict.cer.opened + 1000 * objNat s 0x5100 0x09 1800))
    else s)

end Sys2Proof.Machine
end

