-- ==== Sys2Proof/Machine/EvrOps.lean ====
section
/-!
DEFINITION. The recorder's flush, carriers, anchors, memory failures and reads (14 R413 to R423).
-/

namespace Sys2Proof.Machine

open Sys2Proof

/-- EVR_FLUSH (14 R415, R417, R418): in BUFFERED mode the buffer is written in SEQ order 1 s after the last flush; the other triggers
flush it in the steps that bring them. -/
def execEvrFlush (s : State) : Host.Outcome State Fault Refusal :=
  done s (if s.evr.mode ≠ 0 then s
    else
      let t := advanceTo s (s.evr.lastFlush + 1000000)
      modEvr t (fun e => evrFlushAll e t.now))

/-- The µs until a bucket holds a token. -/
def tokenWait (l : EvLimit) : Nat := if 1000 ≤ l.tokens then 0 else cdiv ((1000 - l.tokens) * 1000) l.rate

/-- The severity of a carrier: its code's, and for a tamper code a free value among those of the ranks (14 R412, R420; log
52). -/
def carrierSev (s : State) (code : Nat) : Nat × State :=
  if 0x6000 ≤ code ∧ code ≤ 0x600A then
    let (v, t) := takeFree s
    ([2, 4, 5, 6, 7].getD (v % 5) 2, t)
  else (evSeverity code, s)

/-- Write the carrier of a code: CARRIER 1, DATA zero; the spec names no source for it (14 R420; log 52). -/
def writeCarrier (s : State) (code : Nat) : State :=
  let l := evRefill s (evLimitOf s code)
  if l.tokens < 1000 then s
  else
    let (sev, s1) := carrierSev s code
    let (k, s2) := takeFree s1
    let (n, s3) := takeFree s2
    let l' := { l with tokens := l.tokens - 1000, pending := 0 }
    admitRec (modEvr s3 (fun e => { e with limits := tblSet e.limits code l' }))
      { seq := 0, code := code, severity := sev, carrier := true, nightside := false, isVolatile := false, kind := k % 11,
        source := n % 65536, opTime := s.evr.opMs, powerCycles := s.evr.powerCycles, suppressed := l.pending, data := zeros 28 }

/-- EVR_CARRIER (14 R420): 1 s after the last event of a code with a pending count, as soon as a token is there. -/
def execEvrCarrier (code : Nat) (s : State) : Host.Outcome State Fault Refusal :=
  done s
    (let l := evLimitOf s code
     if !evCodes.contains code ∨ l.pending = 0 then s
     else
       let s1 := advanceTo s (l.lastEvent + 1000000)
       let s2 := elapse s1 (tokenWait (evRefill s1 (evLimitOf s1 code)))
       writeCarrier s2 code)

/-- An anchor record (14 R422). -/
def recordAnchor (s : State) (wall prev setter kind : Nat) : State :=
  record (modEvr s (fun e => { e with lastAnchor := e.opMs })) 0x1003 0 0
    (leBytes 6 wall ++ leBytes 6 prev ++ leBytes 1 setter ++ leBytes 1 kind)

/-- EVR_ANCHOR (14 R422): 24 operating hours after the last anchor while the clock is set. -/
def execEvrAnchor (s : State) : Host.Outcome State Fault Refusal :=
  done s (if s.evr.wall.isNone then s
    else
      let t := advanceOp s (s.evr.lastAnchor + 86400000)
      recordAnchor t (wallNow t) (wallNow t) 0xFF 2)

/-- Set the wall clock and record its anchor (14 R422). -/
def setWall (s : State) (path : Path) (ms : Nat) : State :=
  let prev := wallNow s
  let kind := if s.evr.wall.isNone then 3 else if ms < prev then 1 else 0
  recordAnchor (modEvr s (fun e => { e with wall := some (ms, e.opMs) })) ms prev (pathNo path) kind

/-- EVR_WALL_CLOCK (14 R422, R425). -/
def execEvrWallClock (path : Path) (ms : Nat) (s : State) : Host.Outcome State Fault Refusal :=
  done s (onWrite s path .rw 0x7000 0x0B (leBytes 6 ms) (fun t =>
    if 2 ^ 48 ≤ ms then answer t path 0x0008 [] else answer (setWall t path ms) path 0 []))

/-- Insert a record by SEQ. -/
def insertRec (r : EvRec) (l : List EvRec) : List EvRec :=
  match l with
  | [] => [r]
  | x :: k => if r.seq < x.seq then r :: l else x :: insertRec r k

/-- EVR_RECORDS (14 R421): up to 64 held records from the cursor on, in increasing SEQ; in VOLATILE_ONLY those of the
buffer (14 R423). -/
def recordsFrom (s : State) (cursor : Nat) : List Byte :=
  let l := (if s.evr.mode = 2 then s.evr.buffer else s.evr.held).filter (fun r => decide (cursor ≤ r.seq))
  (((l.foldl (fun m r => insertRec r m) []).take 64).map evBytes).flatten

/-- RECORDER_MEM_FAIL (14 R423; 09 R316): the copy on a device fails; with both gone the mode is VOLATILE_ONLY. -/
def execRecorderMemFail (dev : Nat) (s : State) : Host.Outcome State Fault Refusal :=
  guardUnit (decide (dev < 2)) dev s
    (if (if dev = 0 then !s.evr.devA else !s.evr.devB) then s
     else
       let s1 := raiseModule (modEvr s (fun e => if dev = 0 then { e with devA := false } else { e with devB := false })) 0x6C
       let status := leBytes 1 (evrModeOf s1) ++ leBytes 1 (b2n s1.evr.devA + 2 * b2n s1.evr.devB)
       if s1.evr.devA ∨ s1.evr.devB then record s1 0x7002 0 0 status
       else
         let s2 := record (settleMode s1) 0x7003 0 0 status
         nsAppend s2 (nsRec s2 10 1 1 0 0xEC03 0))

/-- OP_TIME_SAVE (14 R413): 1 s of operating time after the last one. -/
def execOpTimeSave (s : State) : Host.Outcome State Fault Refusal :=
  done s (if s.power.main then modEvr (advanceOp s (s.evr.saved + 1000)) (fun e => { e with saved := e.opMs }) else s)

end Sys2Proof.Machine
end

