-- ==== Sys2Proof/Machine/Apply.lean ====
section
/-!
DEFINITION. What a write of an object checks and does: ranges, the states that forbid it, its effect, and the quorum that
applies an RWQ write (10 R328, R334, R336 to R341; 12 R381; 14 R420).
-/

namespace Sys2Proof.Machine

open Sys2Proof

/-- A roster or console entry: all zero, or enrolled with its reserved bytes zero and a key only for each enrolled algorithm
(10 R336). -/
def entryOk (v : List Byte) : Bool :=
  allZero v ||
    (field v 0 1 == 1 && [1, 2, 3].contains (field v 1 1) && allZero (slice v 2 6) &&
      (bit (field v 1 1) 0 || allZero (slice v 0x18 97)) && (bit (field v 1 1) 1 || allZero (slice v 0x79 1952)))

/-- The role, scope and index that an entry authenticates (10 R336, R349). -/
def entryObj (idx sub : Nat) : Option (Nat × Nat × Nat) :=
  if idx = 0x1120 then some (1, 0xFFFF, sub - 1)
  else if idx = 0x5200 ∧ 0x10 ≤ sub then some (2, 0xFFFF, sub - 0x10)
  else if 0x4000 ≤ idx ∧ idx ≤ 0x4FFF ∧ 0xF0 ≤ sub then some (2, idx - 0x4000, sub - 0xF0)
  else none

/-- A removal that would leave the roster of a scope below its M (10 R336). -/
def removesQuorum (s : State) (idx sub : Nat) (v : List Byte) : Bool :=
  match entryObj idx sub with
  | some (2, scope, i) =>
    let r := rosterOf s scope
    allZero v && r.contains i && decide (r.length - 1 < quorumM s scope)
  | _ => false

/-- A value of EVR_LIMIT: a code of R414, RATE and BURST in range, and above the floors for severities 6 and 7 and for
every tamper code (14 R420, R425). -/
def limitOk (v : List Byte) : Bool :=
  let code := field v 0 2
  let rate := field v 2 2
  let burst := field v 4 2
  let floor := decide (0x6000 ≤ code ∧ code ≤ 0x600A) || decide (6 ≤ evSeverity code)
  evCodes.contains code && decide (1 ≤ rate ∧ rate ≤ 1000 ∧ 1 ≤ burst ∧ burst ≤ 1000) &&
    (!floor || decide (10 ≤ rate ∧ 64 ≤ burst))

/-- A value of the right length lies in its object's range (10 R328, R334). -/
def inValues (s : State) (idx sub : Nat) (o : Obj) (v : List Byte) : Bool :=
  let n := leNat v
  if (entryObj idx sub).isSome then entryOk v && !removesQuorum s idx sub v
  else if idx = 0x7010 ∧ sub = 2 then limitOk v
  else if idx = 0x7010 ∧ sub = 1 then evCodes.contains n
  else if idx = 0x1100 ∧ sub = 2 then [2, 4, 5, 8].contains n
  else if idx = 0x2040 ∧ sub = 1 then decide (n < 4096) || n == 0xFFFF
  else if idx = 0x5100 ∧ sub = 1 then cerOpenOk v
  else if idx = 0x5210 ∧ sub = 1 then allZero (slice v 5 3)
  else if idx = 0x3020 ∨ (0x4000 ≤ idx ∧ idx ≤ 0x4FFF ∧ sub = 0x30) then decide (n < 4)
  else if o.ty = 9 ∨ o.ty = 11 then true
  else decide (o.lo ≤ n ∧ n ≤ o.hi)

/-- TYPE_LENGTH or OUT_OF_RANGE, else 0 (10 R334). -/
def valueCode (s : State) (idx sub : Nat) (o : Obj) (v : List Byte) : Nat :=
  if (if o.var then o.len < v.length else v.length ≠ o.len) then 0x0007
  else if !inValues s idx sub o v then 0x0008
  else 0

/-- Settings of a partition that are fixed at its creation (08 R277). -/
def setBefore (sub : Nat) : Bool := among [0x10, 0x12, 0x20, 0x21, 0x22, 0x23] sub

/-- ACCESS_DENIED by the owning chapter in the present state (08 R277; 12 R395; 17 R470). -/
def accessBar (s : State) (idx sub : Nat) : Bool :=
  if 0x4000 ≤ idx ∧ idx ≤ 0x4FFF then setBefore sub && (partOf s (idx - 0x4000)).created
  else if 0x6010 ≤ idx ∧ idx ≤ 0x601A then idx == 0x6010 || (decide (0x6019 ≤ idx) && decide (sub ≤ 2))
  else if idx = 0xA0F0 then !atbFull s
  else false

/-- INVALID_STATE for a value: an attestation scope that is no created partition (11 R377). -/
def stateBar (s : State) (idx sub : Nat) (v : List Byte) : Bool :=
  idx == 0x2040 && sub == 1 && leNat v != 0xFFFF && !(partOf s (leNat v)).created

/-- A custodian's approvals of every pending request of a scope are dropped (10 R341). -/
def dropApprovals (s : State) (scope i : Nat) : State :=
  let f (r : QReq) : QReq := if r.state = 1 ∧ r.scope = scope then { r with approvals := r.approvals.filter (fun x => x != i) } else r
  modDict s (fun d => { d with reqs := d.reqs.map (fun x => (x.1, f x.2)) })

/-- An entry is rewritten or cleared: the sessions that it authenticated end, and the custodian's approvals are dropped (10
R326, R341). -/
def rewriteEntry (s : State) (idx sub : Nat) (v : List Byte) : State :=
  let t := setObj s idx sub v
  match entryObj idx sub with
  | none => t
  | some (role, scope, i) =>
    let u := endSessions t (fun x => x.role == role && x.index == i && (role == 1 || x.scope == scope))
    if role = 2 then dropApprovals u scope i else u

/-- Put a path's own value into a list of them. -/
def setPath (l : List (Path × Nat)) (path : Path) (v : Nat) : List (Path × Nat) := (path, v) :: l.filter (fun x => x.1 != path)

/-- The limits of a code (14 R420): the bucket keeps its tokens up to the new depth. -/
def setLimit (s : State) (v : List Byte) : State :=
  let code := field v 0 2
  let l := evRefill s (evLimitOf s code)
  let burst := field v 4 2
  modEvr s (fun e => { e with
    limits := tblSet e.limits code { l with rate := field v 2 2, burst := burst, tokens := min l.tokens (1000 * burst) } })

/-- The effect of a write of an object that has no row of its own: the object takes the value, and what follows from it. -/
def applyObj (s : State) (path : Path) (idx sub : Nat) (v : List Byte) : State :=
  let n := leNat v
  if (entryObj idx sub).isSome then rewriteEntry s idx sub v
  else if 0x6010 ≤ idx ∧ idx ≤ 0x601A then
    let i := idx - 0x6010
    if sub = 3 then modSrc s i (fun x => x.withResp n)
    else modSrc s i (fun x => if sub = 1 then x.withK n else x.withW n)
  else if idx = 0x7000 ∧ sub = 1 then settleMode (setObj s idx sub v)
  else if idx = 0x7001 ∧ sub = 2 then modDict s (fun d => { d with cursors := setPath d.cursors path n })
  else if idx = 0x7010 ∧ sub = 1 then modDict s (fun d => { d with limitSel := setPath d.limitSel path n })
  else if idx = 0x7010 ∧ sub = 2 then setLimit s v
  else if 0x8000 ≤ idx ∧ idx ≤ 0x800F ∧ sub = 5 then modTile s (idx - 0x8000) (fun t => { t with wakeEn := BitVec.ofNat 3 n })
  else if 0x4000 ≤ idx ∧ idx ≤ 0x4FFF then pushBounds (setObj s idx sub v) (idx - 0x4000)
  else setObj s idx sub v

/-- An RWQ write as it is applied, its state checks made again (10 R339): the objects with rows of their own act, the others
take their value. -/
def applyRwq (s : State) (path : Path) (idx sub : Nat) (v : List Byte) : Nat × State :=
  let n := leNat v
  if 0x4000 ≤ idx ∧ idx ≤ 0x4FFF ∧ sub = 0xE0 then applyRemove (idx - 0x4000) s
  else if idx = 0x5011 ∧ sub = 2 then (if identityHandle s then (0x0006, s) else (0, applyModKeyOp s n none))
  else if idx = 0x2000 ∧ sub = 4 then applyLcTarget n s
  else if idx = 0x2020 ∧ sub = 6 then applyActivate s
  else if idx = 0x6000 ∧ sub = 4 then applyHaltRelease s
  else if idx = 0x6800 ∧ sub = 7 then applyRawMode (n == 1) s
  else if idx = 0x5100 ∧ sub = 1 then applyCerOpen v s
  else if accessBar s idx sub then (0x0006, s)
  else if removesQuorum s idx sub v then (0x0008, s)
  else (0, applyObj s path idx sub v)

/-- An RWQ write whose right has been checked (10 R338): ACCESS_DENIED through the tunnel before FIELD and by the owning
chapter, then the value, then the life cycle; applied at once, or recorded. -/
def serveRwq (s : State) (path : Path) (idx sub : Nat) (o : Obj) (v : List Byte) : State :=
  let c := valueCode s idx sub o v
  if (rwqAtOnce s ∧ path = .tunnel) ∨ accessBar s idx sub then answer s path 0x0006 []
  else if c ≠ 0 then answer s path c []
  else if 3 < lifeCycle s then answer s path 0x0009 []
  else if idx = 0x5100 ∧ sub = 1 ∧ cerBusy s then answer s path 0x000B []
  else settleRwq s path idx sub v (fun t => applyRwq t path idx sub v)

/-- CER_OPEN (10 R337, R342, R343, R349). -/
def execCerOpen (path : Path) (value : List Byte) (s : State) : Host.Outcome State Fault Refusal :=
  done s (onWrite s path .rwq 0x5100 0x01 value (fun t => serveRwq t path 0x5100 0x01 (octets 24 .rwq) value))

/-- Change a request. -/
def modReq (s : State) (slot : Nat) (f : QReq → QReq) : State :=
  modDict s (fun d => { d with reqs := d.reqs.map (fun x => if x.1 = slot then (x.1, f x.2) else x) })

/-- A pending request ends: expired, refused or withdrawn (10 R334, R341, R349). -/
def endReq (s : State) (slot state result : Nat) : State := modReq s slot (fun r => { r with state := state, result := result })

/-- The last record taken of a code, as the bytes a NOTIFY carries. -/
def lastRecord (s : State) : List Byte :=
  match (s.evr.buffer ++ s.evr.held).find? (fun r => r.seq == s.evr.seq) with
  | some r => evBytes r
  | none => []

/-- QUORUM_APPLIED is recorded, and its NOTIFY goes to the proposing session if that is still open (10 R340; 14 R414). -/
def reportApplied (s : State) (r : QReq) : State :=
  let t := record s 0x5002 0 0 (leBytes 4 r.reqNo)
  match r.origin with
  | .tunnel => t
  | .session sid => if !r.live ∨ objNat t 0x1110 0x04 5 ≤ evSeverity 0x5002 then t else sendSession t 0x5 sid (lastRecord t)

/-- A request whose approvals reached M is applied, once (10 R340, R341): the value must still match its digest. -/
def applyReq (s : State) (slot : Nat) (r : QReq) : State :=
  let (c, t) := if sha3_384 r.value = r.digest then applyRwq s r.origin r.index r.sub r.value else (0x000E, s)
  reportApplied (endReq t slot (if c = 0 then 2 else 3) c) r

/-- A request's approvals reach the greater of M at proposal and M now (10 R341). -/
def quorumReached (s : State) (r : QReq) : Bool := decide (max r.need (quorumM s r.scope) ≤ r.approvals.length)

/-- The tick that applies a request has come: it is applied, unless it ended or lost approvals meanwhile (10 R341, R345; log 57). -/
def applyDue (s : State) (slot : Nat) : State :=
  match tblFind s.dict.reqs slot with
  | none => s
  | some r =>
    if r.state = 1 ∧ r.due.any (fun d => decide (d ≤ s.now)) then
      (if quorumReached s r then applyReq s slot r else modReq s slot (fun x => { x with due := none }))
    else s

/-- Every request whose tick has come. -/
def applyAllDue (s : State) : State := (s.dict.reqs.map (fun x => x.1)).foldl applyDue s

/-- An approval that passes (10 R340, R341): repeated ones change nothing; the first that completes the quorum has the next tick apply
the value. -/
def approve (s : State) (slot : Nat) (r : QReq) (who : Nat) : State :=
  if r.approvals.contains who then s
  else
    let r' := { r with approvals := insertAsc who r.approvals }
    modReq s slot (fun _ =>
      if r.state = 1 ∧ r.due = none ∧ quorumReached s r' then { r' with due := some (nextTick s) } else r')

/-- Expiry is examined before an approval; a quorum completed before is applied all the same (10 R341). -/
def expireReq (s : State) (slot : Nat) : State :=
  match tblFind s.dict.reqs slot with
  | some r => if r.state = 1 ∧ r.due = none ∧ r.expires ≤ s.evr.opMs then endReq s slot 4 0x000D else s
  | none => s

/-- The request that a number names, where its slot still holds it. -/
def reqNamed (s : State) (reqNo : Nat) : Option QReq := (tblFind s.dict.reqs (reqNo % 64)).filter (fun r => r.reqNo == reqNo)

/-- The session may not approve this request with this INDEX: no custodian, another scope's, or another custodian's INDEX (10 R340). -/
def approveDenied (s : State) (path : Path) (reqNo index : Nat) : Bool :=
  match custodianOf s path, reqNamed s reqNo with
  | none, _ => true
  | some (scope, who), some r => scope != r.scope || index != who
  | some _, none => false

/-- A custodian's approval once the right to write it is checked (10 R340, R341). -/
def serveApprove (s0 : State) (path : Path) (reqNo index : Nat) (sigEc sigPq : List Byte) : State :=
  let slot := reqNo % 64
  let s := expireReq s0 slot
  if approveDenied s path reqNo index then answer s path 0x0005 []
  else match custodianOf s path, reqNamed s reqNo with
  | some (scope, who), some r =>
    if r.state = 4 then answer s path 0x000D []
    else if r.state = 3 ∨ r.state = 5 then answer s path 0x000E []
    else if !entrySigsOk (rosterEntry s scope who) (reqStatement s r) sigEc sigPq then answer s path 0x000F []
    else answer (approve s slot r who) path 0 []
  | _, _ => answer s path 0x0008 []

/-- QRM_APPROVE (10 R340, R341). -/
def execQrmApprove (path : Path) (reqNo index : Nat) (sigEc sigPq : List Byte) (s : State) : Host.Outcome State Fault Refusal :=
  done s (onWrite s path .rwb 0x5210 0x01 (leBytes 4 reqNo ++ leBytes 1 index ++ zeros 3 ++ sigEc ++ sigPq) (fun t =>
    serveApprove t path reqNo index sigEc sigPq))

/-- Why a path may not withdraw the request of a slot: ACCESS_DENIED with none pending, ROLE_DENIED for another path, else 0 (10 R341,
R349). -/
def withdrawBar (s : State) (path : Path) (slot : Nat) : Nat :=
  match tblFind s.dict.reqs slot with
  | none => 0x0006
  | some r => if r.origin ≠ path ∨ !r.live then 0x0005 else if r.state ≠ 1 then 0x0006 else 0

/-- QRQ_WITHDRAW (10 R330, R341, R349): a WO object, written by the proposing path only. -/
def execQrqWithdraw (path : Path) (slot : Nat) (s : State) : Host.Outcome State Fault Refusal :=
  guardUnit (decide (slot < 64)) slot s (onWrite s path .wo (0x5220 + slot) 0x07 (leBytes 1 1) (fun t =>
    if withdrawBar t path slot = 0 then answer (endReq t slot 5 0x000E) path 0 [] else answer t path (withdrawBar t path slot) []))

/-- QUORUM_EXPIRY (10 R339, R341): operating time reaches EXPIRES; a quorum completed before is applied. -/
def execQuorumExpiry (slot : Nat) (s : State) : Host.Outcome State Fault Refusal :=
  guardUnit (decide (slot < 64)) slot s
    (match tblFind s.dict.reqs slot with
    | some r =>
      if r.state ≠ 1 then s
      else if r.due.isSome then applyDue (advanceTo s (r.due.getD 0)) slot
      else endReq (advanceOp s r.expires) slot 4 0x000D
    | none => s)

end Sys2Proof.Machine
end

