-- ==== Sys2Proof/Machine/Words.lean ====
section
/-!
DEFINITION. How an Eloa core executes a word: a long operation or a pair, its faults, and its commit (09 R287 to R292,
R304). A row of the table that is an Eloaquel operation acts as core c executing that word at its pc (log 37).
-/

namespace Sys2Proof.Machine

open Sys2Proof

/-- What an operation does when its word commits: registers in the order they are written, flags, a store. -/
structure SlotRes where
  regs  : List (Nat × Word)
  flags : FlagSet
  store : Option (Nat × Nat × Nat)

/-- Nothing. -/
def SlotRes.none : SlotRes := { regs := [], flags := FlagSet.keep, store := Option.none }

/-- A result in one register with flags. -/
def SlotRes.alu (rd : Nat) (r : Alu) : SlotRes := { regs := [(rd, r.1)], flags := r.2, store := Option.none }

/-- A result in one register alone. -/
def SlotRes.val (rd : Nat) (v : Word) : SlotRes := { SlotRes.none with regs := [(rd, v)] }

/-- A store of n bytes. -/
def SlotRes.put (n a : Nat) (v : Word) : SlotRes := { SlotRes.none with store := some (n, a, v.toNat) }

/-- Why a word does not complete, or what it does and the state its loads leave. -/
abbrev WordRes := Except Stop (SlotRes × State)

/-- The register fields of a long word and the bits that its format and opcode leave zero (09 R287, R291): the fields rd, ra and rb that
name registers, and a mask of zero bits. None for an opcode that is not listed. -/
def longFormat (op : Nat) : Option (List Nat × Nat) :=
  let rd := 19
  let ra := 14
  let rb := 9
  if op = 0x00 ∨ (0x44 ≤ op ∧ op ≤ 0x46) then some ([], 0xFFFFFF)
  else if (0x01 ≤ op ∧ op ≤ 0x14) ∨ op = 0x17 ∨ op = 0x52 then some ([rd, ra, rb], 0x1FF)
  else if op = 0x15 ∨ op = 0x16 then some ([ra, rb], 0xF801FF)
  else if op = 0x18 ∨ op = 0x51 then some ([rd, ra], 0x3FFF)
  else if (0x20 ≤ op ∧ op ≤ 0x23) ∨ (0x30 ≤ op ∧ op ≤ 0x37) then some ([rd, ra], 0)
  else if 0x24 ≤ op ∧ op ≤ 0x27 then some ([rd, ra], 0x3FE0)
  else if op = 0x28 then some ([ra], 0xF80000)
  else if op = 0x2C then some ([rd], 0)
  else if op = 0x2D then some ([rd], 0x70000)
  else if op = 0x40 then some ([], 0)
  else if op = 0x41 then some ([], 0xF00000)
  else if op = 0x42 ∨ op = 0x43 ∨ op = 0x54 then some ([ra], 0xF83FFF)
  else if op = 0x48 then some ([rd], 0x3FFF)
  else if op = 0x49 then some ([ra], 0x3FFF)
  else if op = 0x50 then some ([rd, ra, rb], 0)
  else if op = 0x53 then some ([rd], 0x7FFFF)
  else if op = 0x55 then some ([], 0xFF0000)
  else none

/-- A long word's encoding is defined: its opcode, its register and control-register numbers, its zero fields, and an even ra in KOP (09
R287, R290, R291). -/
def longDefined (w : Nat) : Bool :=
  let op := bits w 30 24
  match longFormat op with
  | none => false
  | some (rs, rsvd) =>
    rs.all (fun i => regOk (bits w (i + 4) i)) && decide (Nat.land w rsvd = 0) &&
      (op != 0x48 || decide (bits w 18 14 ≤ 13)) && (op != 0x49 || decide (bits w 23 19 ≤ 13)) &&
      (op != 0x50 || decide (bits w 18 14 % 2 = 0 ∧ bits w 18 14 < 24))

/-- A short operation's encoding is defined: sop 31 is not, a short NOP has its fields zero, and register numbers are named (09 R287, R290,
R292). -/
def slotDefined (v : Nat) : Bool :=
  let op := bits v 14 10
  let rd := regOk (bits v 9 5)
  if op = 31 then false
  else if op = 0 then decide (bits v 9 0 = 0)
  else if (11 ≤ op ∧ op ≤ 16) ∨ op = 21 ∨ op = 22 then rd
  else rd && regOk (bits v 4 0)

/-- An instruction word's encoding is defined: a long operation, or a pair with bit 15 clear (09 R287, R290). -/
def wordDefined (w : Nat) : Bool :=
  if bit w 31 then !bit w 15 && slotDefined (bits w 30 16) && slotDefined (bits w 14 0) else longDefined w

/-- Is every register of the list defined (09 R290)? -/
def regsOk (l : List Reg) : Bool := l.all (fun r => regOk r.toNat)

/-- The value of a register (09 R279). -/
def reg (k : EloaCore) (r : Nat) : Word :=
  match readReg k r with
  | .ok v => v
  | .error _ => 0

/-- The registers of a result are written. -/
def writeRegs (k : EloaCore) (l : List (Nat × Word)) : EloaCore := l.foldl (fun x y => writeReg x y.1 y.2) k

/-- Commit a word on core c: registers and flags, the pc moved on, n cycles, then the store. -/
def commitWord (s : State) (c n : Nat) (r : SlotRes) : Except Stop State :=
  let t := modCore s c (fun k =>
    let k1 := writeRegs { k with ctl := r.flags.apply k.ctl } r.regs
    addCycles { k1 with pc := k1.pc + 4 } n)
  match r.store with
  | none => .ok t
  | some (size, a, v) => storeAt t c a size v

/-- The fault of fetching at the pc: outside instruction memory, not at a word, or a word whose encoding is not defined (09 R290, R305; log
36, 37). -/
def fetchFault (c : Nat) (k : EloaCore) : Option Nat :=
  let pc := k.pc.toNat
  if pc % 4 ≠ 0 then some fltAlign
  else if codeSize c ≤ pc then some fltRange
  else if !wordDefined (leNat (Memory.read k.code pc 4)) then some fltUndef
  else none

/-- A core that a debugger steps is halted again after its word (11 R372). -/
def stepped (s : State) (c : Nat) : State :=
  if (coreOf s c).dbg = 2 then modCore s c (fun k => { k with dbg := 1 }) else s

/-- Core c takes a stop: a fault as the spec gives it. -/
def stopWord (s : State) (c : Nat) (x : Stop) : Host.Outcome State Fault Refusal :=
  match x with
  | .fault n => done s (stepped (takeFault s c n) c)

/-- Core c executes a word: f gives the state after it. A core that runs no words executes none (log 10). A fault leaves
the word without effect (09 R304). Timers are looked at once the word's cycles have been counted. -/
def execWord (c : Nat) (f : State → Except Stop State) (s : State) : Host.Outcome State Fault Refusal :=
  if !coreOk c then .fault (.noSuchUnit c)
  else if !coreRuns s c then done s s
  else match fetchFault c (coreOf s c) with
    | some n => done s (stepped (takeFault s c n) c)
    | none =>
      match f s with
      | .error x => stopWord s c x
      | .ok t => done s (stepped (coreTimers t c) c)

/-- A word that commits a result in n cycles. -/
def plainWord (c n : Nat) (f : State → EloaCore → WordRes) (s : State) : Except Stop State :=
  match f s (coreOf s c) with
  | .error x => .error x
  | .ok (r, t) => commitWord t c n r

/-- Undefined unless every register field names a register (09 R290). -/
def withRegs {α : Type} (l : List Reg) (x : Except Stop α) : Except Stop α :=
  if regsOk l then x else .error (.fault fltUndef)

/-- A long operation of format LR with operands A, B and D (09 R287, R291). -/
def longR (c n : Nat) (rd ra rb : Reg) (op : CoreCtl → Word → Word → Word → Alu) (s : State) : Except Stop State :=
  plainWord c n (fun s k => withRegs [rd, ra, rb]
    (.ok (SlotRes.alu rd.toNat (op k.ctl (reg k ra.toNat) (reg k rb.toNat) (reg k rd.toNat)), s))) s

/-- A long compare: the result is discarded (09 R291). -/
def longC (c : Nat) (ra rb : Reg) (op : Word → Word → Alu) (s : State) : Except Stop State :=
  plainWord c 1 (fun s k => withRegs [ra, rb]
    (.ok ({ SlotRes.none with flags := (op (reg k ra.toNat) (reg k rb.toNat)).2 }, s))) s

/-- A long operation of format LI (09 R287, R291). -/
def longI (c : Nat) (rd ra : Reg) (imm : BitVec 14) (op : Word → BitVec 14 → Alu) (s : State) : Except Stop State :=
  plainWord c 1 (fun s k => withRegs [rd, ra] (.ok (SlotRes.alu rd.toNat (op (reg k ra.toNat) imm), s))) s

/-- A shift or rotate by imm14[4:0]; bits [13:5] must be zero (09 R290, R291). -/
def longS (c : Nat) (rd ra : Reg) (imm : BitVec 14) (op : Word → Nat → Alu) (s : State) : Except Stop State :=
  if 32 ≤ imm.toNat then .error (.fault fltUndef) else longI c rd ra imm (fun a i => op a i.toNat) s

/-- The address of a load or store: A + imm14 (09 R291). -/
def dataAddr (k : EloaCore) (ra : Reg) (imm : BitVec 14) : Nat := (reg k ra.toNat + imm.signExtend 32).toNat

/-- A load of n bytes, zero-extended or sign-extended (09 R291). -/
def longLoad (c n : Nat) (signed : Bool) (rd ra : Reg) (imm : BitVec 14) (s : State) : Except Stop State :=
  plainWord c 2 (fun s k => withRegs [rd, ra]
    (match loadAt s c (dataAddr k ra imm) n with
    | .error x => .error x
    | .ok (v, t) =>
      .ok (SlotRes.val rd.toNat (if signed then (BitVec.ofNat (8 * n) v).signExtend 32 else BitVec.ofNat 32 v), t))) s

/-- A store of the low n bytes of D (09 R291). -/
def longStore (c n : Nat) (rd ra : Reg) (imm : BitVec 14) (s : State) : Except Stop State :=
  plainWord c 1 (fun s k => withRegs [rd, ra] (.ok (SlotRes.put n (dataAddr k ra imm) (reg k rd.toNat), s))) s

/-- The operations of 09 R292 by their sop: what they read and write, for the checks of R289. -/
structure SopUse where
  readsD  : Bool
  readsA  : Bool
  writesD : Bool
  flags   : Nat
  mem     : Bool
  stack   : Bool

/-- Flag sets of 09 R292 as bits: Z 1, N 2, C 4, V 8. -/
def sopUse (sop : Nat) : SopUse :=
  let u (d a w : Bool) (f : Nat) : SopUse :=
    { readsD := d, readsA := a, writesD := w, flags := f, mem := false, stack := false }
  match sop with
  | 1 => u false true true 0
  | 2 => u true true true 15
  | 3 => u true true true 15
  | 4 => u true true true 3
  | 5 => u true true true 3
  | 6 => u true true true 3
  | 7 => u false true true 3
  | 8 => u false true true 15
  | 9 => u true true false 15
  | 10 => u true true false 3
  | 11 => u true false true 15
  | 12 => u false false true 0
  | 13 => u true false true 7
  | 14 => u true false true 7
  | 15 => u true false true 7
  | 16 => u true false true 7
  | 17 => { u false true true 0 with mem := true }
  | 18 => { u true true false 0 with mem := true }
  | 19 => { u false true true 0 with mem := true }
  | 20 => { u true true false 0 with mem := true }
  | 21 => { u true false false 0 with mem := true, stack := true }
  | 22 => { u false false true 0 with mem := true, stack := true }
  | 23 => u false true true 0
  | 24 => u false true true 0
  | 25 => u false true true 0
  | 26 => u false true true 0
  | 27 => u false true true 0
  | 28 => u true true true 8
  | 29 => u false true true 8
  | 30 => u true true true 0
  | _ => u false false false 0

/-- The use of a slot. -/
def slotUse (x : Short) : SopUse := sopUse x.sop.toNat

/-- Registers a slot reads (09 R289). -/
def slotReads (x : Short) : List Nat :=
  (if (slotUse x).readsD then [x.rd.toNat] else []) ++ (if (slotUse x).readsA then [x.x.toNat] else []) ++ (if (slotUse x).stack then [24] else [])

/-- Registers a slot writes: ds with PUSH and POP (09 R289). -/
def slotWrites (x : Short) : List Nat :=
  (if (slotUse x).writesD then [x.rd.toNat] else []) ++ (if (slotUse x).stack then [24] else [])

/-- The four checks of independence (09 R289). -/
def pairDependent (a b : Short) : Bool :=
  (slotWrites a).any (fun r => (slotWrites b).contains r) || (slotWrites a).any (fun r => (slotReads b).contains r) ||
    ((slotUse a).flags &&& (slotUse b).flags) != 0 || ((slotUse a).mem && (slotUse b).mem)

/-- Does a slot load (09 R288)? -/
def slotLoads (x : Short) : Bool := x.sop == 17 || x.sop == 19 || x.sop == 22

/-- What PUSH does at ds: the word below is in data memory (09 R286). -/
def pushAt (c : Nat) (ds : Word) (v : Word) : Except Stop SlotRes :=
  let a := (ds - 4).toNat
  if ds.toNat % 4 ≠ 0 then .error (.fault fltAlign)
  else if dataSize c ≤ a then .error (.fault fltRange)
  else .ok { regs := [(24, ds - 4)], flags := FlagSet.keep, store := some (4, a, v.toNat) }

/-- What POP does at ds (09 R286): where it pops ds itself, the raised ds stands (log 38). -/
def popAt (k : EloaCore) (c rd : Nat) : Except Stop SlotRes :=
  let a := k.ds.toNat
  if a % 4 ≠ 0 then .error (.fault fltAlign)
  else if dataSize c ≤ a then .error (.fault fltRange)
  else .ok { SlotRes.none with
             regs := [(rd, BitVec.ofNat 32 (leNat (Memory.read k.mem a 4))), (24, k.ds + 4)] }

/-- A short load of n bytes at ra (09 R292). -/
def shortLoad (s : State) (c n rd a : Nat) : WordRes :=
  match loadAt s c a n with
  | .error x => .error x
  | .ok (v, t) => .ok (SlotRes.val rd (BitVec.ofNat 32 v), t)

/-- The register or memory result of a short operation that is no load and no stack operation (09 R292). -/
def shortAlu (k : CoreCtl) (sop rd : Nat) (d a : Word) (x : BitVec 5) : Option SlotRes :=
  let alu (r : Alu) : Option SlotRes := some (SlotRes.alu rd r)
  let flags (r : Alu) : Option SlotRes := some { SlotRes.none with flags := r.2 }
  let val (v : Word) : Option SlotRes := some (SlotRes.val rd v)
  match sop with
  | 0 => some SlotRes.none
  | 1 => val a
  | 2 => alu (aluAdd d a false)
  | 3 => alu (aluSub d a true)
  | 4 => alu (aluLogic (d &&& a))
  | 5 => alu (aluLogic (d ||| a))
  | 6 => alu (aluLogic (d ^^^ a))
  | 7 => alu (aluLogic (~~~a))
  | 8 => alu (aluSub 0 a true)
  | 9 => flags (aluSub d a true)
  | 10 => flags (aluLogic (d &&& a))
  | 11 => alu (aluAdd d (x.signExtend 32) false)
  | 12 => val (x.signExtend 32)
  | 13 => alu (aluShl d x.toNat)
  | 14 => alu (aluShr d x.toNat)
  | 15 => alu (aluSar d x.toNat)
  | 16 => alu (aluRor d x.toNat)
  | 23 => val (BitVec.ofNat 32 (b2n (parity 32 a)))
  | 24 => val (parBytes a)
  | 25 => val (revBlocks 32 a)
  | 26 => val (revBlocks 8 a)
  | 27 => val (byteSwap a)
  | 28 => alu (aluLuhn d a)
  | 29 => alu (aluDect k a)
  | 30 => val (crcSteps k d [BitVec.ofNat 8 a.toNat])
  | _ => none

/-- One slot of a pair on core c: UNDEF for an undefined sop or register or a NOP with a field that is not zero, a fault
of its access, or what it does (09 R288, R290, R292). -/
def slot (s : State) (c : Nat) (k : EloaCore) (x : Short) : WordRes :=
  let d := reg k x.rd.toNat
  let a := reg k x.x.toNat
  if ((slotReads x) ++ (slotWrites x)).any (fun r => !regOk r) ∨ (x.sop = 0 ∧ (x.rd ≠ 0 ∨ x.x ≠ 0)) then .error (.fault fltUndef)
  else match x.sop.toNat with
    | 17 => shortLoad s c 4 x.rd.toNat a.toNat
    | 18 => .ok (SlotRes.put 4 a.toNat d, s)
    | 19 => shortLoad s c 1 x.rd.toNat a.toNat
    | 20 => .ok (SlotRes.put 1 a.toNat d, s)
    | 21 => (match pushAt c k.ds d with
      | .error e => .error e
      | .ok r => .ok (r, s))
    | 22 => (match popAt k c x.rd.toNat with
      | .error e => .error e
      | .ok r => .ok (r, s))
    | n => (match shortAlu k.ctl n x.rd.toNat d a x.x with
      | some r => .ok (r, s)
      | none => .error (.fault fltUndef))

/-- A store's own fault, if it has one: it is a fault of its slot (09 R288). -/
def slotStore (s : State) (c : Nat) (r : SlotRes) : Option Stop :=
  match r.store with
  | none => none
  | some (n, a, v) =>
    match storeAt s c a n v with
    | .error e => some e
    | .ok _ => none

/-- Flags of two slots: no bit is written by both (09 R289). -/
def FlagSet.join (a b : FlagSet) : FlagSet :=
  { z := a.z <|> b.z, n := a.n <|> b.n, c := a.c <|> b.c, v := a.v <|> b.v, dz := a.dz <|> b.dz }

/-- A pair on core c (09 R288, R289): PAIRX before any other fault, slot A's fault before slot B's, then both commit. -/
def pairWord (c : Nat) (a b : Short) (s : State) : Except Stop State :=
  let k := coreOf s c
  if pairDependent a b then .error (.fault fltPairx)
  else match slot s c k a with
    | .error x => .error x
    | .ok (ra, s1) =>
      match slotStore s c ra with
      | some x => .error x
      | none =>
        match slot s1 c k b with
        | .error x => .error x
        | .ok (rb, s2) =>
          commitWord s2 c (if slotLoads a || slotLoads b then 2 else 1)
            { regs := ra.regs ++ rb.regs, flags := ra.flags.join rb.flags, store := ra.store <|> rb.store }

/-- The pair that a short form of the operation sop stands in (09 R287). -/
def shortWord (c : Nat) (sop : BitVec 5) (f : ShortForm) (s : State) : Except Stop State :=
  match f with
  | .slotA rd x b => pairWord c { sop := sop, rd := rd, x := x } b s
  | .slotB a rd x => pairWord c a { sop := sop, rd := rd, x := x } s

end Sys2Proof.Machine
end

