-- ==== Sys2Proof/Machine/Arith.lean ====
section
/-!
DEFINITION. Arithmetic, logic, shift, division and character operations of the Eloa cores (09 R291, R292, R294 to R298).
-/

namespace Sys2Proof.Machine

open Sys2Proof

/-- NOP: every field zero; the short form is slot A or B of a pair (09 R291, R292). -/
def execNop (c : Nat) (f : NopForm) (s : State) : Host.Outcome State Fault Refusal :=
  execWord c (match f with
    | .long => plainWord c 1 (fun s _ => .ok (SlotRes.none, s))
    | .short f => shortWord c 0 f) s

/-- ADD (09 R291, R294). -/
def execAdd (c : Nat) (f : RForm) (s : State) : Host.Outcome State Fault Refusal :=
  execWord c (match f with
    | .long rd ra rb => longR c 1 rd ra rb (fun _ a b _ => aluAdd a b false)
    | .short f => shortWord c 2 f) s

/-- ADC adds the carry (09 R291, R294). -/
def execAdc (c : Nat) (rd ra rb : Reg) (s : State) : Host.Outcome State Fault Refusal :=
  execWord c (longR c 1 rd ra rb (fun k a b _ => aluAdd a b k.c)) s

/-- SUB (09 R291, R294). -/
def execSub (c : Nat) (f : RForm) (s : State) : Host.Outcome State Fault Refusal :=
  execWord c (match f with
    | .long rd ra rb => longR c 1 rd ra rb (fun _ a b _ => aluSub a b true)
    | .short f => shortWord c 3 f) s

/-- SBC adds the inverse of B and the carry (09 R291, R294). -/
def execSbc (c : Nat) (rd ra rb : Reg) (s : State) : Host.Outcome State Fault Refusal :=
  execWord c (longR c 1 rd ra rb (fun k a b _ => aluSub a b k.c)) s

/-- AND (09 R291). -/
def execAnd (c : Nat) (f : RForm) (s : State) : Host.Outcome State Fault Refusal :=
  execWord c (match f with
    | .long rd ra rb => longR c 1 rd ra rb (fun _ a b _ => aluLogic (a &&& b))
    | .short f => shortWord c 4 f) s

/-- OR (09 R291). -/
def execOr (c : Nat) (f : RForm) (s : State) : Host.Outcome State Fault Refusal :=
  execWord c (match f with
    | .long rd ra rb => longR c 1 rd ra rb (fun _ a b _ => aluLogic (a ||| b))
    | .short f => shortWord c 5 f) s

/-- XOR (09 R291). -/
def execXor (c : Nat) (f : RForm) (s : State) : Host.Outcome State Fault Refusal :=
  execWord c (match f with
    | .long rd ra rb => longR c 1 rd ra rb (fun _ a b _ => aluLogic (a ^^^ b))
    | .short f => shortWord c 6 f) s

/-- ANDN is A AND NOT B (09 R291). -/
def execAndn (c : Nat) (rd ra rb : Reg) (s : State) : Host.Outcome State Fault Refusal :=
  execWord c (longR c 1 rd ra rb (fun _ a b _ => aluLogic (a &&& ~~~b))) s

/-- SHL by a 32-bit count (09 R295). -/
def execShl (c : Nat) (rd ra rb : Reg) (s : State) : Host.Outcome State Fault Refusal :=
  execWord c (longR c 1 rd ra rb (fun _ a b _ => aluShl a b.toNat)) s

/-- SHR by a 32-bit count (09 R295). -/
def execShr (c : Nat) (rd ra rb : Reg) (s : State) : Host.Outcome State Fault Refusal :=
  execWord c (longR c 1 rd ra rb (fun _ a b _ => aluShr a b.toNat)) s

/-- SAR by a 32-bit count (09 R295). -/
def execSar (c : Nat) (rd ra rb : Reg) (s : State) : Host.Outcome State Fault Refusal :=
  execWord c (longR c 1 rd ra rb (fun _ a b _ => aluSar a b.toNat)) s

/-- ROR by B mod 32 (09 R295). -/
def execRor (c : Nat) (rd ra rb : Reg) (s : State) : Host.Outcome State Fault Refusal :=
  execWord c (longR c 1 rd ra rb (fun _ a b _ => aluRor a b.toNat)) s

/-- ROL by B mod 32 (09 R295). -/
def execRol (c : Nat) (rd ra rb : Reg) (s : State) : Host.Outcome State Fault Refusal :=
  execWord c (longR c 1 rd ra rb (fun _ a b _ => aluRol a b.toNat)) s

/-- MUL: the low 32 bits (09 R291). -/
def execMul (c : Nat) (rd ra rb : Reg) (s : State) : Host.Outcome State Fault Refusal :=
  execWord c (longR c 3 rd ra rb (fun _ a b _ => aluLogic (a * b))) s

/-- MULHU: the high 32 bits of the unsigned product (09 R291). -/
def execMulhu (c : Nat) (rd ra rb : Reg) (s : State) : Host.Outcome State Fault Refusal :=
  execWord c (longR c 3 rd ra rb (fun _ a b _ => aluLogic (mulHu a b))) s

/-- MULHS: the high 32 bits of the signed product (09 R291). -/
def execMulhs (c : Nat) (rd ra rb : Reg) (s : State) : Host.Outcome State Fault Refusal :=
  execWord c (longR c 3 rd ra rb (fun _ a b _ => aluLogic (mulHs a b))) s

/-- DIVU (09 R295). -/
def execDivu (c : Nat) (rd ra rb : Reg) (s : State) : Host.Outcome State Fault Refusal :=
  execWord c (longR c 34 rd ra rb (fun _ a b _ => aluDivu a b)) s

/-- DIVS (09 R295). -/
def execDivs (c : Nat) (rd ra rb : Reg) (s : State) : Host.Outcome State Fault Refusal :=
  execWord c (longR c 34 rd ra rb (fun _ a b _ => aluDivs a b)) s

/-- REMU (09 R295). -/
def execRemu (c : Nat) (rd ra rb : Reg) (s : State) : Host.Outcome State Fault Refusal :=
  execWord c (longR c 34 rd ra rb (fun _ a b _ => aluRemu a b)) s

/-- REMS (09 R295). -/
def execRems (c : Nat) (rd ra rb : Reg) (s : State) : Host.Outcome State Fault Refusal :=
  execWord c (longR c 34 rd ra rb (fun _ a b _ => aluRems a b)) s

/-- CMP: A + NOT B + 1, the result discarded (09 R291). -/
def execCmp (c : Nat) (f : CForm) (s : State) : Host.Outcome State Fault Refusal :=
  execWord c (match f with
    | .long ra rb => longC c ra rb (fun a b => aluSub a b true)
    | .short f => shortWord c 9 f) s

/-- TST: A AND B, the result discarded (09 R291). -/
def execTst (c : Nat) (f : CForm) (s : State) : Host.Outcome State Fault Refusal :=
  execWord c (match f with
    | .long ra rb => longC c ra rb (fun a b => aluLogic (a &&& b))
    | .short f => shortWord c 10 f) s

/-- SEL: A if Z = 1, else B; no flag (09 R291). -/
def execSel (c : Nat) (rd ra rb : Reg) (s : State) : Host.Outcome State Fault Refusal :=
  execWord c (longR c 1 rd ra rb (fun k a b _ => (if k.z then a else b, FlagSet.keep))) s

/-- CRCW: four CRC steps over the bytes of A, low byte first, into D (09 R291, R296). -/
def execCrcw (c : Nat) (rd ra : Reg) (s : State) : Host.Outcome State Fault Refusal :=
  execWord c (longR c 2 rd ra 0 (fun k a _ d => (crcSteps k d (leBytes 4 a.toNat), FlagSet.keep))) s

/-- ADDI: imm14, or imm5 in a pair, sign-extended (09 R291, R292). -/
def execAddi (c : Nat) (f : IForm) (s : State) : Host.Outcome State Fault Refusal :=
  execWord c (match f with
    | .long rd ra imm => longI c rd ra imm (fun a i => aluAdd a (i.signExtend 32) false)
    | .short f => shortWord c 11 f) s

/-- ANDI: imm14 zero-extended (09 R291). -/
def execAndi (c : Nat) (rd ra : Reg) (imm : BitVec 14) (s : State) : Host.Outcome State Fault Refusal :=
  execWord c (longI c rd ra imm (fun a i => aluLogic (a &&& i.zeroExtend 32))) s

/-- ORI: imm14 zero-extended (09 R291). -/
def execOri (c : Nat) (rd ra : Reg) (imm : BitVec 14) (s : State) : Host.Outcome State Fault Refusal :=
  execWord c (longI c rd ra imm (fun a i => aluLogic (a ||| i.zeroExtend 32))) s

/-- XORI: imm14 zero-extended (09 R291). -/
def execXori (c : Nat) (rd ra : Reg) (imm : BitVec 14) (s : State) : Host.Outcome State Fault Refusal :=
  execWord c (longI c rd ra imm (fun a i => aluLogic (a ^^^ i.zeroExtend 32))) s

/-- SHLI: by imm14[4:0], or by imm5 in a pair (09 R291, R292, R295). -/
def execShli (c : Nat) (f : IForm) (s : State) : Host.Outcome State Fault Refusal :=
  execWord c (match f with
    | .long rd ra imm => longS c rd ra imm aluShl
    | .short f => shortWord c 13 f) s

/-- SHRI: by imm14[4:0], or by imm5 in a pair (09 R291, R292, R295). -/
def execShri (c : Nat) (f : IForm) (s : State) : Host.Outcome State Fault Refusal :=
  execWord c (match f with
    | .long rd ra imm => longS c rd ra imm aluShr
    | .short f => shortWord c 14 f) s

/-- SARI: by imm14[4:0], or by imm5 in a pair (09 R291, R292, R295). -/
def execSari (c : Nat) (f : IForm) (s : State) : Host.Outcome State Fault Refusal :=
  execWord c (match f with
    | .long rd ra imm => longS c rd ra imm aluSar
    | .short f => shortWord c 15 f) s

/-- RORI: by imm14[4:0], or by imm5 in a pair (09 R291, R292, R295). -/
def execRori (c : Nat) (f : IForm) (s : State) : Host.Outcome State Fault Refusal :=
  execWord c (match f with
    | .long rd ra imm => longS c rd ra imm aluRor
    | .short f => shortWord c 16 f) s

/-- CMPI: A minus imm14, the result discarded (09 R291). -/
def execCmpi (c : Nat) (ra : Reg) (imm : BitVec 14) (s : State) : Host.Outcome State Fault Refusal :=
  execWord c (plainWord c 1 (fun s k => withRegs [ra]
    (.ok ({ SlotRes.none with flags := (aluSub (reg k ra.toNat) (imm.signExtend 32) true).2 }, s)))) s

/-- MOVI: imm19, or imm5 in a pair, sign-extended; no flag (09 R291, R292). -/
def execMovi (c : Nat) (f : UForm) (s : State) : Host.Outcome State Fault Refusal :=
  execWord c (match f with
    | .long rd imm => plainWord c 1 (fun s _ => withRegs [rd] (.ok (SlotRes.val rd.toNat (imm.signExtend 32), s)))
    | .short f => shortWord c 12 f) s

/-- MOVHI: D[31:16] := imm16, D[15:0] kept (09 R291). -/
def execMovhi (c : Nat) (rd : Reg) (imm : BitVec 16) (s : State) : Host.Outcome State Fault Refusal :=
  execWord c (plainWord c 1 (fun s k => withRegs [rd]
    (.ok (SlotRes.val rd.toNat (imm ++ (reg k rd.toNat).extractLsb' 0 16), s)))) s

/-- MOV: rd := ra (09 R292). -/
def execMov (c : Nat) (f : ShortForm) (s : State) : Host.Outcome State Fault Refusal :=
  execWord c (shortWord c 1 f) s

/-- NOT (09 R292). -/
def execNot (c : Nat) (f : ShortForm) (s : State) : Host.Outcome State Fault Refusal :=
  execWord c (shortWord c 7 f) s

/-- NEG: 0 minus ra (09 R292). -/
def execNeg (c : Nat) (f : ShortForm) (s : State) : Host.Outcome State Fault Refusal :=
  execWord c (shortWord c 8 f) s

/-- PAR: the parity of ra (09 R292). -/
def execPar (c : Nat) (f : ShortForm) (s : State) : Host.Outcome State Fault Refusal :=
  execWord c (shortWord c 23 f) s

/-- PARB: the parity of each byte (09 R292). -/
def execParb (c : Nat) (f : ShortForm) (s : State) : Host.Outcome State Fault Refusal :=
  execWord c (shortWord c 24 f) s

/-- BREV (09 R292). -/
def execBrev (c : Nat) (f : ShortForm) (s : State) : Host.Outcome State Fault Refusal :=
  execWord c (shortWord c 25 f) s

/-- BREVB (09 R292). -/
def execBrevb (c : Nat) (f : ShortForm) (s : State) : Host.Outcome State Fault Refusal :=
  execWord c (shortWord c 26 f) s

/-- BSWAP (09 R292). -/
def execBswap (c : Nat) (f : ShortForm) (s : State) : Host.Outcome State Fault Refusal :=
  execWord c (shortWord c 27 f) s

/-- LUHN (R297) (09 R292). -/
def execLuhn (c : Nat) (f : ShortForm) (s : State) : Host.Outcome State Fault Refusal :=
  execWord c (shortWord c 28 f) s

/-- DECT (R298) (09 R292). -/
def execDect (c : Nat) (f : ShortForm) (s : State) : Host.Outcome State Fault Refusal :=
  execWord c (shortWord c 29 f) s

/-- CRCB (R296) (09 R292). -/
def execCrcb (c : Nat) (f : ShortForm) (s : State) : Host.Outcome State Fault Refusal :=
  execWord c (shortWord c 30 f) s

end Sys2Proof.Machine
end

