-- ==== Sys2Proof/Machine/Attest.lean ====
section
/-!
DEFINITION. Attestation: the statement's CBOR map, its COSE_Sign structure, class 0x0E and ATT_STATEMENT (11 R373 to R376).
-/

namespace Sys2Proof.Machine

open Sys2Proof

/-- The head of a CBOR item in its shortest form (11 R373; RFC 8949). -/
def cborHead (major n : Nat) : List Byte :=
  if n < 24 then leBytes 1 (32 * major + n)
  else if n < 2 ^ 8 then leBytes 1 (32 * major + 24) ++ leBytes 1 n
  else if n < 2 ^ 16 then leBytes 1 (32 * major + 25) ++ beBytes 2 n
  else if n < 2 ^ 32 then leBytes 1 (32 * major + 26) ++ beBytes 4 n
  else leBytes 1 (32 * major + 27) ++ beBytes 8 n

/-- An unsigned integer. -/
def cborUint (n : Nat) : List Byte := cborHead 0 n
/-- The negative integer −n, n positive. -/
def cborNeg (n : Nat) : List Byte := cborHead 1 (n - 1)
/-- A byte string. -/
def cborBytes (b : List Byte) : List Byte := cborHead 2 b.length ++ b
/-- A text string. -/
def cborText (b : List Byte) : List Byte := cborHead 3 b.length ++ b
/-- An array of encoded items. -/
def cborArray (l : List (List Byte)) : List Byte := cborHead 4 l.length ++ l.flatten
/-- A map with unsigned keys given in increasing order. -/
def cborMap (l : List (Nat × List Byte)) : List Byte := cborHead 5 l.length ++ l.flatMap (fun x => cborUint x.1 ++ x.2)

/-- Security flags of key 7 (11 R374). -/
def securityFlags (s : State) : Nat := b2n s.life.zeroised + 2 * b2n s.tamper.halt + 4 * b2n s.tamper.logicAlarm

/-- Keys 1 to 11 of a statement (11 R374). -/
def moduleKeys (s : State) (nonce : List Byte) : List (Nat × List Byte) :=
  [(1, cborText (ascii "yq4-att-1")), (2, cborUint s.ident.serial), (3, cborText (orderCode s)), (4, cborUint 0x10),
   (5, cborUint (lifeCycle s)), (6, cborUint (debugScope s)), (7, cborUint (securityFlags s)),
   (8, cborMap ((List.range 6).map (fun i => (i + 1, cborBytes (fit 48 (s.fw.meas.getD i [])))))),
   (9, cborArray [cborUint s.ident.rom, cborUint (runningVersion s 1), cborUint (runningVersion s 2),
                  cborUint (libOf s)]),
   (10, cborBytes (measConfig s)), (11, cborBytes (fit 32 nonce))]

/-- POLICY with the module's DP_POLICY ANDed in: bit 0 AES to TDES PIN, bit 1 scripts (08 R277; 10 R350). -/
def policyNow (s : State) (p : Nat) : Nat :=
  let v := objNat s (0x4000 + p) 0x30 0
  let m := objNat s 0x3020 0x01 3
  b2n (bit v 0 && bit m 1) + 2 * b2n (bit v 1 && bit m 0)

/-- Is an object a custodian entry or a script image (11 R374)? -/
def notConfig (sub : Nat) : Bool := decide (0xF0 ≤ sub) || decide (0x50 ≤ sub ∧ sub ≤ 0x8F)

/-- Digest of the partition configuration: RW and RWQ objects (11 R374). -/
def partConfig (s : State) (p : Nat) : List Byte :=
  sha3_384 (digestForm s (0x4000 + p) (fun sub o => (o.acc == .rw || o.acc == .rwq) && !notConfig sub))

/-- Digest of the partition roster: the custodian entries, then PART_QUORUM_M (11 R374; log 44). -/
def rosterDigest (s : State) (p : Nat) : List Byte :=
  sha3_384 (digestForm s (0x4000 + p) (fun sub _ => decide (0xF0 ≤ sub)) ++
    digestForm s (0x4000 + p) (fun sub _ => sub == 0xE8))

/-- Script signers of a partition, as SIG_ALGS numbers them (08 R266, R277). -/
def signersOf (s : State) (p : Nat) : Nat :=
  b2n (!allZero (objBytes s (0x4000 + p) 0x40 97)) + 2 * b2n (!allZero (objBytes s (0x4000 + p) 0x41 1952))

/-- The entry of a loaded script (11 R374). -/
def scriptItem (n : Nat) (x : Script) : List Byte :=
  cborMap [(1, cborUint n), (2, cborBytes (fit 16 x.id)), (3, cborUint x.version), (4, cborBytes (fit 48 x.meas))]

/-- Keys 20 to 26 of a statement of partition p (11 R374). -/
def partKeys (s : State) (p : Nat) : List (Nat × List Byte) :=
  let scripts := (List.range 65).filterMap (fun n => (tblFind (partOf s p).scripts n).map (scriptItem n))
  let g := signersOf s p
  [(20, cborUint p), (21, cborUint (partOf s p).incarnation), (22, cborUint (policyNow s p)),
   (23, cborBytes (partConfig s p)), (24, cborArray scripts), (25, cborBytes (rosterDigest s p)),
   (26, cborUint (g % 2 + g / 2))]

/-- The payload of a statement: of the module, or of a partition (11 R374, R375). -/
def statementMap (s : State) (scope : Option Nat) (nonce : List Byte) : List Byte :=
  cborMap (moduleKeys s nonce ++ (match scope with
    | some p => partKeys s p
    | none => []))

/-- A protected header of one entry, as its byte string. -/
def protHeader (label : Nat) (v : List Byte) : List Byte := cborBytes (cborMap [(label, v)])

/-- One signature of the COSE_Sign structure over the payload (11 R373; RFC 9052): alg −35 by module slot 1, alg −49 by
slot 2 (log 12). -/
def coseSignature (alg : Nat) (sign : List Byte → List Byte) (body payload : List Byte) : List Byte :=
  let prot := protHeader 1 (cborNeg alg)
  cborArray [prot, cborMap [], cborBytes (sign (cborArray [cborText (ascii "Signature"), body, prot, cborBytes [], cborBytes payload]))]

/-- A signed statement: COSE_Sign with tag 98, content type application/cbor (11 R373; log 44). -/
def statement (s : State) (scope : Option Nat) (nonce : List Byte) : List Byte :=
  let payload := statementMap s scope nonce
  let body := protHeader 3 (cborText (ascii "application/cbor"))
  cborHead 6 98 ++ cborArray [body, cborMap [], cborBytes payload,
    cborArray [coseSignature 35 (identitySignEc s) body payload, coseSignature 49 (identitySignPq s) body payload]]

/-- An identity record that a signing step may use: world DATA, master MANAGEMENT (07 R219; 11 R376). -/
def identityUsable (s : State) (i : Nat) : Bool :=
  let r := slotOf s i
  r.state == recActive && ownerModule r && useOk s (.use uSign) wData 1 r

/-- Class 0x0E (11 R375): no key, no input data, CMD_PARAM reserved; the statement through the output list. A record that
the signing step may not use gives KEY_NOT_PERMITTED (11 R376). -/
def attestWork (part : Bool) : Work := pureWork (fun s c =>
  orFormat ([(dInCount c.d != 0, 0x48), (dInTotal c.d != 0, 0x4C)] ++ unusedKeys c.d ++ [(c.prm != 0, 0x38)]) Res.fail
    (if !(identityUsable s 1 && identityUsable s 2) then .fail 0x0010 0
     else listOut c (statement s (if part then some c.p else none) (slice c.d 0x60 32)) []))

/-- ATTEST_MODULE (11 R373 to R376). -/
def execAttestModule (qp asn : Nat) (s : State) : Host.Outcome State Fault Refusal :=
  dataCommand qp asn 0x0E01 (attestWork false) s

/-- ATTEST_PARTITION (11 R373 to R376). -/
def execAttestPartition (qp asn : Nat) (s : State) : Host.Outcome State Fault Refusal :=
  dataCommand qp asn 0x0E02 (attestWork true) s

/-- The value of ATT_STATEMENT, or the result that its read answers (11 R375): INVALID_STATE as the command gives it, and
for a scope that is no created partition (log 44). -/
def attValue (s : State) : Except Nat (List Byte) :=
  let scope := objNat s 0x2040 0x01 0xFFFF
  let nonce := objBytes s 0x2040 0x02 32
  if !attestOk s then .error 0x0009
  else if scope = 0xFFFF then .ok (statement s none nonce)
  else if (partOf s scope).created then .ok (statement s (some scope) nonce)
  else .error 0x0009

end Sys2Proof.Machine
end

