-- ==== Sys2Proof/Machine/Control.lean ====
section
/-!
DEFINITION. Branches, calls, the return from interrupts and faults, waiting for one, the control registers, and the
events of the vector units (09 R280, R283 to R285, R291, R293, R306 to R314).
-/

namespace Sys2Proof.Machine

open Sys2Proof

/-- A branch by disp20 words from the branch (09 R287). -/
def branchTo (pc : Word) (disp : BitVec 20) : Word := pc + 4 * disp.signExtend 32

/-- B: 2 cycles where taken (09 R291, R293). -/
def execB (c : Nat) (cond : BitVec 4) (disp : BitVec 20) (s : State) : Host.Outcome State Fault Refusal :=
  execWord c (fun s => .ok (modCore s c (fun k =>
    if condHolds k.ctl cond.toNat then addCycles { k with pc := branchTo k.pc disp } 2
    else addCycles { k with pc := k.pc + 4 } 1))) s

/-- A call: RSTK_OVF on a full return stack, else the return address is pushed and the window slides (09 R283, R285). -/
def callTo (c : Nat) (target : EloaCore → Word) (s : State) : Except Stop State :=
  if 32 ≤ (coreOf s c).ret.length then .error (.fault fltRstkOvf)
  else .ok (modCore s c (fun k => addCycles { slideUp { k with ret := (k.pc + 4) :: k.ret } 1 with pc := target k } 2))

/-- CALL (09 R291). -/
def execCall (c : Nat) (disp : BitVec 20) (s : State) : Host.Outcome State Fault Refusal :=
  execWord c (callTo c (fun k => branchTo k.pc disp)) s

/-- CALLR (09 R291). -/
def execCallr (c : Nat) (ra : Reg) (s : State) : Host.Outcome State Fault Refusal :=
  execWord c (fun s => withRegs [ra] (callTo c (fun k => reg k ra.toNat) s)) s

/-- JMPR (09 R291). -/
def execJmpr (c : Nat) (ra : Reg) (s : State) : Host.Outcome State Fault Refusal :=
  execWord c (fun s => withRegs [ra] (.ok (modCore s c (fun k => addCycles { k with pc := reg k ra.toNat } 2)))) s

/-- RET: RSTK_UNF on an empty return stack (09 R283, R285). -/
def retWord (c : Nat) (s : State) : Except Stop State :=
  match (coreOf s c).ret with
  | [] => .error (.fault fltRstkUnf)
  | a :: r => .ok (modCore s c (fun k => addCycles { slideDown { k with ret := r } 1 with pc := a } 2))

/-- RET (09 R291). -/
def execRet (c : Nat) (s : State) : Host.Outcome State Fault Refusal := execWord c (retWord c) s

/-- The context of the innermost handler is restored: flags, F with its refills, RUNPRI, and the pc: from ELQ_FAULT_PC
after a fault (09 R306, R313). DZ stays set where the handler has set it, since only an MTC clears it (R280, R294). EVU_CUR then names the innermost interrupt that remains (log 39). -/
def restoreCtx (s : State) (c : Nat) (x : ICtx) (r : List ICtx) : State :=
  let (u, i) := unitOf c
  let t := modCore s c (fun k =>
    let old := setFlagsWord k.ctl x.flags
    let k1 := slideDown { k with ictx := r, ctl := { old with dz := old.dz || k.ctl.dz } } 2
    { k1 with pc := if x.source = 256 then k.ctl.faultPc else x.pc })
  let cur := (r.find? (fun y => y.source != 256)).map (fun y => y.source)
  modEvuCore t u i (fun e => { e with runpri := x.runpri, cur := cur.getD e.cur })

/-- A handler's interrupt ends and a source is selected at once: the pushed context and window are kept (09 R313). -/
def takeAgain (s : State) (c src : Nat) (x : ICtx) (r : List ICtx) : State :=
  let (u, i) := unitOf c
  let b := (evuCoreOf s u i).vbase
  modCore (commitDelivery s u i src) c (fun k =>
    { k with ictx := { x with source := src } :: r, pc := b + BitVec.ofNat 32 (16 * src) })

/-- IRET: from an interrupt handler ACTIVE clears, and a source then selected is taken with the pushed context and window
kept; else the context is restored. From a fault handler the context is restored (09 R306, R313). PRIV on S3; without a
context nothing but the pc moves (log 39). -/
def iretWord (c : Nat) (s : State) : Except Stop State :=
  let (u, i) := unitOf c
  if isS3 c then .error (.fault fltPriv)
  else
    let s1 := modCore s c (fun k => addCycles k 2)
    match (coreOf s c).ictx with
    | [] => .ok (modCore s1 c (fun k => { k with pc := k.pc + 4 }))
    | x :: r =>
      if x.source = 256 then .ok (deliverAll (restoreCtx s1 c x r) u)
      else
        let s2 := modEvu s1 u (fun e => { e with active := e.active.filter (fun y => y != x.source) })
        let s3 := modEvuCore s2 u i (fun e => { e with runpri := x.runpri })
        match selectSource s3 u i with
        | some src => .ok (deliverAll (takeAgain s3 c src x r) u)
        | none => .ok (deliverAll (restoreCtx s3 c x r) u)

/-- IRET (09 R313). -/
def execIret (c : Nat) (s : State) : Host.Outcome State Fault Refusal := execWord c (iretWord c) s

/-- WFI: with a deliverable source pending it completes as NOP and the delivery follows; else the core waits for one, and the word is
executed again after IRET (09 R291, R314). PRIV on S3. -/
def wfiWord (c : Nat) (s : State) : Except Stop State :=
  let (u, i) := unitOf c
  if isS3 c then .error (.fault fltPriv)
  else if (deliverable s u i).isSome then .ok (deliverAll (modCore s c (fun k => addCycles { k with pc := k.pc + 4 } 1)) u)
  else .ok (modCore s c (fun k => addCycles { k with wait := .wfi } 1))

/-- WFI (09 R314). -/
def execWfi (c : Nat) (s : State) : Host.Outcome State Fault Refusal := execWord c (wfiWord c) s

/-- Access of core c to control register n (09 R280): it may read, and it may write. -/
def crAccess (c n : Nat) : Bool × Bool :=
  if n ≤ 4 then (true, true)
  else if n ≤ 8 then (true, false)
  else if n = 9 then (!isS3 c, !isS3 c)
  else if n = 11 then (decide (64 ≤ c), false)
  else (decide (64 ≤ c), decide (64 ≤ c))

/-- ELQ_FRAME (09 R280). -/
def frameWord (k : EloaCore) : Nat := k.f + 256 * k.b + 65536 * k.ret.length + 16777216 * k.ictx.length

/-- ELQ_CORE_ID (09 R280). -/
def coreId (c : Nat) : Nat := if c < 64 then c % 4 + 4 * (c / 4) else (c - 64) + 64

/-- The value of control register n (09 R280): the budget left reads 0 but on a core that runs a tenant script. -/
def crRead (s : State) (c n : Nat) : Word :=
  let k := coreOf s c
  match n with
  | 0 => flagsWord k.ctl
  | 1 => k.ctl.crcCfg
  | 2 => k.ctl.crcPoly
  | 3 => k.ctl.decLo
  | 4 => k.ctl.decHi
  | 5 => k.ctl.cycle
  | 6 => BitVec.ofNat 32 (frameWord k)
  | 7 => BitVec.ofNat 32 (coreId c)
  | 8 => if isS3 c then BitVec.ofNat 32 k.ctl.budget else 0
  | 9 => k.ctl.tcmp
  | 10 => k.ctl.fvbase
  | 11 => BitVec.ofNat 32 k.ctl.fault
  | 12 => k.ctl.faultPc
  | _ => k.ctl.dwin

/-- A write of ELQ_CRC_CFG: a preset loads its values and the polynomial (09 R280). -/
def writeCrcCfg (k : CoreCtl) (v : Word) : CoreCtl :=
  if bits v.toNat 7 6 = 1 then { k with crcCfg := 0x0F, crcPoly := 0x1021 }
  else if bits v.toNat 7 6 = 2 then { k with crcCfg := 0x3F, crcPoly := 0x1EDC6F41 }
  else { k with crcCfg := v &&& 0x3F }

/-- A write of control register n (09 R280). -/
def crWrite (k : CoreCtl) (n : Nat) (v : Word) : CoreCtl :=
  match n with
  | 0 => setFlagsWord k v
  | 1 => writeCrcCfg k v
  | 2 => { k with crcPoly := v }
  | 3 => { k with decLo := v }
  | 4 => { k with decHi := v }
  | 9 => { k with tcmp := v }
  | 10 => { k with fvbase := v &&& 0xFFFFFFF0 }
  | 12 => { k with faultPc := v }
  | 13 => { k with dwin := v &&& 3 }
  | _ => k

/-- MFC: D := control register ra-field; UNDEF past 13, PRIV where the world has no access (09 R280, R291). -/
def execMfc (c : Nat) (rd cr : Reg) (s : State) : Host.Outcome State Fault Refusal :=
  execWord c (fun s =>
    if 13 < cr.toNat then .error (.fault fltUndef)
    else withRegs [rd]
      (if (crAccess c cr.toNat).1 then
        plainWord c 1 (fun s _ => .ok (SlotRes.val rd.toNat (crRead s c cr.toNat), s)) s
      else .error (.fault fltPriv))) s

/-- MTC: control register rd-field := A; a read-only one gives PRIV (09 R280, R291). -/
def execMtc (c : Nat) (cr ra : Reg) (s : State) : Host.Outcome State Fault Refusal :=
  execWord c (fun s =>
    if 13 < cr.toNat then .error (.fault fltUndef)
    else withRegs [ra]
      (if (crAccess c cr.toNat).2 then
        .ok (modCore s c (fun k =>
          addCycles { k with pc := k.pc + 4, ctl := crWrite k.ctl cr.toNat (reg k ra.toNat) } 1))
      else .error (.fault fltPriv))) s

/-- Does the change of a level from a to b give the edge that a sense selects (09 R308)? -/
def edgeOf (sense : Nat) (a b : Bool) : Bool :=
  (sense == 2 && !a && b) || (sense == 3 && a && !b) || (sense == 4 && a != b)

/-- The input of source src of unit u is sampled at a level (09 R307, R310 to R312): LEVEL shows it, an edge of the
selected kind or an asserted level makes the source pending, a level source is pending no longer than its level holds, and what is
deliverable is delivered. -/
def sampleEvent (s : State) (u src : Nat) (level : Bool) : State :=
  let c := srcOf s u src
  let s1 := modEvu s u (fun e => { e with cfg := tblSet e.cfg src { c with level := level } })
  let edge := edgeOf c.sense c.level level
  let ceased := levelOn c && !levelOn { c with level := level }
  evuSettle (if edge then modEvu s1 u (fun e => { e with pend := insertAsc src e.pend })
    else if ceased then modEvu s1 u (fun e => { e with pend := e.pend.filter (fun x => x != src) }) else s1) u

/-- EVU_EVENT (09 R307, R308, R310 to R312, R315, R316): a source that is not listed is never pending, and the
software sources have no input. -/
def execEvuEvent (u src : Nat) (level : Bool) (s : State) : Host.Outcome State Fault Refusal :=
  guardUnit (decide (u < 17)) u s (if sourceListed u src && !softSource u src then sampleEvent s u src level else s)

/-- EVU_PEND_SET (09 R309): core c writes word k of the vector of its unit; S3 reaches no unit. -/
def execEvuPendSet (c k : Nat) (v : Word) (s : State) : Host.Outcome State Fault Refusal :=
  guardUnit (coreOk c) c s
    (if isS3 c ∨ evuWords (unitOf c).1 ≤ k then s else pendSet s (unitOf c).1 k v.toNat)

end Sys2Proof.Machine
end

