-- ==== Sys2Proof/Machine/Dukpt.lean ====
section
/-!
DEFINITION. DUKPT: key derivation and its commands (05 R156 to R158), after X9.24-1 and X9.24-3 (log 16).
-/

namespace Sys2Proof.Machine

open Sys2Proof

/-- The uses of a DUKPT working key (05 R157). -/
inductive DukptUse where
  | pin
  | macReq
  | macResp
  | dataReq
  | dataResp
  deriving DecidableEq, Repr

/-- The one bits of a counter, most significant first. -/
def oneBits (w v : Nat) : List Nat := ((List.range w).reverse).filter (fun i => v.testBit i)

/-- The counter of a KSN (05 R156). -/
def ksnCounter (aes : Bool) (k : List Byte) : Nat := if aes then beNat (slice k 8 4) else beNat (slice k 0 10) % 2 ^ 21

/-- The status of a bad KSN (05 R156). -/
def ksnBad (aes : Bool) (k : List Byte) : Option Nat :=
  let n := ksnCounter aes k
  if n > (if aes then 0xFFFF0000 else 0x1FF800) then some 0x0049
  else if n = 0 ∨ (oneBits 32 n).length > (if aes then 16 else 10) ∨ (!aes ∧ !allZero (slice k 10 2)) then some 0x0048
  else none

/-- The pattern that makes a variant key, over each half of a TDES key. -/
def dukptMask (k m : List Byte) : List Byte := xorB k (m ++ m)

/-- C0C0C0C000000000. -/
def maskC0 : List Byte := List.replicate 4 0xC0 ++ zeros 4

/-- The initial key of TDES DUKPT from the base key and the initial KSN. -/
def tdesIk (bdk ksn : List Byte) : List Byte :=
  let i := slice (beBytes 10 (beNat (slice ksn 0 10) / 2 ^ 21 * 2 ^ 21)) 0 8
  tdesEnc bdk i ++ tdesEnc (dukptMask bdk maskC0) i

/-- One half of a derivation. -/
def tdesStep (k r : List Byte) : List Byte :=
  let (l, h) := (slice k 0 8, slice k 8 8)
  xorB (desEnc l (xorB r h)) h

/-- One derivation of TDES DUKPT with a partial counter's KSN register. -/
def tdesDerive (k r : List Byte) : List Byte := tdesStep (dukptMask k maskC0) r ++ tdesStep k r

/-- The transaction key of TDES DUKPT. -/
def tdesTxKey (bdk ksn : List Byte) : List Byte :=
  let base := beNat (slice ksn 0 10) / 2 ^ 21 * 2 ^ 21
  ((oneBits 21 (ksnCounter false ksn)).foldl (fun (x : List Byte × Nat) i =>
    let p := x.2 + 2 ^ i
    (tdesDerive x.1 (slice (beBytes 10 (base + p)) 2 8), p)) (tdesIk bdk ksn, 0)).1

/-- The working key of TDES DUKPT (05 R157): the data variants are enciphered under themselves. -/
def tdesWork (bdk ksn : List Byte) (u : DukptUse) : List Byte :=
  let v (i : Nat) : List Byte := dukptMask (tdesTxKey bdk ksn) (splice (zeros 8) i [0xFF])
  let own (k : List Byte) : List Byte := tdesEnc k (slice k 0 8) ++ tdesEnc k (slice k 8 8)
  match u with
  | .pin => v 7
  | .macReq => v 6
  | .macResp => v 4
  | .dataReq => own (v 5)
  | .dataResp => own (v 3)

/-- A key of n bytes derived by AES DUKPT for a usage and an algorithm. -/
def aesDerive (k : List Byte) (usage alg n : Nat) (ctx : List Byte) : List Byte :=
  ((List.range (cdiv n 16)).flatMap (fun i => aesEnc k
    ([1, BitVec.ofNat 8 (i + 1)] ++ beBytes 2 usage ++ beBytes 2 alg ++ beBytes 2 (8 * n) ++ ctx))).take n

/-- The algorithm number of an AES key in derivation data. -/
def aesIndicator (n : Nat) : Nat := if n = 16 then 2 else if n = 24 then 3 else 4

/-- The initial key of AES DUKPT. -/
def aesIk (bdk ksn : List Byte) : List Byte :=
  aesDerive bdk 0x8001 (aesIndicator bdk.length) bdk.length (slice ksn 0 8)

/-- The derivation key of AES DUKPT for the counter. -/
def aesTxKey (bdk ksn : List Byte) : List Byte :=
  ((oneBits 32 (ksnCounter true ksn)).foldl (fun (x : List Byte × Nat) i =>
    let p := x.2 + 2 ^ i
    (aesDerive x.1 0x8000 (aesIndicator bdk.length) bdk.length (slice ksn 4 4 ++ beBytes 4 p), p)) (aesIk bdk ksn, 0)).1

/-- Bytes and algorithm number of a WK_ALG (05 R158). -/
def wkAlg (w : Nat) : Nat × Nat :=
  if w = 0 then (16, 2) else if w = 1 then (24, 3) else if w = 2 then (32, 4) else if w = 3 then (16, 0) else (24, 1)

/-- The usage number of AES DUKPT (log 23). -/
def aesUse (u : DukptUse) : Nat :=
  match u with
  | .pin => 0x1000
  | .macReq => 0x2000
  | .macResp => 0x2001
  | .dataReq => 0x3000
  | .dataResp => 0x3001

/-- The working key that a descriptor's KSN gives, as a key (05 R157). -/
def dukptKey (s : State) (c : Ctx) (ksn : List Byte) (u : DukptUse) : WorkKey :=
  let k := (keyAt s c 0).key
  if bit c.prm 0 then
    let (n, a) := wkAlg (bits c.prm 3 1)
    { alg := if a = 0 then 0x01 else if a = 1 then 0x02 else 0x10 + bits c.prm 3 1, usage := 0,
      key := aesDerive (aesTxKey k ksn) (aesUse u) a n (slice ksn 4 8) }
  else { alg := 0x01, usage := 0, key := tdesWork k ksn u }

/-- CMD_PARAM of a DUKPT command is out of range (05 R158): wk, fmt, mac and len tell which fields it uses. -/
def dukptPrmBad (c : Ctx) (wk fmt mac len : Bool) : Bool :=
  let p := c.prm
  let aes := bit p 0
  let w := bits p 3 1
  let ma := bits p 15 12
  let ml := bits p 23 16
  let macBad := decide (2 < ma) || (if ma = 0 then decide (ml < 4 ∨ 8 < ml)
    else if ma = 1 then decide (ml < 4 ∨ 16 < ml) else decide (ml < 10 ∨ 32 < ml))
  (if aes ∧ wk then decide (4 < w) else w != 0) || bit p 7 || bit p 11 || anyBits p 63 32 ||
    (if fmt then decide (4 < bits p 6 4 ∨ 4 < bits p 10 8) else anyBits p 6 4 || anyBits p 10 8) ||
    (if mac then macBad else anyBits p 23 12) || (if len ∧ !dSgl c.d then decide (32 < bits p 31 24) else anyBits p 31 24)

/-- The work of DUKPT_PIN_TRANSLATE (05 R143 to R146, R156 to R158). It is pure, with fresh fill too (log 24). -/
def dukptPinTranslateBody : Work := fun t c =>
    let d := c.d
    let f := bits c.prm 6 4
    let g := bits c.prm 10 8
    let ksn := slice d 0x40 12
    orFormat ([(dInLen d != 48, 0x04)] ++ unusedKeys d ++ [(dukptPrmBad c true true false false, 0x38), (!zeroAt d 0x4C 0x50, 0x4C),
        (!zeroAt d (0x50 + fmtSize f) 0x60, 0x50), (!zeroAt d 0x6A 0x70, 0x6A)]) (fun a b => (Res.fail a b, t))
      (match panAndPair t c.p f g (slice d 0x60 10) with
        | .error 0x0042 => (.fail 0x0042 0, t)
        | r => match ksnBad (bit c.prm 0) ksn with
          | some e => (.fail e 0, t)
          | none => match r with
            | .error e => (.fail e 0, t)
            | .ok pan =>
              let w := dukptKey t c ksn .pin
              if !fmtAlg f w.alg then (.fail 0x0014 0, t)
              else pinTranslate t c f g pan w.cipher (keyAt t c 1).cipher (slice d 0x50 (fmtSize f)) false)

/-- DUKPT_PIN_TRANSLATE (05 R143 to R146, R156 to R158). -/
def execDukptPinTranslate (qp asn : Nat) (s : State) : Host.Outcome State Fault Refusal :=
  dataCommand qp asn 0x0301 dukptPinTranslateBody s

/-- The MAC of MAC_LEN bytes of a DUKPT command under its working key (05 R158); algorithm 3 with padding method 1 (log 16). With
MAC_ALG 2 the key derived for WK_ALG, or the TDES working key, is the HMAC key as it stands (DEDUCED, log 23). The rule allows a CMAC of
up to 16 bytes under a TDES key too, whose CMAC has 8: the bytes beyond are free (DESIGN CHOICE, log 24). -/
def dukptMac (w : WorkKey) (a ml : Nat) (m : List Byte) : List Byte :=
  let t := if a = 0 then macAlg3 w.key (macPad 1 8 m) else if a = 1 then cmac w.cipher m else hmac sha256 64 w.key m
  if t.length < ml then t ++ fit (ml - t.length) (Config.pkBytes "CMAC beyond its block" [w.key, m]) else t.take ml

/-- The work of the two DUKPT MAC commands (05 R156 to R158): a generation answers the terminal and a verification checks
its request (log 23). The MAC field has 16 bytes, so a longer HMAC never compares equal over its full length (05 R136). -/
def dukptMacWork (ver : Bool) : Work := pureWork (fun s c =>
  let d := c.d
  let b := c.base
  let n := bits c.prm 31 24
  let ml := bits c.prm 23 16
  let a := bits c.prm 15 12
  let ksn := slice d b 12
  orFormat ([(!dSgl d && dInLen d != 32 + n, 0x04)] ++ unusedKeys d ++
      [(dukptPrmBad c true false true true, 0x38), (!zeroAt d (b + 12) (b + 16), b + 12),
       (!ver && !zeroAt d (b + 16) (b + 32), b + 16)]) Res.fail
    (match ksnBad (bit c.prm 0) ksn with
      | some e => .fail e 0
      | none =>
        let w := dukptKey s c ksn (if ver then .macReq else .macResp)
        let m := if dSgl d then c.data else slice d 0x60 n
        let t := dukptMac w a ml m
        if a = 0 ∧ w.alg ≠ 0x01 then .fail 0x0014 0
        else if !ver then .fin (Cpl.ok t)
        else if t = slice d (b + 16) (min ml 16) then .fin (Cpl.ok [])
        else .fail 0x0013 0))

/-- DUKPT_MAC_GENERATE (05 R156 to R158). -/
def execDukptMacGenerate (qp asn : Nat) (s : State) : Host.Outcome State Fault Refusal :=
  dataCommand qp asn 0x0302 (dukptMacWork false) s
/-- DUKPT_MAC_VERIFY (05 R156 to R158). -/
def execDukptMacVerify (qp asn : Nat) (s : State) : Host.Outcome State Fault Refusal :=
  dataCommand qp asn 0x0303 (dukptMacWork true) s

/-- The work of the two DUKPT data commands (05 R158). DESIGN CHOICE: a TDES working key takes the first 8 of the 16 IV bytes, and the others
may hold anything (log 23). -/
def dukptDataWork (use : DukptUse) (f : Cipher → List Byte → List Byte → List Byte) : Work := pureWork (fun s c =>
  let d := c.d
  let ksn := slice d 0x60 12
  let w := dukptKey s c ksn use
  let n := w.cipher.size
  orFormat (unusedKeys d ++ [(dukptPrmBad c true false false false, 0x38), (!zeroAt d 0x6C 0x70, 0x6C)]) Res.fail
    (if c.data.length % n ≠ 0 then .fail 0x0009 0
    else if c.room < c.data.length then .fail 0x000A 0
    else match ksnBad (bit c.prm 0) ksn with
      | some e => .fail e 0
      | none => listOut c (f w.cipher (slice d 0x70 n) c.data) []))

/-- DUKPT_ENCRYPT (05 R156 to R158): under the data response key, for the host's answer to the terminal. The rule names both data keys and
not which command takes which (DEDUCED, log 23). -/
def execDukptEncrypt (qp asn : Nat) (s : State) : Host.Outcome State Fault Refusal :=
  dataCommand qp asn 0x0304 (dukptDataWork .dataResp cbcEnc) s
/-- DUKPT_DECRYPT (05 R156 to R158): under the data request key, for what the terminal sent (DEDUCED, log 23). -/
def execDukptDecrypt (qp asn : Nat) (s : State) : Host.Outcome State Fault Refusal :=
  dataCommand qp asn 0x0305 (dukptDataWork .dataReq cbcDec) s

/-- The initial key of a DUKPT key as a record to export: usage B1, not exportable (05 R158). -/
def ikRecord (s : State) (c : Ctx) (ksn : List Byte) : KeyRec :=
  let r := keyAt s c 0
  let k := if bit c.prm 0 then aesIk r.key ksn else tdesIk r.key ksn
  { KeyRec.reset with alg := r.alg, keyLen := k.length, mat := k, usage := 0x0100, kcv := kcvOf r.alg k }

/-- The work of DUKPT_IK_EXPORT (05 R156 to R158, R165, R168). The block keeps the template's mode of use beside usage B1: R158 gives the
usage and the exportability and does not say that a template's mode other than X is refused (DESIGN CHOICE, log 23). DESIGN CHOICE: the
template lies at 0x70, with 0x6C to 0x6F reserved as in the other rows (log 23). -/
def dukptIkExportBody : Work := fun t c =>
    let d := c.d
    let ksn := slice d 0x60 12
    let tpl := slice d 0x70 16
    let ik := ikRecord t c ksn
    let prot := keyAt t c 1
    let o : KbOut := { std := false, ver := byteAt tpl 0, addKc := false }
    let pad := !bit c.prm 0 && !allZero (slice ksn 10 2)
    orFormat (unusedKeys d ++ [(dukptPrmBad c false false false false, 0x38)] ++ zeroEntryBad c ++ [(!zeroAt d 0x6C 0x70, 0x6C)])
        (fun a b => (Res.fail a b, t))
      (if c.data.length ≠ 16 then (.fail 0x0009 0, t)
      else if c.room < o.length ik then (.fail 0x000A 0, t)
      else if ksnCounter (bit c.prm 0) ksn ≠ 0 ∨ pad then (.fail 0x0048 0, t)
      else match kbTemplate tpl with
        | .error x => (.fail 0x0016 x, t)
        | .ok _ =>
          match exportBad o prot { ik with exportRule := 2 } 0 with
          | some (0x0014, x) => (.fail 0x0014 (if kbProtOk o.ver prot.alg then x else 1), t)
          | some (e, x) => (.fail e x, t)
          | none => exportKey t c o prot ik
              (ascii "B1" ++ [chr ((kbLetter ik.alg).getD 'A')] ++ slice tpl 8 3 ++ [chr 'N'])
              (fun b u => ((listOut c b ik.kcv).journalled .none, u)))

/-- DUKPT_IK_EXPORT. -/
def execDukptIkExport (qp asn : Nat) (s : State) : Host.Outcome State Fault Refusal :=
  dataCommand qp asn 0x0306 dukptIkExportBody s

end Sys2Proof.Machine
end

