-- ==== Sys2Proof/Machine/Emv.lean ====
section
/-!
DEFINITION. The EMV commands (05 R161 to R164), option C and the AES session key after EMV Book 2 (log 16).
-/

namespace Sys2Proof.Machine

open Sys2Proof

/-- The fields of the EMV block (05 R162). -/
structure Emv where
  pan  : List Byte
  psn  : Byte
  atc  : List Byte
  arc  : List Byte
  arqc : List Byte
  csu  : List Byte

/-- The EMV block of a descriptor. -/
def emvOf (c : Ctx) : Emv :=
  let b := slice c.d c.base 32
  { pan := slice b 0 10, psn := byteAt b 0x0A, atc := slice b 0x0C 2, arc := slice b 0x0E 2, arqc := slice b 0x10 8,
    csu := slice b 0x18 4 }

/-- Every byte complemented. -/
def invert (b : List Byte) : List Byte := b.map (fun x => ~~~x)

/-- Y: the rightmost 16 digits of the PAN joined with the PSN (05 R161). -/
def emvY (pan : List Nat) (psn : Byte) : List Byte :=
  let l := lastN 16 (pan ++ nibbles [psn])
  packNibbles (List.replicate (16 - l.length) 0 ++ l)

/-- The ICC master key (05 R161). For AES, option C is applied to the rule's 16-digit Y with zeros before it: the rule fixes Y for both
options, where EMV's option C takes the whole PAN and the PSN (DEDUCED, log 23). -/
def iccMaster (r : KeyRec) (pan : List Nat) (psn : Byte) : List Byte :=
  let y := emvY pan psn
  if isAes r.alg then
    let z := zeros 8 ++ y
    (aesEnc r.key z ++ aesEnc r.key (invert z)).take r.keyLen
  else (tdesEnc r.key y ++ tdesEnc r.key (invert y)).map oddParity

/-- The session key of a diversification value (05 R161): its third byte is F0 and 0F in the two halves; an AES-128 key takes
the value as it is. -/
def emvSession (aes : Bool) (mk r : List Byte) : List Byte :=
  let v (x : Byte) : List Byte := splice r 2 [x]
  if aes then
    let z (b : List Byte) : List Byte := fit 16 b
    if mk.length = 16 then aesEnc mk (z r) else (aesEnc mk (z (v 0xF0)) ++ aesEnc mk (z (v 0x0F))).take mk.length
  else tdesEnc mk (v 0xF0) ++ tdesEnc mk (v 0x0F)

/-- The cryptogram MAC under a session key (05 R161). -/
def emvMac (aes : Bool) (sk m : List Byte) : List Byte :=
  if aes then (cmac (aesCipher sk) m).take 8 else macAlg3 sk (macPad 2 8 m)

/-- The cipher under a session key. -/
def emvCipher (aes : Bool) (sk : List Byte) : Cipher := if aes then aesCipher sk else tdesCipher sk

/-- The data of an EMV command. -/
def emvData (c : Ctx) : List Byte := if dSgl c.d then c.data else slice c.d 0x60 (bits c.prm 15 8)

/-- What an EMV command adds to the checks that all share (05 R135, R162): mask, the bits of CMD_PARAM it uses beside DATA_LEN; own,
the range test of those bits; tail, its further format checks; need, the bytes that it writes through the output list. -/
structure EmvForm where
  mask : Nat
  own  : Ctx → KeyRec → Bool := fun _ _ => false
  tail : Ctx → List (Bool × Nat) := fun _ => []
  need : Ctx → KeyRec → Nat := fun _ _ => 0

/-- Format checks that the EMV commands share (05 R162). DESIGN CHOICE: with SGL = 1 DATA_LEN must be 0 (log 92). -/
def emvFormat (c : Ctx) (mask : Nat) (own : Bool) : List (Bool × Nat) :=
  let d := c.d
  let b := c.base
  let n := bits c.prm 15 8
  let stray := c.prm % 2 ^ 64 &&& (2 ^ 64 - 1 - mask - 0xFF00) != 0
  [(!dSgl d && dInLen d != 32 + n, 0x04)] ++ unusedKeys d ++
    [(stray || own || (if dSgl d then n != 0 else decide (32 < n)), 0x38), (byteAt d (b + 0x0B) != 0, b + 0x0B),
     (!zeroAt d (b + 0x1C) (b + 0x20), b + 0x1C)]

/-- The checks of the EMV data (05 R135 items 2 and 3, R137, R161, R162): the status of the first failure or the PAN. need is what the
command writes through the output list. -/
def emvChecks (c : Ctx) (need : Nat) : Except Nat (List Nat) :=
  let e := emvOf c
  if dSgl c.d ∧ (c.data = [] ∨ 1024 < c.data.length) then .error 0x0009
  else if c.room < need then .error 0x000A
  else match panOf e.pan with
    | none => .error 0x0042
    | some pan =>
      if 16 < pan.length ∨ (nibbles [e.psn]).any (fun x => decide (9 < x)) ∨ (!dSgl c.d ∧ bits c.prm 15 8 = 0) then .error 0x004B
      else .ok pan

/-- An EMV command's work once its checks have passed; k takes the PAN. -/
def emvWork (f : EmvForm) (k : State → Ctx → List Nat → Res) : Work := pureWork (fun s c =>
  orFormat (emvFormat c f.mask (f.own c (keyAt s c 0)) ++ f.tail c) Res.fail
    (match emvChecks c (f.need c (keyAt s c 0)) with
      | .error e => .fail e 0
      | .ok pan => k s c pan))

/-- The session key of a command: for cryptograms by the ATC, for secure messaging by the ARQC (05 R161, R164). -/
def emvKey (s : State) (c : Ctx) (pan : List Nat) (sm : Bool) : List Byte :=
  let r := keyAt s c 0
  let e := emvOf c
  emvSession (isAes r.alg) (iccMaster r pan e.psn) (if sm then e.arqc else e.atc ++ zeros 6)

/-- The work of ARQC_VERIFY (05 R161 to R163). -/
def arqcVerifyBody : Work := emvWork
    { mask := 0x3, own := fun c r => bits c.prm 1 0 == 3 || (bits c.prm 1 0 == 1 && isAes r.alg) }
    (fun t c pan =>
      let aes := isAes (keyAt t c 0).alg
      let e := emvOf c
      let sk := emvKey t c pan false
      let m := bits c.prm 1 0
      if emvMac aes sk (emvData c) ≠ e.arqc then .fail 0x004A 0
      else .fin (Cpl.ok (if m = 0 then []
        else if m = 1 then tdesEnc sk (xorB e.arqc (e.arc ++ zeros 6))
        else (emvMac aes sk (e.arqc ++ e.csu)).take 4)))

/-- ARQC_VERIFY (05 R161 to R163). -/
def execArqcVerify (qp asn : Nat) (s : State) : Host.Outcome State Fault Refusal :=
  dataCommand qp asn 0x0501 arqcVerifyBody s

/-- The work of SM_MAC_GENERATE (05 R161, R162, R164). -/
def smMacGenerateBody : Work := emvWork
    { mask := 0xFF000000, own := fun c _ => decide (bits c.prm 31 24 < 4 ∨ 8 < bits c.prm 31 24) }
    (fun t c pan =>
      .fin (Cpl.ok ((emvMac (isAes (keyAt t c 0).alg) (emvKey t c pan true) (emvData c)).take (bits c.prm 31 24))))

/-- SM_MAC_GENERATE (05 R161, R162, R164). -/
def execSmMacGenerate (qp asn : Nat) (s : State) : Host.Outcome State Fault Refusal :=
  dataCommand qp asn 0x0502 smMacGenerateBody s

/-- The work of SM_PIN_CHANGE (05 R143 to R145, R162, R164): PIN_BLOCK is its 16 bytes of data. -/
def smPinChangeBody : Work := emvWork
    { mask := 0x70, own := fun c _ => decide (4 < bits c.prm 6 4) || (bits c.prm 15 8 != 0 && bits c.prm 15 8 != 16),
      tail := fun c => [(!zeroAt c.d (0x60 + fmtSize (bits c.prm 6 4)) 0x70, 0x60)] }
    (fun t c pan =>
      let f := bits c.prm 6 4
      let x := pinOpenField f (keyAt t c 1).cipher pan (slice c.d 0x60 (fmtSize f))
      if f = 2 then .fail 0x0043 0
      else match pinFieldBad f x with
        | some e => .fail e 0
        | none =>
          let k := emvCipher (isAes (keyAt t c 0).alg) (emvKey t c pan true)
          .fin (Cpl.ok (cbcEnc k (zeros k.size) ([0x08] ++ outField f 2 x [] ++ [0x80] ++ zeros 6))))

/-- SM_PIN_CHANGE (05 R143 to R145, R162, R164). -/
def execSmPinChange (qp asn : Nat) (s : State) : Host.Outcome State Fault Refusal :=
  dataCommand qp asn 0x0503 smPinChangeBody s

/-- Bytes that SM_DATA_ENCIPHER writes through the output list: the padded data where it does not fit in RESULT (05 R164). -/
def encipherNeed (c : Ctx) (r : KeyRec) : Nat :=
  let k := if isAes r.alg then 16 else 8
  let n := ((emvData c).length / k + 1) * k
  if n ≤ 32 then 0 else n

/-- The work of SM_DATA_ENCIPHER (05 R161, R162, R164). -/
def smDataEncipherBody : Work := emvWork { mask := 0, need := encipherNeed } (fun t c pan =>
    let k := emvCipher (isAes (keyAt t c 0).alg) (emvKey t c pan true)
    let out := cbcEnc k (zeros k.size) (macPad 2 k.size (emvData c))
    if out.length ≤ 32 then .fin (Cpl.ok out) else listOut c out [])

/-- SM_DATA_ENCIPHER (05 R161, R162, R164). -/
def execSmDataEncipher (qp asn : Nat) (s : State) : Host.Outcome State Fault Refusal :=
  dataCommand qp asn 0x0504 smDataEncipherBody s

end Sys2Proof.Machine
end

