-- ==== Sys2Proof/Machine/FmpRows.lean ====
section
/-!
DEFINITION. The management port's events: session set-up, flow control, time-outs, the heartbeat, bus faults and the restart
(10 R319 to R326, R338, R348).
-/

namespace Sys2Proof.Machine

open Sys2Proof

/-- A node number that a console can have (10 R320, R321). -/
def consoleOk (n : Nat) : Bool := decide (1 ≤ n ∧ n ≤ 127)

/-- An ACK frame has been received: source FMP_RX (09 R316; 10 R348; log 46). -/
def heard (s : State) : State := raiseModule (countRx s 1) 0x78

/-- Bytes of a HELLO and of a FINISH (10 R324). -/
abbrev helloLen : Nat := 1321
abbrev finishLen : Nat := 3413

/-- The node's HELLOs are ignored now (10 R324). -/
def shutOut (s : State) (node : Nat) : Bool := s.fmp.ignored.any (fun x => x.1 == node && decide (s.now < x.2))

/-- A HELLO's role with its scope and index (10 R324). -/
def helloOk (role scope index : Nat) : Bool :=
  (role == 1 && decide (index < 8)) || (role == 2 && decide (index < 16) && (scope == 0xFFFF || decide (scope < 4096)))

/-- The body of a HELLO: NONCE_C, ECDH_C and EK_C, a point of P-384 and an ML-KEM-768 key that their rules accept (10 R324; 06
R204). -/
def helloBodyOk (body : List Byte) : Bool :=
  body.length == 1313 && (p384.decode (slice body 32 97)).isSome && kemPubOk (kemSet 0x51) (slice body 129 1184)

/-- The handshakes of a node are dropped: those answered and those that wait (10 R324). -/
def dropAttempts (s : State) (node : Nat) : State :=
  modFmp s (fun f => { f with attempts := f.attempts.filter (fun x => x.node != node), hellos := f.hellos.filter (fun x => x.node != node) })

/-- FMP_HELLO (10 R323, R324): an earlier attempt of the node gives way. -/
def execFmpHello (node role scope index : Nat) (body : List Byte) (s : State) : Host.Outcome State Fault Refusal :=
  done s
    (if !canSend s ∨ !consoleOk node then s
     else if shutOut s node ∨ !helloOk role scope index ∨ !helloBodyOk body then receive s node helloLen
     else serveHello (dropAttempts (receive s node helloLen) node)
       { node := node, role := role, scope := scope, index := index, body := body, since := s.now })

/-- The entry that an attempt names (10 R336). -/
def attemptEntry (s : State) (a : Attempt) : List Byte :=
  if a.role = 1 then objBytes s 0x1120 (1 + a.index) 2073 else rosterEntry s a.scope a.index

/-- No manager console is enrolled (10 R338). -/
def consolesEmpty (s : State) : Bool := (List.range 8).all (fun n => byteAt (objBytes s 0x1120 (1 + n) 2073) 0 != 1)

/-- A FINISH that opens its session (10 R324, R338): its signatures of TH2 hold under the enrolled entry, or a MANAGER's are all zero
before FIELD while no console is enrolled. -/
def finishOk (s : State) (a : Attempt) (sigEc sigPq : List Byte) : Bool :=
  let e := attemptEntry s a
  (byteAt e 0 == 1 && entrySigsOk e a.th2 sigEc sigPq) ||
    (a.role == 1 && decide (lifeCycle s < 3) && consolesEmpty s && sigEc == zeros 96 && sigPq == zeros 3309)

/-- DATA of the session events: node, role, scope (14 R414). -/
def nodeData (node role scope : Nat) : List Byte := leBytes 1 node ++ leBytes 1 role ++ leBytes 2 scope

/-- A failed attempt (10 R324): recorded; the fifth from one node within 60 s shuts its HELLOs out for 60 s. -/
def failAttempt (s : State) (a : Attempt) : State :=
  let recent := s.fmp.fails.filter (fun x => x.1 == a.node && decide (s.now < x.2 + 60000000))
  let s1 := record s 0x1013 0 0 (nodeData a.node a.role a.scope)
  if 4 ≤ recent.length then
    modFmp s1 (fun f => { f with fails := f.fails.filter (fun x => x.1 != a.node),
                                 ignored := (a.node, s.now + 60000000) :: f.ignored.filter (fun x => x.1 != a.node) })
  else modFmp s1 (fun f => { f with fails := (a.node, s.now) :: f.fails })

/-- A key slot of the service engine for a session, in the world of its role, where one of the 16 is free (06 R193; 10
R323). -/
def takeSvcSlot (s : State) (sid : Nat) (trusted : Bool) (keys : List Byte) : State :=
  match ((List.range 16).drop 1).find? (fun n => (tblFind s.svc.slots n).isNone) with
  | none => s
  | some n => { s with svc := { s.svc with slots := tblSet s.svc.slots n { trusted := trusted, sid := sid, key := keys } } }

/-- Open the session of an attempt (10 R323, R325): one for each node and role; its first message is an empty response with
CTR 0. -/
def openSession (s : State) (a : Attempt) : State :=
  let s1 := endSessions s (fun x => x.node == a.node && x.role == a.role)
  let x : Session := { sid := a.sid, node := a.node, role := a.role, scope := a.scope, index := a.index, opened := s.evr.opMs,
                       last := s.now, ctrIn := 0, ctrOut := 0, keys := a.keys }
  let s2 := modFmp s1 (fun f => { f with sessions := f.sessions ++ [x] })
  record (sendSession (takeSvcSlot s2 a.sid (a.role == 2) a.keys) 0x4 a.sid []) 0x1012 0 0 (nodeData a.node a.role a.scope)

/-- FMP_FINISH (10 R324, R325, R338): a FINISH with no attempt is ignored. -/
def execFmpFinish (node : Nat) (sigEc sigPq : List Byte) (s : State) : Host.Outcome State Fault Refusal :=
  done s
    (if !canSend s ∨ !consoleOk node then s
     else match s.fmp.attempts.find? (fun x => x.node == node) with
      | none => receive s node finishLen
      | some a =>
        let t := modFmp (receive s node finishLen) (fun f => { f with attempts := f.attempts.filter (fun x => x.node != node) })
        if finishOk s a sigEc sigPq then openSession t a else failAttempt t a)

/-- The segment that an ACK's NEXT_SEQ names, counted from the first: SEQ wraps at 64 and the window is 32 (10 R321,
R322). -/
def ackedTo (x : FmpTx) (next : Nat) : Nat := x.acked + (next + 64 - x.acked % 64) % 64

/-- An ACK for the transfer in progress (10 R322): 0 goes on from NEXT_SEQ, 1 resends from it, 2 abandons. -/
def serveAck (s : State) (x : FmpTx) (next status : Nat) : State :=
  let n := ackedTo x next
  if status = 2 then endTx s x.node
  else if x.sent < n ∨ 2 < status then s
  else if status = 1 then
    sendWindow (modTx s x.node (fun y => some { y with acked := n, sent := n })) x.node
  else if n = x.segs then raiseModule (endTx s x.node) 0x79
  else sendWindow (modTx s x.node (fun y => some { y with acked := n, resends := 0 })) x.node

/-- FMP_ACK (10 R322; 09 R316). -/
def execFmpAck (node xfer next status : Nat) (s : State) : Host.Outcome State Fault Refusal :=
  done s
    (if !canSend s ∨ !consoleOk node ∨ 63 < next then s
     else match txOf s node with
      | none => heard s
      | some x => if x.xfer = xfer then serveAck (heard s) x next status else heard s)

/-- FMP_ACK_TIMEOUT (10 R322): after 50 ms the sender resends from the last acknowledged segment, and after three resends it
abandons the transfer. -/
def execFmpAckTimeout (node : Nat) (s : State) : Host.Outcome State Fault Refusal :=
  done s (match txOf s node with
    | none => s
    | some x =>
      let t := advanceTo s (x.since + 50000)
      if x.resends < 3 then
        sendWindow (modTx t node (fun y => some { y with sent := y.acked, resends := y.resends + 1 })) node
      else endTx t node)

/-- The first segments of a message arrive from a node, and no more: they are held, and each 32nd is acknowledged (10 R322). -/
def holdPartial (s : State) (node segs : Nat) : State :=
  let x := tblGet 0 s.fmp.rxXfer node
  let t := ((List.range segs).filter (fun k => (k + 1) % 32 == 0)).foldl
    (fun u k => sendFrame u 0x6 node (ackBytes node x (k + 1) 0)) (countRx s segs)
  modFmp t (fun f => { f with rxXfer := tblSet f.rxXfer node ((x + 1) % 256),
                              rx := f.rx ++ [{ node := node, xfer := x, next := segs % 64, since := s.now }] })

/-- FMP_PARTIAL_TIMEOUT (10 R322; log 46): where no partial message of the node is held, the first segs segments of one arrive; where
one is, 1 s has passed without a segment, and it is discarded. -/
def execFmpPartialTimeout (node segs : Nat) (s : State) : Host.Outcome State Fault Refusal :=
  done s (match s.fmp.rx.find? (fun x => x.node == node) with
    | none => if !canSend s ∨ !consoleOk node ∨ segs = 0 then s else raiseModule (holdPartial s node segs) 0x78
    | some x =>
      modFmp (advanceTo s (x.since + 1000000)) (fun f => { f with rx := f.rx.filter (fun y => y.node != node) }))

/-- The content of a heartbeat (10 R320): life-cycle value, HALT, gate level, open sessions, a byte each (log 53). -/
def beatBytes (s : State) : List Byte :=
  leBytes 1 (lifeCycle s) ++ leBytes 1 (b2n s.tamper.halt) ++ leBytes 1 s.power.gate ++ leBytes 1 s.fmp.sessions.length

/-- FMP_HEARTBEAT (10 R320): 1 s after the last one. -/
def execFmpHeartbeat (s : State) : Host.Outcome State Fault Refusal :=
  done s (if !s.fmp.serving then s
    else
      let t := advanceTo s (s.fmp.beat + 1000000)
      sendFrame (modFmp t (fun f => { f with beat := t.now })) 0x7 0 (beatBytes t))

/-- The state of fault confinement at error counts (10 R319, R348; ISO 11898-1): error-passive above 127, bus-off above 255 transmit
errors. -/
def busStateAt (tec rec : Nat) : Nat := if 255 < tec then 2 else if 127 < tec ∨ 127 < rec then 1 else 0

/-- The error counters of the port move to these values; at bus-off the event is counted, raised and recorded (10 R319; 14 R414). -/
def countErrors (s : State) (tec rec : Nat) : State :=
  let t := modFmp s (fun f => { f with busState := busStateAt tec rec, tec := tec, rxErr := rec })
  if busStateAt tec rec = 2 then
    record (raiseModule (modFmp t (fun f => { f with busOff := (f.busOff + 1) % 2 ^ 32, offAt := s.now })) 0x7A)
      0x1010 0 0 (nodeData s.fmp.node 0 0)
  else t

/-- 128 occurrences of 11 recessive bits at 1 Mbit/s, in µs (10 R318, R319). -/
abbrev offTime : Nat := 128 * 11

/-- The port recovers from bus-off: its counts are 0, and each node's transfer goes on (10 R319). -/
def recoverBus (s : State) : State :=
  let t := modFmp (advanceTo s (s.fmp.offAt + offTime)) (fun f => { f with busState := 0, tec := 0, rxErr := 0 })
  (t.fmp.tx.map (fun x => x.node)).eraseDups.foldl sendWindow t

/-- FMP_BUS_OFF (10 R319; log 46): an error moves the counters of the port, which above 255 transmit errors is bus-off; where it is
bus-off, the recovery that follows. -/
def execFmpBusOff (tec rec : Nat) (s : State) : Host.Outcome State Fault Refusal :=
  done s (if !s.fmp.serving then s else if s.fmp.busState = 2 then recoverBus s else countErrors s tec rec)

/-- FMP_DUP_NODE (10 R319; 14 R414): a frame under the Q4's own node ID that it did not send. -/
def execFmpDupNode (s : State) : Host.Outcome State Fault Refusal :=
  done s (if !canSend s then s
    else
      let t := modFmp s (fun f => { f with dupNode := (f.dupNode + 1) % 2 ^ 32 })
      record (raiseModule t 0x7A) 0x1011 0 0 (nodeData s.fmp.node 0 0))

/-- FMP_HANDSHAKE_TIMEOUT (10 R324): an attempt not finished within 10 s. -/
def execFmpHandshakeTimeout (node : Nat) (s : State) : Host.Outcome State Fault Refusal :=
  done s (match (s.fmp.attempts.filter (fun x => x.node == node)).map (fun x => x.since) ++
      (s.fmp.hellos.filter (fun x => x.node == node)).map (fun x => x.since) with
    | [] => s
    | t :: _ => dropAttempts (advanceTo s (t + 10000000)) node)

/-- FMP_LOCKOUT_END (10 R324): the 60 s of a node are over. -/
def execFmpLockoutEnd (node : Nat) (s : State) : Host.Outcome State Fault Refusal :=
  done s (match s.fmp.ignored.find? (fun x => x.1 == node) with
    | none => s
    | some x => modFmp (advanceTo s x.2) (fun f => { f with ignored := f.ignored.filter (fun y => y.1 != node) }))

/-- FMP_IDLE_EXPIRY (10 R326): FMP_IDLE_S seconds without a message end the session. -/
def execFmpIdleExpiry (sid : Nat) (s : State) : Host.Outcome State Fault Refusal :=
  done s (match sessionOf s sid with
    | none => s
    | some x => endSessions (advanceTo s (x.last + 1000000 * objNat s 0x1110 0x02 600)) (fun y => y.sid == sid))

/-- The port restarts (10 R326, R348): every session ends, nothing is in progress, and the node, the rate and the
termination take their objects' values. -/
def restartPort (s : State) : State :=
  let t := endSessions s (fun _ => true)
  modFmp t (fun f =>
    { Fmp.reset with busOff := f.busOff, dupNode := f.dupNode, framesRx := f.framesRx, framesTx := f.framesTx, fails := f.fails,
                     ignored := f.ignored, serving := true, node := objNat t 0x1100 0x01 1, rate := objNat t 0x1100 0x02 8,
                     term := objNat t 0x1100 0x03 1, beat := t.now })

/-- FMP_PORT_RESTART (10 R326, R348). -/
def execFmpPortRestart (path : Path) (v : Nat) (s : State) : Host.Outcome State Fault Refusal :=
  done s (onWrite s path .rwb 0x1100 0x04 (leBytes 1 v) (fun t =>
    if v ≠ 1 then answer t path 0x0008 [] else restartPort (answer t path 0 [])))

end Sys2Proof.Machine
end

