-- ==== Sys2Proof/Machine/Kop.lean ====
section
/-!
DEFINITION. Key use by scripts: KOP and its functions, tickets and their tokens, random words, and how a script ends
(09 R299 to R303; 03 R83 to R88; 08 R269 to R271).
-/

namespace Sys2Proof.Machine

open Sys2Proof

/-- The functions of 09 R300. -/
def kopFuncs : List Nat := [0x001, 0x002, 0x010, 0x011, 0x012, 0x013, 0x020, 0x021, 0x030, 0x040, 0x050, 0x060, 0x070]

/-- Is the operand block of a function well formed (09 R299, R300)? Where the table leaves a part of it unused, it must be
zero (log 40). -/
def kopArgsOk (t : Ticket) (rsvd : Bool) : Bool :=
  let n := t.inline.length
  let p := t.param
  let fmt (x : Nat) : Bool := x == 0 || x == 1 || x == 3 || x == 4
  let own : Bool := match t.func with
    | 0x001 => p == 0 && (if t.inA.isSome then n == 0 else n == 8 || n == 16)
    | 0x002 => p == 0 && (if t.inA.isSome then n == 0 else n == 8 || n == 16)
    | 0x010 => decide (4 ≤ p ∧ p ≤ 16)
    | 0x011 => decide (4 ≤ p ∧ p ≤ 16) && t.inB.isSome
    | 0x012 => decide (10 ≤ p % 256 ∧ p % 256 ≤ 32 ∧ p / 256 ≤ 3)
    | 0x013 => decide (10 ≤ p % 256 ∧ p % 256 ≤ 32 ∧ p / 256 ≤ 3) && t.inB.isSome
    | 0x020 => n == 26 && fmt p
    | 0x021 => n == 10 && fmt p && t.inA.isSome
    | 0x030 => decide (p ≤ 0xFFF)
    | 0x040 => n == 4 && p == 0
    | 0x050 => [0x01, 0x02, 0x03, 0x11, 0x12, 0x13, 0x21, 0x22].contains p && t.key == 0
    | 0x060 => true
    | 0x070 => n == 4 && decide (1 ≤ p ∧ p ≤ 32) && t.key == 0
    | _ => false
  own && !rsvd && (!t.sensOut || t.func == 0x002)

/-- The step that an operand block describes (09 R299); its reserved bits and a LEN past 32 aside. -/
def ticketOf (func key : Nat) (b : List Byte) : Ticket :=
  let opt (x : Nat) : Option Nat := if x = 0xFFFF then none else some x
  { func := func, key := key, inA := opt (field b 0 2), inB := opt (field b 2 2), inline := slice b 8 (min 32 (field b 4 1)),
    sensOut := bit (field b 5 1) 0, param := field b 6 2, stage := 0, held := none, tok := none, arrived := false }

/-- Matching-store entries of a step that has not fired: its tokens, its inline input and its key (03 R83, R87; log 40). -/
def operandCount (t : Ticket) : Nat :=
  t.inA.toList.length + t.inB.toList.length + (if t.key = 0 then 0 else 1) + (if t.inline.isEmpty then 0 else 1)

/-- Entries held by the steps of a core that have not fired (03 R87). -/
def operandsHeld (k : EloaCore) : Nat := ((k.tickets.filter Ticket.toFire).map operandCount).sum

/-- KOP (09 R299): PRIV on a management core; STEPS, TICKET and KOPARG in that order; a tenant script waits at issue while
its steps would hold more than 16 entries (03 R87). -/
def kopWord (c : Nat) (rd ra rb : Reg) (func : Nat) (s : State) : Except Stop State :=
  let k := coreOf s c
  let a := (reg k rb.toNat).toNat
  if !regsOk [rd, ra, rb] ∨ ra.toNat % 2 = 1 ∨ ra.toNat = 24 then .error (.fault fltUndef)
  else if 64 ≤ c then .error (.fault fltPriv)
  else if 64 ≤ k.tickets.length then .error (.fault fltSteps)
  else if a % 8 ≠ 0 then .error (.fault fltAlign)
  else if dataSize c < a + 40 then .error (.fault fltRange)
  else
    let b := Memory.read k.mem a 40
    let t := ticketOf func ((reg k ra.toNat).toNat + 2 ^ 32 * (reg k (ra.toNat + 1)).toNat) b
    let rsvd := decide (32 < field b 4 1 ∨ 2 ≤ field b 5 1)
    if t.waitsFor.any (fun i => decide (k.tickets.length ≤ i)) then .error (.fault fltTicket)
    else if !kopArgsOk t rsvd then .error (.fault fltKoparg)
    else if isS3 c ∧ 16 < operandsHeld k + operandCount t then .ok s
    else .ok (modCore s c (fun x =>
      let x1 := writeReg { x with tickets := x.tickets ++ [t] } rd.toNat (BitVec.ofNat 32 x.tickets.length)
      addCycles { x1 with pc := x1.pc + 4 } 11))

/-- KOP (09 R299). -/
def execKop (c : Nat) (rd ra rb : Reg) (func : BitVec 9) (s : State) : Host.Outcome State Fault Refusal :=
  execWord c (kopWord c rd ra rb func.toNat) s

/-- Ticket i of a core. -/
def tickOf (k : EloaCore) (i : Nat) : Option Ticket := k.tickets[i]?

/-- The token of ticket i once it has arrived at the core (09 R301). -/
def arrivedTok (k : EloaCore) (i : Nat) : Option Token :=
  match tickOf k i with
  | some t => if t.arrived then t.tok else none
  | none => none

/-- The header of a token as WAITT gives it (09 R301). -/
def tokWord (t : Token) : Word :=
  BitVec.ofNat 32 (t.status + 65536 * t.value.length + 2 ^ 22 * t.kind + 2 ^ 25 * b2n t.sens)

/-- Z of a token's status alone (09 R301). -/
def FlagSet.zero (b : Bool) : FlagSet := { FlagSet.keep with z := some b }

/-- WAITT goes on with its token (09 R301). -/
def waittDone (k : EloaCore) (rd : Nat) (t : Token) : EloaCore := resumeWith k rd (tokWord t) (FlagSet.zero (t.status == 0)) 1

/-- RDT goes on with its token (09 R301): RANGE where the bytes do not lie in data memory. -/
def rdtDone (c : Nat) (k : EloaCore) (rd a : Nat) (t : Token) : Except Stop EloaCore :=
  if t.sens then .ok (resumeWith k rd 0 (FlagSet.ov true) 1)
  else if dataSize c < a + t.value.length then .error (.fault fltRange)
  else .ok (resumeWith { k with mem := Memory.write k.mem a t.value } rd (BitVec.ofNat 32 t.value.length) (FlagSet.ov false)
    (1 + cdiv t.value.length 4))

/-- WAITT: the token is at hand, or the core waits (09 R301). -/
def waittWord (c : Nat) (rd ra : Reg) (s : State) : Except Stop State :=
  let k := coreOf s c
  let i := (reg k ra.toNat).toNat
  if !regsOk [rd, ra] then .error (.fault fltUndef)
  else if 64 ≤ c then .error (.fault fltPriv)
  else if k.tickets.length ≤ i then .error (.fault fltTicket)
  else match arrivedTok k i with
    | some t => .ok (modCore s c (fun x => waittDone x rd.toNat t))
    | none => .ok (modCore s c (fun x => { x with wait := .waitt rd.toNat i }))

/-- WAITT (09 R301). -/
def execWaitt (c : Nat) (rd ra : Reg) (s : State) : Host.Outcome State Fault Refusal := execWord c (waittWord c rd ra) s

/-- RDT: the token is at hand, or the core waits (09 R301). -/
def rdtWord (c : Nat) (rd ra rb : Reg) (s : State) : Except Stop State :=
  let k := coreOf s c
  let i := (reg k ra.toNat).toNat
  let a := (reg k rb.toNat).toNat
  if !regsOk [rd, ra, rb] then .error (.fault fltUndef)
  else if 64 ≤ c then .error (.fault fltPriv)
  else if k.tickets.length ≤ i then .error (.fault fltTicket)
  else match arrivedTok k i with
    | none => .ok (modCore s c (fun x => { x with wait := .rdt rd.toNat i a }))
    | some t =>
      match rdtDone c k rd.toNat a t with
      | .error x => .error x
      | .ok k' => .ok (modCore s c (fun _ => k'))

/-- RDT (09 R301). -/
def execRdt (c : Nat) (rd ra rb : Reg) (s : State) : Host.Outcome State Fault Refusal := execWord c (rdtWord c rd ra rb) s

/-- RND (09 R302; 13 R401): four bytes of the core's DRBG, 0 with V = 1 while it is blocked, or the core waits. The script has drawn random
data with it, delivered or not (08 R271). -/
def rndWord (c : Nat) (rd : Reg) (s : State) : Except Stop State :=
  if !regsOk [rd] then .error (.fault fltUndef)
  else
    let w (k : EloaCore) : EloaCore := { k with wait := .rnd rd.toNat, drew := true }
    match drawRandom s (drbgOfCore c) 4 with
    | .bytes b t => .ok (modCore t c (fun k => rndDone (w k) (some b)))
    | .blocked => .ok (modCore s c (fun k => rndDone (w k) none))
    | .waits => .ok (modCore s c w)

/-- RND (09 R302). -/
def execRnd (c : Nat) (rd : Reg) (s : State) : Host.Outcome State Fault Refusal := execWord c (rndWord c rd) s

/-- The bytes of a source of a result block: data memory, or a ticket's token, TICKET for one that has not been issued (09 R303, R305). -/
def sourceBytes (c : Nat) (k : EloaCore) (src len : Nat) : Except Nat (List Byte) :=
  if src < 2 ^ 31 then (if src + len ≤ dataSize c then .ok (Memory.read k.mem src len) else .error fltEndarg)
  else if bits src 30 6 ≠ 0 then .error fltEndarg
  else if k.tickets.length ≤ bits src 5 0 then .error fltTicket
  else match arrivedTok k (bits src 5 0) with
    | some t => if t.sens ∨ t.value.length < len then .error fltEndarg else .ok (t.value.take len)
    | none => .error fltEndarg

/-- The output pieces of a result block, in order (09 R303). -/
def piecesOf (c : Nat) (k : EloaCore) (b : List Byte) (n : Nat) : Except Nat (List Byte) :=
  (List.range n).foldl (fun o i => o.bind (fun x =>
    (sourceBytes c k (field b (8 * i) 4) (field b (8 * i + 4) 4)).map (fun y => x ++ y))) (.ok [])

/-- The most output a script may give: MAX_OUT of a tenant script, the M of a command that has one (09 R303). -/
def maxOutput (s : State) (c : Nat) (e : Entry) : Option Nat :=
  if isS3 c then e.image.map (fun x => x.maxOut)
  else if e.se then (rowOf s (qpOf s e.qp).partition e.desc).map (fun r => r.m)
  else none

/-- The completion status codes of 02 R69. -/
def cplCodes : List Nat :=
  List.range 11 ++ (List.range 14).map (fun i => 0x10 + i) ++ (List.range 15).map (fun i => 0x40 + i) ++
    [0x70, 0x71, 0x72, 0x73, 0x80, 0x81, 0x82, 0x83, 0xF0, 0xF1]

/-- May the script give this STATUS (09 R303)? A standard script any code of 02 R69, a tenant script only 0 or one returned on its own
tickets. -/
def statusOk (c : Nat) (k : EloaCore) (st : Nat) : Bool :=
  if isS3 c then st == 0 || k.tickets.any (fun t => t.arrived && t.tok.any (fun x => x.status == st)) else cplCodes.contains st

/-- The result build of END (09 R303): the completion, or the fault. A status other than OK carries no result (02 R68). -/
def buildResult (s : State) (c : Nat) (e : Entry) (a : Nat) : Except Nat Cpl :=
  let k := coreOf s c
  let b := Memory.read k.mem a 16
  let n := field b 5 1
  let st := field b 0 2
  let bad := decide (32 < field b 4 1 ∨ 8 < n ∨ field b 6 2 ≠ 0 ∨ field b 12 4 ≠ 0 ∨ dataSize c < a + 16 + 8 * n)
  if bad || !statusOk c k st then .error fltEndarg
  else do
    let r ← sourceBytes c k (field b 8 4) (field b 4 1)
    let o ← piecesOf c k (Memory.read k.mem (a + 16) (8 * n)) n
    let room := if dSgl e.desc then dOutTotal e.desc else 0
    if (maxOutput s c e).any (fun m => decide (m < o.length)) then .error fltEndarg
    else if room < o.length then .ok (Cpl.fail 0x000A 0)
    else if st ≠ 0 then .ok (Cpl.fail st (field b 2 2))
    else .ok { status := 0, detail := field b 2 2, result := r, out := o, outLen := o.length, cflags := 0 }

/-- Every issued step of a core has delivered its token (09 R303). -/
def allArrived (k : EloaCore) : Bool := k.tickets.all (fun t => t.arrived)

/-- END once every token is at hand: the descriptor ends with its result, or with a fault (08 R271; 09 R303). -/
def endNow (s : State) (c a : Nat) : Except Stop State :=
  match coreEntry s c with
  | none => .ok s
  | some e =>
    match buildResult s c e a with
    | .error n => .error (.fault n)
    | .ok r => .ok (endScript s c (r.status == 0) r)

/-- END (09 R303): a misaligned block gives ALIGN, one outside data memory RANGE. Its 4 cycles are counted before it waits (R291). -/
def endWord (c : Nat) (ra : Reg) (s : State) : Except Stop State :=
  let k := coreOf s c
  let a := (reg k ra.toNat).toNat
  if !regsOk [ra] then .error (.fault fltUndef)
  else if 64 ≤ c then .error (.fault fltPriv)
  else if a % 8 ≠ 0 then .error (.fault fltAlign)
  else if dataSize c < a + 16 then .error (.fault fltRange)
  else
    let t := modCore s c (fun x => addCycles x 4)
    if allArrived k then endNow t c a else .ok (modCore t c (fun x => { x with wait := .endAt a }))

/-- END (09 R303). -/
def execEndOp (c : Nat) (ra : Reg) (s : State) : Host.Outcome State Fault Refusal := execWord c (endWord c ra) s

/-- ABORT (08 R271; 09 R291). -/
def execAbort (c : Nat) (imm : BitVec 16) (s : State) : Host.Outcome State Fault Refusal :=
  execWord c (fun s =>
    if 64 ≤ c then .error (.fault fltPriv)
    else .ok (endScript (modCore s c (fun x => addCycles x 1)) c false (Cpl.fail stScriptAborted imm.toNat))) s

/-- A core that waits for tokens goes on where it now can (09 R301, R303). -/
def resumeCore (s : State) (c : Nat) : Except Stop State :=
  let k := coreOf s c
  match k.wait with
  | .waitt rd i =>
    (match arrivedTok k i with
    | some t => .ok (modCore s c (fun x => waittDone x rd t))
    | none => .ok s)
  | .rdt rd i a =>
    (match arrivedTok k i with
    | some t => (match rdtDone c k rd a t with
      | .error x => .error x
      | .ok k' => .ok (modCore s c (fun _ => k')))
    | none => .ok s)
  | .endAt a => if allArrived k then endNow s c a else .ok s
  | _ => .ok s

/-- A token arrives at a script core: it is raised as the core's TOKEN source, and a core that waited for it goes on
(09 R301, R303, R315). The waiting word completes with the arrival; what the source delivers follows it. -/
def tokenArrives (s : State) (c i : Nat) : State :=
  let s1 := modTicket s c i (fun x => { x with arrived := true })
  let (u, n) := unitOf c
  match resumeCore s1 c with
  | .error (.fault f) => takeFault s1 c f
  | .ok t => raiseSource (coreTimers t c) u n

/-- TOKEN_ARRIVAL (09 R301): the step has emitted the token and it has not arrived yet. -/
def execTokenArrival (c ticket : Nat) (s : State) : Host.Outcome State Fault Refusal :=
  guardUnit (scriptOk c) c s
    (match tickOf (coreOf s c) ticket with
    | some t => if t.tok.isSome && !t.arrived && !s.tamper.halt then tokenArrives s c ticket else s
    | none => s)

/-- SCRIPT_BUDGET_EXCEEDED (08 R270): a tenant script whose budget is used up ends; it has no effect (R271). -/
def execScriptBudgetExceeded (c : Nat) (s : State) : Host.Outcome State Fault Refusal :=
  guardUnit (scriptOk c) c s
    (if budgeted s c && (coreOf s c).ctl.budget == 0 && (coreEntry s c).any (fun e => e.cpl.isNone) then
      endScript s c false (Cpl.fail stScriptBudget 0)
    else s)

/-- What a KOP step sees when it fires: its descriptor, partition, ticket, key and the values of its inputs. -/
structure KopIn where
  e   : Entry
  p   : Nat
  i   : Nat
  tk  : Ticket
  key : KeyRec
  a   : List Byte
  b   : List Byte

/-- What a KOP step comes to: a token with a value, a value kept in the sensitive store, a key-ready token, a status token; none before
its engine is done; it does not fire yet; or a blocked random read, which ends the descriptor (13 R401). -/
inductive KopOut where
  | data (v : List Byte)
  | sens (v : List Byte)
  | ready (n : CacheName)
  | status (st : Nat)
  | none
  | wait
  | blocked

/-- The entry a key reference's ticket names in the tile's cache (09 R299). -/
def readyKey (s : State) (t : Nat) (tok : Token) : Option KeyRec :=
  match tok.name with
  | none => none
  | some n => ((tmemOf s t).cache.find? (fun x => x.name == n)).map (fun x => x.key)

/-- Does a key that a lane of the descriptor derived or unwrapped serve this need? -/
def usageOk (n : KeyNeed) (r : KeyRec) : Bool :=
  (n.usages.isEmpty || n.usages.any (fun u => bit r.usage u)) && (match n.shut with
    | some u => !bit r.usage u
    | none => true)

/-- The world of a KOP: SCRIPT on S3, DATA on S0 to S2 (07 R220). -/
def kopWorld (c : Nat) : Nat := if isS3 c then wScript else wData

/-- The key of a step: a handle checked under 07 R216, R219 and R220, or a key-ready ticket of the descriptor; else the status of its
token (09 R299). Its ALG is looked at after this (07 R219). -/
def kopKey (s : State) (c : Nat) (e : Entry) (tk : Ticket) (n : KeyNeed) : Except Nat KeyRec :=
  match keyTicket tk.key with
  | none => checkKeyUse s (qpOf s e.qp).partition (e.capture.getD 0) n (kopWorld c) tk.key
  | some j =>
    match ((tickOf (coreOf s c) j).bind (fun x => x.tok)).bind (readyKey s (e.tile.getD 0)) with
    | none => .error 0x0012
    | some r => if usageOk n r then .ok r else .error 0x0010

/-- Put an entry into the tile's cache for descriptor e, with replacement in the partition's quota: none where it does not
fit (07 R219, R233). -/
def cacheFor (s : State) (e : Entry) (f : TileMem → TileMem) : Option State :=
  let t := e.tile.getD 0
  let p := (qpOf s e.qp).partition
  let quota := tblGet 0 (partOf s p).quota e.quarter
  let m := f (tmemOf s t)
  let l := (evictFrom p quota m.cache.reverse (colourBlocks m.cache p)).reverse
  if quota < colourBlocks l p then none else some (modTmem s t (fun _ => { m with cache := l }))

/-- What asking for a script's key ends in: its entry can never fit, the descriptor waits for space, or it holds the key. -/
inductive Hold where
  | never
  | waits
  | held (s : State)

/-- The records that an invocation's own key fields name, within its header's mask, each once (07 R234; 08 R265). -/
def scriptKeys (s : State) (e : Entry) : List KeyRec :=
  let p := (qpOf s e.qp).partition
  let hs := ((List.range 4).filter (fun k => e.image.any (fun x => bit x.keys k))).map (dKey e.desc)
  (hs.filter (fun h => h != 0)).eraseDups.filterMap (fun h =>
    ((physOf s p (hSlot h)).map (slotOf s)).filter (fun r => r.handle == h && r.state == recActive))

/-- Fill and pin a list of keys for descriptor e in its tile's cache. -/
def pinKeys (s : State) (e : Entry) (h : Nat) (l : List KeyRec) : Option State :=
  let p := (qpOf s e.qp).partition
  cacheFor s e (fun m =>
    let m1 := l.foldl (pinOne p h (e.qp, e.asn)) m
    { m1 with cache := m1.cache.map (fun x => if l.any (fun r => x.isKey p r.handle) then { x with filled := true } else x),
              pinQ := m1.pinQ.filter (fun d => d != (e.qp, e.asn)) })

/-- No descriptor of its partition that began to wait for space earlier stands before e in its tile (07 R234). -/
def spaceTurn (s : State) (e : Entry) : Bool :=
  match (tmemOf s (e.tile.getD 0)).pinQ.find? (fun x => (qpOf s x.1).partition == (qpOf s e.qp).partition) with
  | none => true
  | some d => d == (e.qp, e.asn)

/-- A descriptor waits for key-cache space in its tile (07 R234). -/
def queueSpace (s : State) (e : Entry) : State :=
  modTmem s (e.tile.getD 0) (fun m =>
    { m with pinQ := if m.pinQ.contains (e.qp, e.asn) then m.pinQ else m.pinQ ++ [(e.qp, e.asn)] })

/-- A handle's key is filled and pinned for descriptor e (03 R89; 07 R233 to R235). A script's first key read takes the entries of the
keys its descriptor names with it, and waits its turn where they do not fit. A key that the script names only later is weighed with
those it holds, and is refused where it does not fit at once: a descriptor never holds entries while it waits for others (R234; log 40). -/
def holdKey (s : State) (e : Entry) (h : Nat) (r : KeyRec) : Hold :=
  let m := tmemOf s (e.tile.getD 0)
  let p := (qpOf s e.qp).partition
  let quota := tblGet 0 (partOf s p).quota e.quarter
  let mine := m.cache.filter (fun x => x.pins.contains (e.qp, e.asn))
  let first := mine.isEmpty
  let l := if first then (scriptKeys s e).filter (fun x => x.handle != r.handle) ++ [r] else [r]
  let others := (mine.filter (fun x => !x.isKey p r.handle)).map (fun x => x.blocks)
  if quota < others.sum + (l.map (blocksIn m p h)).sum then .never
  else if first && !spaceTurn s e then .waits
  else match pinKeys s e h l with
    | some u => .held u
    | none => if first then .waits else .never

/-- The value of an input's token, a sensitive one read from the sensitive store (03 R88). -/
def inputValue (s : State) (k : EloaCore) (e : Entry) (i : Option Nat) : List Byte :=
  match i with
  | none => []
  | some j =>
    match (tickOf k j).bind (fun x => x.tok) with
    | none => []
    | some t =>
      if t.sens then
        ((((tmemOf s (e.tile.getD 0)).sens.find? (fun x => x.qp == e.qp && x.asn == e.asn && x.step == j)).map
          (fun x => x.value)).getD [])
      else t.value

/-- The first input token that carries a failure: the step's own token carries it on (log 40). -/
def inputFailed (k : EloaCore) (tk : Ticket) : Option Nat :=
  (tk.waitsFor.filterMap (fun j => ((tickOf k j).bind (fun x => x.tok)).map (fun x => x.status))).find? (fun st => st != 0)

/-- The step of ticket i on core c may fire: its operands are all matched (03 R85), and no HALT holds it. -/
def kopReady (s : State) (c i func : Nat) : Option (Entry × Ticket) :=
  let k := coreOf s c
  match coreEntry s c, tickOf k i with
  | some e, some tk =>
    if tk.func = func ∧ tk.toFire ∧ e.cpl.isNone ∧ e.tile.isSome ∧ !s.tamper.halt ∧ k.matched tk then some (e, tk) else none
  | _, _ => none

/-- Every step that the script will issue has been issued: there are 64, or it waits at END (03 R83; 09 R299, R303). -/
def issuedAll (k : EloaCore) : Bool := decide (64 ≤ k.tickets.length) || (match k.wait with
  | .endAt _ => true
  | _ => false)

/-- The inputs of step i that it is the last to consume: no further step can come, and none that has yet to fire names one (03 R88; log
40). -/
def lastUses (k : EloaCore) (i : Nat) : List Nat :=
  if !issuedAll k then []
  else
    let named (j : Nat) : Bool :=
      ((List.range k.tickets.length).zip k.tickets).any (fun x => x.1 != i && x.2.toFire && x.2.waitsFor.contains j)
    (((tickOf k i).map Ticket.waitsFor).getD []).filter (fun j => !named j)

/-- The sensitive-store entries of descriptor e for some of its steps are zeroed (03 R88). -/
def dropSens (s : State) (e : Entry) (l : List Nat) : State :=
  modTmem s (e.tile.getD 0) (fun m => { m with sens := m.sens.filter (fun x => !(x.qp == e.qp && x.asn == e.asn && l.contains x.step)) })

/-- The token of a step's result, or that there is none yet, and the state with it; none where the step does not fire. A sensitive value
takes one of the 256 entries of the sensitive store and waits where none is free (03 R88; log 40). DESIGN CHOICE: STEP is the step that
issued it and OPND 0, since no step of the graph consumes a token that goes to a script core (03 R84; log 40). -/
def resultToken (s : State) (e : Entry) (i : Nat) (o : KopOut) : Option (Option Token × State) :=
  match o with
  | .data v => some (some (tokenFor s e i 0 0 (v.take 32)), s)
  | .status st => some (some { tokenFor s e i 0 2 [] with status := st }, s)
  | .ready n => some (some { tokenFor s e i 0 1 [] with name := some n }, s)
  | .sens v =>
    let t := e.tile.getD 0
    if 256 ≤ (tmemOf s t).sens.length then none
    else some (some { tokenFor s e i 0 0 [] with sens := true }, modTmem s t (fun m =>
      { m with sens := m.sens ++ [{ qp := e.qp, asn := e.asn, step := i, value := v.take 32 }] }))
  | .none => some (none, s)
  | _ => none

/-- A step that needs no engine, or that fails before one takes it, gives its token at once (03 R85; 09 R299). -/
def giveToken (s : State) (c i : Nat) (e : Entry) (o : KopOut) : State :=
  match resultToken s e i o with
  | some (some k, u) => modTicket (dropSens (markFired (beat u (e.tile.getD 0)) e) e (lastUses (coreOf s c) i)) c i
      (fun x => { x with tok := some k })
  | _ => s

/-- The engine that step i of core c may take now, and the state with its turn taken: the hash unit gives turns at its blocks'
boundaries, the others at a step's start, the lowest step first (03 R85; 06 R190). -/
def kopEngine (s : State) (c i : Nat) (e : Entry) (tk : Ticket) : Option (Nat × State) :=
  match tk.kind with
  | .hash => some (0, s)
  | .check => some (0, s)
  | k => if (coreOf s c).nextKop k = some i then engineFree s (e.tile.getD 0) e k else none

/-- The operands of a step as an engine holds them: its inputs' values, then its inline bytes (09 R299). -/
def kopOps (s : State) (k : EloaCore) (e : Entry) (tk : Ticket) : List (List Byte) :=
  [inputValue s k e tk.inA, inputValue s k e tk.inB, tk.inline]

/-- The blocks of a step in its engine (06 R178, R180, R189): a digest of a key block in blocks of 136 bytes, the inner and the outer block
of an HMAC, whose pads the cache holds, the one block that 64 bytes of message or fewer make; on the lanes the blocks of 16 bytes. -/
def kopBlocks (tk : Ticket) (ops : List (List Byte)) : Nat :=
  let n := (ops.map List.length).sum
  match tk.kind with
  | .hash => if tk.func = 0x040 then n / 136 + 1 else if tk.func = 0x050 then (if tk.param = 1 then cdiv (n + 9) 64 else 1) else 2
  | .lane => max 1 (cdiv n 16)
  | _ => 1

/-- Step i fires in engine n: its result is held until the engine is done with it, and a sensitive value that it was the last to consume
is zeroed (03 R85, R88, R95). t is the state that its work has left; a step that must wait leaves none. -/
def fireKop (s t : State) (c i n : Nat) (e : Entry) (tk : Ticket) (o : KopOut) : State :=
  match o with
  | .blocked => finishEntry (markFired s e) { e with fired := true } (Cpl.fail 0x0006 0)
  | _ =>
    if tk.kind = .check then giveToken t c i e o
    else match resultToken t e i o with
      | none => s
      | some (k, u) =>
        let g := e.tile.getD 0
        let ops := kopOps s (coreOf s c) e tk
        let v := modTicket (dropSens (markFired u e) e (lastUses (coreOf s c) i)) c i (fun x => { x with stage := 1, held := k })
        let r : StepRun := { qp := e.qp, asn := e.asn, step := i, kop := true, left := kopBlocks tk ops, ops := ops }
        let w := enterEngine (if tk.kind = .hash ∧ (tmemOf v g).hashRun.isSome then v else beat v g) g tk.kind n r
        if tk.kind = .pke then askHash w g n tk.param { r with left := 1 } else w

/-- A KOP function without a key (09 R300): it runs when an engine of its kind takes the step (03 R85). -/
def kopPlain (c i func : Nat) (f : State → KopIn → KopOut) (s : State) : State :=
  match kopReady s c i func with
  | none => s
  | some (e, tk) =>
    let k := coreOf s c
    match inputFailed k tk, kopEngine s c i e tk with
    | some st, _ => giveToken s c i e (.status st)
    | none, none => s
    | none, some (n, u) =>
      fireKop s u c i n e tk (f u { e := e, p := (qpOf s e.qp).partition, i := i, tk := tk, key := KeyRec.reset,
                                    a := inputValue s k e tk.inA, b := inputValue s k e tk.inB })

/-- The key of a step is held in the cache: a ticket's is already, a handle's is filled and pinned. Its usage, its room in the partition's
quota and its algorithm are looked at in this order (07 R219). -/
def kopHold (s : State) (c : Nat) (e : Entry) (tk : Ticket) (need : KeyNeed) (alg : Nat → Bool) : Except Nat (KeyRec × Hold) :=
  match kopKey s c e tk need with
  | .error st => .error st
  | .ok r =>
    let h := if tk.func = 0x012 ∨ tk.func = 0x013 then tk.param / 256 else 0
    match (if (keyTicket tk.key).isSome then Hold.held s else holdKey s e h r) with
    | .never => .error 0x0010
    | x => if alg r.alg then .ok (r, x) else .error 0x0014

/-- A KOP function with a key of a need and an algorithm (09 R299, R300): the key is checked, filled and pinned, then the
function runs when an engine of its kind takes the step (03 R85, R90). -/
def kopKeyed (c i func : Nat) (need : Ticket → KeyNeed) (alg : Ticket → Nat → Bool) (f : State → KopIn → KopOut × State) (s : State) :
    State :=
  match kopReady s c i func with
  | none => s
  | some (e, tk) =>
    match inputFailed (coreOf s c) tk, kopHold s c e tk (need tk) (alg tk) with
    | some st, _ => giveToken s c i e (.status st)
    | none, .error st => giveToken s c i e (.status st)
    | none, .ok (r, .held s1) =>
      (match kopEngine s1 c i e tk with
      | none => s
      | some (n, s2) =>
        let k := coreOf s2 c
        let (o, t) := f s2 { e := e, p := (qpOf s e.qp).partition, i := i, tk := tk, key := r,
                             a := inputValue s2 k e tk.inA, b := inputValue s2 k e tk.inB }
        match o with
        | .wait => s
        | _ => fireKop s2 t c i n e tk o)
    | none, .ok _ => queueSpace s e

/-- A function that changes nothing else. -/
def kopPure (f : KopIn → KopOut) : State → KopIn → KopOut × State := fun s x => (f x, s)

/-- A block cipher's key. -/
def blockAlg (a : Nat) : Bool := isTdes a || isAes a

/-- One block under the key: LENGTH_ERROR where it is not the cipher's block (09 R300). -/
def oneBlock (f : Cipher → List Byte → List Byte) (x : KopIn) : Except Nat (List Byte) :=
  let b := if x.tk.inA.isSome then x.a else x.tk.inline
  if b.length ≠ x.key.cipher.size then .error 0x0009 else .ok (f x.key.cipher b)

/-- KOP_ENC_BLOCK (09 R300). -/
def execKopEncBlock (c ticket : Nat) (s : State) : Host.Outcome State Fault Refusal :=
  guardUnit (scriptOk c) c s (kopKeyed c ticket 0x001 (fun _ => .use uEnc) (fun _ => blockAlg) (kopPure (fun x =>
    match oneBlock Cipher.enc x with
    | .error st => .status st
    | .ok v => .data v)) s)

/-- KOP_DEC_BLOCK (09 R300): SENS_OUT keeps the result in the sensitive store. -/
def execKopDecBlock (c ticket : Nat) (s : State) : Host.Outcome State Fault Refusal :=
  guardUnit (scriptOk c) c s (kopKeyed c ticket 0x002 (fun _ => .use uDec) (fun _ => blockAlg) (kopPure (fun x =>
    match oneBlock Cipher.dec x with
    | .error st => .status st
    | .ok v => if x.tk.sensOut then .sens v else .data v)) s)

/-- The message of a MAC or hash step: IN_A's value, then the inline bytes; LENGTH_ERROR past 32 (09 R300). -/
def kopMessage (x : KopIn) : List Byte := x.a ++ x.tk.inline

/-- A MAC over the message of a step (09 R300; 05 R159). -/
def kopMac (a : MacAlg) (ver : Bool) (x : KopIn) : KopOut :=
  let n := x.tk.param % 256
  let m := kopMessage x
  let t := (macOf a x.key 0 (x.tk.param / 256) m).take n
  if 32 < m.length ∨ !macLenOk a x.key n then .status 0x0009
  else if !ver then .data t
  else if t = x.b then .status 0 else .status 0x0013

/-- KOP_CMAC_GEN (09 R300). -/
def execKopCmacGen (c ticket : Nat) (s : State) : Host.Outcome State Fault Refusal :=
  guardUnit (scriptOk c) c s (kopKeyed c ticket 0x010 (fun _ => .use uMacGen) (fun _ => blockAlg) (kopPure (kopMac .cmac false)) s)
/-- KOP_CMAC_VER (09 R300): a status token, AUTH_FAIL where the tag of IN_B differs. -/
def execKopCmacVer (c ticket : Nat) (s : State) : Host.Outcome State Fault Refusal :=
  guardUnit (scriptOk c) c s (kopKeyed c ticket 0x011 (fun _ => .use uMacVer) (fun _ => blockAlg) (kopPure (kopMac .cmac true)) s)
/-- KOP_HMAC_GEN (09 R300). -/
def execKopHmacGen (c ticket : Nat) (s : State) : Host.Outcome State Fault Refusal :=
  guardUnit (scriptOk c) c s (kopKeyed c ticket 0x012 (fun _ => .use uMacGen) (fun _ a => a == 0x20) (kopPure (kopMac .hmac false)) s)
/-- KOP_HMAC_VER (09 R300). -/
def execKopHmacVer (c ticket : Nat) (s : State) : Host.Outcome State Fault Refusal :=
  guardUnit (scriptOk c) c s (kopKeyed c ticket 0x013 (fun _ => .use uMacVer) (fun _ a => a == 0x20) (kopPure (kopMac .hmac true)) s)

/-- The PAN of a PIN step, where its format takes one (05 R137, R143). -/
def kopPan (f : Nat) (b : List Byte) : Option (List Nat) := if fmtUsesPan f then panOf b else if panUnused b then some [] else none

/-- PIN_OPEN (09 R300; 05 R143, R144): the clear field goes to the sensitive store. -/
def execPinOpen (c ticket : Nat) (s : State) : Host.Outcome State Fault Refusal :=
  guardUnit (scriptOk c) c s (kopKeyed c ticket 0x020 (fun _ => KeyNeed.pinIn) (fun t => fmtAlg t.param) (kopPure (fun x =>
    let f := x.tk.param
    match kopPan f (slice x.tk.inline 16 10) with
    | none => .status 0x0042
    | some pan =>
      let v := pinOpenField f x.key.cipher pan (slice x.tk.inline 0 (fmtSize f))
      match pinFieldBad f v with
      | some st => .status st
      | none => .sens v)) s)

/-- Seal a clear field that came in format f, its control nibble, into format g; fill under 05 R146. -/
def kopSeal (s : State) (x : KopIn) (pan : List Nat) : KopOut × State :=
  let g := x.tk.param
  let f := (nibbles (slice x.a 0 1)).getD 0 0
  let out (r : List Byte) : KopOut := .data (pinSealField g x.key.cipher pan (outField f g x.a r))
  if drawsFill f g then
    match drawRandom s x.e.quarter (fillBytes g (pinDigits x.a).length) with
    | .blocked => (.blocked, s)
    | .waits => (.wait, s)
    | .bytes r t => (out r, match x.e.script with
      | .core n => modCore t n (fun k => { k with drew := true })
      | _ => t)
  else (out [], s)

/-- Is an input of a ticket sensitive? -/
def sensIn (s : State) (c : Nat) (i : Option Nat) : Bool :=
  i.any (fun j => ((tickOf (coreOf s c) j).bind (fun x => x.tok)).any (fun t => t.sens))

/-- PIN_SEAL (09 R300): IN_A must be a sensitive clear PIN field; another input fails (log 40). -/
def execPinSeal (c ticket : Nat) (s : State) : Host.Outcome State Fault Refusal :=
  guardUnit (scriptOk c) c s (kopKeyed c ticket 0x021 (fun _ => KeyNeed.pinOut) (fun t => fmtAlg t.param) (fun s x =>
    let f := (nibbles (slice x.a 0 1)).getD 0 0
    if !sensIn s c x.tk.inA then (.status 0x0003, s)
    else match kopPan x.tk.param x.tk.inline with
    | none => (.status 0x0042, s)
    | some pan =>
      match pinFieldBad f x.a with
      | some st => (.status st, s)
      | none => kopSeal s x pan) s)

/-- The entry of a key derived or unwrapped by a step of descriptor e (03 R89; 07 R232). -/
def stepEntry (p : Nat) (e : Entry) (n : CacheName) (r : KeyRec) : CacheEnt :=
  { colour := p, name := n, blocks := 2, pins := [(e.qp, e.asn)], pending := none, filled := true, hashes := [], key := r }

/-- KDF_CMAC (09 R300): a transient key with the usage bits of PARAM. How the label and the context join is not stated, so
the key bytes are an opaque function of the key and the inline bytes; the derived key has its base key's ALG and length
(log 41). -/
def execKdfCmac (c ticket : Nat) (s : State) : Host.Outcome State Fault Refusal :=
  guardUnit (scriptOk c) c s (kopKeyed c ticket 0x030 (fun _ => .use uDerive) (fun _ => blockAlg) (fun s x =>
    let n : CacheName := .transient x.e.qp x.e.asn (x.i + 1)
    let r : KeyRec := { x.key with
      handle := 0, usage := x.tk.param, exportRule := 0, parent := x.key.handle, anc := childAnc x.e.capture x.key,
      mat := fit x.key.keyLen (Config.pkBytes "KDF_CMAC" [x.key.key, x.tk.inline]) }
    match cacheFor s x.e (fun m => { m with cache := stepEntry x.p x.e n r :: m.cache }) with
    | none => (.status 0x0010, s)
    | some t => (.ready n, t)) s)

/-- The block at an offset of the input list that a KB_OPEN step names (09 R300; 05 R141). -/
def kopBlock (x : KopIn) : List Byte :=
  let d := (match x.e.input with
    | some o => o.data
    | none => []).drop (field x.tk.inline 0 4)
  d.take (blkLen d)

/-- A key block that the lookup has missed is unwrapped: its entry is written with its key, or its status tells why not (05 R141). -/
def kopUnwrap (s : State) (x : KopIn) : KopOut × State :=
  let b := kopBlock x
  match kbUnwrap true x.key.alg x.key.key b with
  | .error (st, _) => (.status st, s)
  | .ok (h, a, k) =>
    let n : CacheName := .block (sha3_256 b) x.key.handle
    let r : KeyRec := { KeyRec.reset with alg := a, usage := h.usage, keyLen := k.length, mat := k,
                                          exportRule := h.exp, anc := childAnc x.e.capture x.key }
    match cacheFor s x.e (fun m => { m with cache := stepEntry x.p x.e n r :: m.cache }) with
    | none => (.status 0x0010, s)
    | some u => (.ready n, u)

/-- KB_OPEN (09 R300; 05 R141): the key block at an offset of the input list, by its digest on the hash unit and the digest lookup; on a
miss it is unwrapped on a twin pair. -/
def execKbOpen (c ticket : Nat) (s : State) : Host.Outcome State Fault Refusal :=
  guardUnit (scriptOk c) c s (kopKeyed c ticket 0x040 (fun _ => .use uUnwrap) (fun _ => anyAlg) (fun s x =>
    let n := (match x.e.input with
      | some o => o.data.length
      | none => 0)
    let off := field x.tk.inline 0 4
    let b := kopBlock x
    if !inputReady x.e then (.wait, s)
    else if n < off + 16 ∨ b.length < blkLen b then (.status 0x0009, s)
    else match findBlock (tmemOf s (x.e.tile.getD 0)) x.p x.key.handle (x.e.capture.getD 0) (sha3_256 b) with
      | some m => (.ready m.name, modTmem s (x.e.tile.getD 0) (fun k =>
          touchBlock k { m with pins := if m.pins.contains (x.e.qp, x.e.asn) then m.pins else (x.e.qp, x.e.asn) :: m.pins }))
      | none => if x.tk.stage = 0 then (.none, s) else kopUnwrap s x) s)

/-- The hash of a class 0x0B code's low byte, at most 32 bytes of it (09 R300; log 40). -/
def kopHashOf (code : Nat) (m : List Byte) : List Byte :=
  (match code with
  | 0x01 => sha256 m
  | 0x02 => sha384 m
  | 0x03 => sha512 m
  | 0x11 => sha3_256 m
  | 0x12 => sha3_384 m
  | 0x13 => sha3_512 m
  | 0x21 => shake128 m 32
  | _ => shake256 m 32).take 32

/-- KOP_HASH (09 R300): the hash unit cannot read the sensitive store (03 R88), so a sensitive input fails. -/
def execKopHash (c ticket : Nat) (s : State) : Host.Outcome State Fault Refusal :=
  guardUnit (scriptOk c) c s (kopPlain c ticket 0x050 (fun s x =>
    if sensIn s c x.tk.inA then .status 0x0003 else .data (kopHashOf x.tk.param (kopMessage x))) s)

/-- What op-list no requires of its key (09 R300). -/
def oplistNeed (no : Nat) : KeyNeed := { usages := (List.range 12).filter (fun u => (Config.oplistUsages no).getLsbD u), shut := none }

/-- PKE_RUN (09 R300; 06 R206, R208): a public-key core takes the step with its operands, IN_A, IN_B and the inline bytes in registers 0
to 2, and what the op-list puts out is its token when the run ends (PKE_OPLIST_DONE; log 82). Which usages an op-list requires of its key
is not stated: a free value of its number (log 14). -/
def execPkeRun (c ticket : Nat) (s : State) : Host.Outcome State Fault Refusal :=
  guardUnit (scriptOk c) c s
    (match tickOf (coreOf s c) ticket with
    | some t =>
      if t.key = 0 then kopPlain c ticket 0x060 (fun _ _ => .none) s
      else kopKeyed c ticket 0x060 (fun x => oplistNeed x.param) (fun _ => anyAlg)
        (kopPure (fun _ => .none)) s
    | none => s)

/-- IN_READ (09 R300): bytes of the input list, LENGTH_ERROR past its end. -/
def execInRead (c ticket : Nat) (s : State) : Host.Outcome State Fault Refusal :=
  guardUnit (scriptOk c) c s (kopPlain c ticket 0x070 (fun _ x =>
    let d := (match x.e.input with
      | some o => o.data
      | none => [])
    let off := field x.tk.inline 0 4
    if !inputReady x.e then .wait
    else if d.length < off + x.tk.param then .status 0x0009
    else .data (slice d off x.tk.param)) s)

end Sys2Proof.Machine
end

