-- ==== Sys2Proof/Machine/LoadStore.lean ====
section
/-!
DEFINITION. Loads, stores and the data stack of the Eloa cores (09 R281, R286, R291, R292).
-/

namespace Sys2Proof.Machine

open Sys2Proof

/-- LDW (09 R291, R292). -/
def execLdw (c : Nat) (f : IForm) (s : State) : Host.Outcome State Fault Refusal :=
  execWord c (match f with
    | .long rd ra imm => longLoad c 4 false rd ra imm
    | .short f => shortWord c 17 f) s

/-- LDH: zero-extended (09 R291). -/
def execLdh (c : Nat) (rd ra : Reg) (imm : BitVec 14) (s : State) : Host.Outcome State Fault Refusal :=
  execWord c (longLoad c 2 false rd ra imm) s

/-- LDHS: sign-extended (09 R291). -/
def execLdhs (c : Nat) (rd ra : Reg) (imm : BitVec 14) (s : State) : Host.Outcome State Fault Refusal :=
  execWord c (longLoad c 2 true rd ra imm) s

/-- LDB: zero-extended (09 R291, R292). -/
def execLdb (c : Nat) (f : IForm) (s : State) : Host.Outcome State Fault Refusal :=
  execWord c (match f with
    | .long rd ra imm => longLoad c 1 false rd ra imm
    | .short f => shortWord c 19 f) s

/-- LDBS: sign-extended (09 R291). -/
def execLdbs (c : Nat) (rd ra : Reg) (imm : BitVec 14) (s : State) : Host.Outcome State Fault Refusal :=
  execWord c (longLoad c 1 true rd ra imm) s

/-- STW (09 R291, R292). -/
def execStw (c : Nat) (f : IForm) (s : State) : Host.Outcome State Fault Refusal :=
  execWord c (match f with
    | .long rd ra imm => longStore c 4 rd ra imm
    | .short f => shortWord c 18 f) s

/-- STH (09 R291). -/
def execSth (c : Nat) (rd ra : Reg) (imm : BitVec 14) (s : State) : Host.Outcome State Fault Refusal :=
  execWord c (longStore c 2 rd ra imm) s

/-- STB (09 R291, R292). -/
def execStb (c : Nat) (f : IForm) (s : State) : Host.Outcome State Fault Refusal :=
  execWord c (match f with
    | .long rd ra imm => longStore c 1 rd ra imm
    | .short f => shortWord c 20 f) s

/-- PUSH (09 R286, R292). -/
def execPush (c : Nat) (f : ShortForm) (s : State) : Host.Outcome State Fault Refusal := execWord c (shortWord c 21 f) s

/-- POP (09 R286, R292). -/
def execPop (c : Nat) (f : ShortForm) (s : State) : Host.Outcome State Fault Refusal := execWord c (shortWord c 22 f) s

end Sys2Proof.Machine
end

