-- ==== Sys2Proof/Machine/Otp.lean ====
section
/-!
DEFINITION. One-time codes and locker open-tokens (05 R173 to R176).
-/

namespace Sys2Proof.Machine

open Sys2Proof

/-- The code of a counter (05 R173). -/
def otpCode (key : List Byte) (hash digits n : Nat) : List Byte :=
  let h := if hash = 0 then hmac sha256 64 key (beBytes 8 n) else hmac sha512 128 key (beBytes 8 n)
  let off := (h.getLastD 0).toNat % 16
  asciiDec digits (beNat (slice h off 4) % 2 ^ 31 % 10 ^ digits)

/-- Format checks of the one-time code commands (05 R138, R174). -/
def otpFormat (c : Ctx) (totp ver : Bool) : List (Bool × Nat) :=
  let d := c.d
  let p := c.prm
  let n := bits p 3 0
  let w := bits p 15 8
  let st := bits p 31 16
  let prmBad := decide (n < 6 ∨ 9 < n) || decide (1 < bits p 5 4) || anyBits p 7 6 || anyBits p 63 32 ||
    decide ((if ver then (if totp then 10 else 20) else 0) < w) || (if totp then decide (st < 10 ∨ 300 < st) else st != 0)
  [(dInLen d != 32, 0x04)] ++ unusedKeys d ++ [(prmBad, 0x38), (!totp && !zeroAt d 0x40 0x48, 0x40),
    (!zeroAt d (0x48 + (if ver then n else 0)) 0x51, 0x48), (!zeroAt d 0x51 0x60, 0x51),
    (ver && (slice d 0x48 n).any (fun b => (decVal b).isNone), 0x48)]

/-- A one-time code command's work: k takes the key's mutable value, the code of a counter, and the code given. -/
def otpWork (totp ver : Bool) (k : State → Ctx → Nat → (Nat → List Byte) → List Byte → Res) : Work := pureWork (fun s c =>
  let r := keyAt s c 0
  let n := bits c.prm 3 0
  orFormat (otpFormat c totp ver) Res.fail
    (k s c r.mutv (fun x => otpCode r.key (bits c.prm 5 4) n x) (slice c.d 0x48 n)))

/-- The work of HOTP_GENERATE (05 R173, R174). -/
def hotpGenerateBody : Work := otpWork false false (fun t c n code _ =>
    if n = 2 ^ 64 - 1 then .fail 0x0010 0
    else .commit (Cpl.ok (leBytes 8 n ++ code n)) (mutEffect t c 0 (n + 1)))

/-- HOTP_GENERATE (05 R173, R174). -/
def execHotpGenerate (qp asn : Nat) (s : State) : Host.Outcome State Fault Refusal :=
  dataCommand qp asn 0x0C01 hotpGenerateBody s

/-- The work of HOTP_VERIFY (05 R173, R174). -/
def hotpVerifyBody : Work := otpWork false true (fun t c n code given =>
    let ahead := ((List.range (bits c.prm 15 8 + 1)).map (fun i => n + i)).filter (fun x => decide (x ≤ 2 ^ 64 - 2))
    let behind := ((List.range 4).filter (fun i => decide (i < n))).map (fun i => n - 1 - i)
    match ahead.find? (fun x => code x == given) with
    | some m => .commit (Cpl.ok (leBytes 8 m)) (mutEffect t c 0 (m + 1))
    | none => if behind.any (fun x => code x == given) then .fail 0x004D 0 else .fail 0x004C 0)

/-- HOTP_VERIFY (05 R173, R174). -/
def execHotpVerify (qp asn : Nat) (s : State) : Host.Outcome State Fault Refusal :=
  dataCommand qp asn 0x0C02 hotpVerifyBody s

/-- The time step of a TOTP command (05 R173). -/
def totpStep (c : Ctx) : Nat := field c.d 0x40 8 / bits c.prm 31 16

/-- The work of TOTP_GENERATE (05 R173, R174). -/
def totpGenerateBody : Work := otpWork true false (fun _ c _ code _ =>
    .fin (Cpl.ok (leBytes 8 (totpStep c) ++ code (totpStep c))))

/-- TOTP_GENERATE (05 R173, R174). -/
def execTotpGenerate (qp asn : Nat) (s : State) : Host.Outcome State Fault Refusal :=
  dataCommand qp asn 0x0C03 totpGenerateBody s

/-- The work of TOTP_VERIFY (05 R173, R174): MUT holds the last accepted step plus 1, 0 for none. -/
def totpVerifyBody : Work := otpWork true true (fun t c s1 code given =>
    let n := totpStep c
    let w := bits c.prm 15 8
    let steps := ((List.range (2 * w + 1)).filter (fun i => decide (w ≤ n + i))).map (fun i => n + i - w)
    let hits := steps.filter (fun x => code x == given)
    match hits.find? (fun m => decide (s1 < m + 1)) with
    | some m => .commit (Cpl.ok (leBytes 8 m)) (mutEffect t c 0 (m + 1))
    | none => if hits.isEmpty then .fail 0x004C 0 else .fail 0x004D 0)

/-- TOTP_VERIFY (05 R173, R174). -/
def execTotpVerify (qp asn : Nat) (s : State) : Host.Outcome State Fault Refusal :=
  dataCommand qp asn 0x0C04 totpVerifyBody s

/-- ALG of an open-token fits the key (05 R175). -/
def tokenAlgOk (b : List Byte) (alg : Nat) : Bool :=
  let a := (byteAt b 1).toNat
  (a == 1 && alg % 0x80 == 0x40) || (a == 2 && alg % 0x80 == 0x42)

/-- The structure of an open-token's body but for its algorithm and its SERIAL (05 R175, R176). -/
def tokenBad (b : List Byte) : Bool :=
  let t0 := field b 24 4
  let t1 := field b 28 4
  byteAt b 0 != 1 || decide (2 ≤ field b 22 2) || decide (t1 ≤ t0) || decide (2592000 < t1 - t0)

/-- The work of LOCKER_TOKEN_ISSUE (05 R175, R176). The rule names no fresh randomness, so the signature is the deterministic one (log
12). -/
def lockerTokenIssueBody : Work := pureWork (fun t c =>
    let r := keyAt t c 0
    let b := c.data
    orFormat (unusedKeys c.d ++ [(c.prm != 0, 0x38)]) Res.fail
      (if b.length ≠ 40 then .fail 0x0009 0
      else if c.room < 104 then .fail 0x000A 0
      else if tokenBad b || field b 4 8 != 0 then .fail 0x004E 0
      else if !tokenAlgOk b r.alg then .fail 0x0014 0
      else
        let body := splice b 4 (leBytes 8 r.mutv)
        match signWith r.alg r.key (plainForm 0) body [] with
        | none => .fail 0x0072 0
        | some sig =>
          .commit { status := stOk, detail := 0, result := leBytes 8 r.mutv, out := body ++ sig, outLen := 104, cflags := 0 }
            (mutEffect t c 0 (r.mutv + 1))))

/-- LOCKER_TOKEN_ISSUE (05 R175, R176). -/
def execLockerTokenIssue (qp asn : Nat) (s : State) : Host.Outcome State Fault Refusal :=
  dataCommand qp asn 0x0C10 lockerTokenIssueBody s

/-- The work of LOCKER_TOKEN_VERIFY (05 R175, R176). DESIGN CHOICE: a bad structure is what ISSUE refuses in a body but for SERIAL; CMD_PARAM
and AUX beyond CHECK_TIME must be 0 (log 92). -/
def lockerTokenVerifyBody : Work := pureWork (fun t c =>
    let r := keyAt t c 0
    let b := c.data
    let now := field c.d 0x60 4
    orFormat (unusedKeys c.d ++ [(c.prm != 0, 0x38), (!zeroAt c.d 0x64 0x80, 0x64)]) Res.fail
      (if b.length ≠ 104 then .fail 0x0009 0
      else if tokenBad (b.take 40) || !tokenAlgOk b r.alg || decide (now < field b 24 4 ∨ field b 28 4 < now) then
        .fail 0x004E 0
      else if verifyWith r.alg (publicMat r.alg r.key) (plainForm 0) (b.take 40) (b.drop 40) then
        .fin (Cpl.ok (slice b 4 8))
      else .fail 0x0071 0))

/-- LOCKER_TOKEN_VERIFY (05 R175, R176). -/
def execLockerTokenVerify (qp asn : Nat) (s : State) : Host.Outcome State Fault Refusal :=
  dataCommand qp asn 0x0C11 lockerTokenVerifyBody s

end Sys2Proof.Machine
end

