-- ==== Sys2Proof/Machine/Pke.lean ====
section
/-!
DEFINITION. The public-key commands, classes 0x08 and 0x09 (06 R201 to R204).
-/

namespace Sys2Proof.Machine

open Sys2Proof

/-- What a public-key command does with its operands (06 R201). -/
inductive PkOp where
  | sign
  | verify
  | oaepEnc
  | oaepDec
  | derive
  | encaps
  | decaps
  | generate
  | pubExport
  | pubImport
  deriving DecidableEq, Repr

/-- PARAM_SET. -/
def pkSet (c : Ctx) : Nat := bits c.prm 3 0
/-- HASH. -/
def pkHash (c : Ctx) : Nat := bits c.prm 7 4
/-- PREHASHED. -/
def pkPre (c : Ctx) : Bool := bit c.prm 11
/-- ALG of the parameter set (06 R202). -/
def pkAlg (c : Ctx) : Nat := paramAlg (dClass c.d) (pkSet c)

/-- The parameter sets an operation takes (06 R201, R202). -/
def pkSets (code : Nat) : List Nat :=
  if 0x0801 ≤ code ∧ code ≤ 0x0804 then [0, 1, 2]
  else if 0x0810 ≤ code ∧ code ≤ 0x0812 then [4, 5]
  else if code = 0x0820 ∨ code = 0x0821 then [8]
  else if 0x0830 ≤ code ∧ code ≤ 0x0832 then [0, 1, 2, 4, 5, 8]
  else if code = 0x0901 ∨ code = 0x0902 then [0, 1, 2]
  else if code = 0x0910 ∨ code = 0x0911 then [4, 5, 6]
  else if code = 0x0920 then [8, 9, 10, 11]
  else if code = 0x0930 then [0, 1, 2, 4, 5, 6]
  else [0, 1, 2, 4, 5, 6, 8, 9, 10, 11]

/-- A HASH that an algorithm takes (06 R202): 15 is required for Ed25519, ML-DSA and SLH-DSA; ML-KEM, which takes no hash, has 0 or 15
(log 68). -/
def algHashOk (alg h : Nat) : Bool :=
  let a := alg % 0x80
  if isKem alg then h == 0 || h == 15 else if a = 0x42 ∨ 0x58 ≤ a then h == 15 else decide (h ≤ 4)

/-- HASH and PREHASHED suit the command (06 R202): a digest is the input of RSA, ECDSA and HashML-DSA signatures alone. -/
def pkHashOk (code alg h : Nat) (pre : Bool) : Bool :=
  if code = 0x0801 ∨ code = 0x0802 ∨ code = 0x0810 ∨ code = 0x0811 then decide (h ≤ 4)
  else if code = 0x0910 ∨ code = 0x0911 then (if pre then decide (h ≤ 4) else h == 15)
  else algHashOk alg h && !pre

/-- USAGE suits the parameter set of a generate or import command (06 R202, R203). -/
def pkUsageOk (alg u : Nat) : Bool :=
  let a := alg % 0x80
  if 0x30 ≤ a ∧ a ≤ 0x32 then decide (u ≤ 1)
  else if a = 0x40 ∨ a = 0x41 then u == 0 || u == 2
  else if 0x50 ≤ a ∧ a ≤ 0x52 then u == 2
  else u == 0

/-- CMD_PARAM is out of range (06 R202). -/
def pkPrmBad (c : Ctx) (op : PkOp) : Bool :=
  let p := c.prm
  let code := dCmd c.d
  let pad := bits p 9 8
  let ctx := bits p 31 24
  let padOk := if code = 0x0801 ∨ code = 0x0802 then decide (pad ≤ 1)
    else if code = 0x0803 ∨ code = 0x0804 then pad == 2 else pad == 0
  let gen := op == .generate || op == .pubImport
  !(pkSets code).contains (pkSet c) || !pkHashOk code (pkAlg c) (pkHash c) (pkPre c) || !padOk ||
    (bit p 10 && code != 0x0810 && code != 0x0910) || anyBits p 15 12 || anyBits p 23 18 || anyBits p 63 32 ||
    (if gen then !pkUsageOk (pkAlg c) (bits p 17 16) else anyBits p 17 16) ||
    (if code = 0x0910 ∨ code = 0x0911 ∨ code = 0x0920 then decide (32 < ctx) else ctx != 0)

/-- Does the operation take a header template in AUX (06 R203)? -/
def PkOp.templated (op : PkOp) : Bool := op == .derive || op == .encaps || op == .decaps
/-- Does it read the input list? -/
def PkOp.reads (op : PkOp) : Bool := !(op == .encaps || op == .generate || op == .pubExport)
/-- Does it write the output list? -/
def PkOp.writes (op : PkOp) : Bool := !(op == .verify || op == .derive || op == .decaps || op == .pubImport)

/-- Format checks of a public-key command (06 R202, R203). -/
def pkFormat (c : Ctx) (op : PkOp) : List (Bool × Nat) :=
  let d := c.d
  let n := bits c.prm 31 24
  unusedKeys d ++ [(pkPrmBad c op, 0x38), (!op.reads && dInCount d != 0, 0x48), (!op.writes && dOutList d != 0, 0x50),
    (!zeroAt d (0x60 + n) (if op.templated then 0x70 else 0x80), 0x60)]

/-- The length of a signature by ALG (06 R203). -/
def sigLen (alg : Nat) : Nat :=
  let a := alg % 0x80
  if a = 0x30 then 256 else if a = 0x31 then 384 else if a = 0x32 then 512
  else if a = 0x40 ∨ a = 0x42 then 64 else if a = 0x41 then 96
  else if a = 0x58 then 2420 else if a = 0x59 then 3309 else if a = 0x5A then 4627
  else if alg = 0xE0 ∨ alg = 0xE1 then 7856 else 17088

/-- The form of the signature that a descriptor asks for (06 R202). -/
def pkForm (c : Ctx) : SigForm :=
  { hash := hashAlg (pkHash c), pre := pkPre c, pss := bits c.prm 9 8 == 1, ctx := slice c.d 0x60 (bits c.prm 31 24) }

/-- Digest length of HASH. -/
def hashLen (h : Nat) : Nat := (hashAlg h).size

/-- Random bytes that a signature takes (06 R201, R202): a PSS salt, or a hedged nonce. -/
def signDraw (c : Ctx) : Nat :=
  if dCmd c.d = 0x0801 then (if bits c.prm 9 8 = 1 then hashLen (pkHash c) else 0)
  else if bit c.prm 10 then (if pkAlg c = 0x41 then 48 else 32)
  else 0

/-- Post an output through the list, as a journalled completion where fresh randomness went into it (04 R110, R111). -/
def pkOut (c : Ctx) (fresh : Bool) (out : List Byte) : Res :=
  if fresh then (listOut c out []).journalled .none else listOut c out []

/-- Sign (06 R198, R203): the message, or a digest of HASH's length. -/
def pkSign : Work := fun s c =>
  let r := keyAt s c 0
  let n := signDraw c
  if pkPre c && c.data.length != hashLen (pkHash c) then (.fail 0x0009 0, s)
  else if c.room < sigLen r.alg then (.fail 0x000A 0, s)
  else withRandom s c n (fun rnd t =>
    (match signWith r.alg r.key (pkForm c) c.data rnd with
      | none => .fail 0x0072 0
      | some x => pkOut c (n != 0) (fit (sigLen r.alg) x), t))

/-- Verify (06 R203, R204): the input list ends in the signature. -/
def pkVerify : Work := pureWork (fun s c =>
  let r := keyAt s c 0
  let n := sigLen r.alg
  let m := c.data.take (c.data.length - n)
  let pub := publicMat r.alg r.key
  if c.data.length < n ∨ (pkPre c = true ∧ m.length ≠ hashLen (pkHash c)) then .fail 0x0070 0
  else if !pubOk r.alg pub then .fail 0x0070 0
  else if verifyWith r.alg pub (pkForm c) m (c.data.drop (c.data.length - n)) then .fin (Cpl.ok [])
  else .fail 0x0071 0)

/-- RSA_OAEP_ENCRYPT's work (06 R203, R204). -/
def pkOaepEnc : Work := fun s c =>
  let r := keyAt s c 0
  let n := sigLen r.alg
  let h := hashLen (pkHash c)
  let pub := publicMat r.alg r.key
  if n - 2 * h - 2 < c.data.length then (.fail 0x0009 0, s)
  else if c.room < n then (.fail 0x000A 0, s)
  else if !pubOk r.alg pub then (.fail 0x0070 0, s)
  else withRandom s c h (fun rnd t =>
    (pkOut c true (fit n (oaepEncrypt (rsaKeyOf (r.alg % 0x80 + 0x80) pub) (hashAlg (pkHash c)) c.data rnd)), t))

/-- RSA_OAEP_DECRYPT's work (06 R203). -/
def pkOaepDec : Work := pureWork (fun s c =>
  let r := keyAt s c 0
  if c.data.length ≠ sigLen r.alg then .fail 0x0009 0
  else match oaepDecrypt (rsaKeyOf r.alg r.key) (hashAlg (pkHash c)) c.data with
    | none => .fail 0x0070 0
    | some m => listOut c m [])

/-- The key that a shared secret gives: HKDF-SHA-256 with an empty salt and the template as info (06 R203). -/
def agreedKey (s : State) (c : Ctx) (secret out : List Byte) : Res :=
  let tpl := slice c.d 0x70 16
  let r := keyAt s c 0
  match kbTemplate tpl with
  | .error x => .fail 0x0016 x
  | .ok h =>
    let k := hkdf256 [] secret tpl (templateSize h.alg)
    let n := kbNewKey h ((kbKeyAlg h.alg k.length).getD 0) k (some r)
    createKey s c 0 n out (handleKcv n.kcv)

/-- ECDH_DERIVE's work (06 R203, R204): the peer's point comes in its uncompressed encoding (log 12). -/
def pkEcdh : Work := pureWork (fun s c =>
  let r := keyAt s c 0
  match ecdh (curveOf r.alg) (beNat r.key) c.data with
  | none => .fail 0x0070 0
  | some x => agreedKey s c x [])

/-- Bytes of an ML-KEM ciphertext. -/
def kemLen (alg : Nat) : Nat :=
  let a := alg % 0x80
  if a = 0x50 then 768 else if a = 0x51 then 1088 else 1568

/-- MLKEM_DECAPS's work (06 R199, R203, R204): a decapsulation failure is not signalled, only a ciphertext of the wrong length. -/
def pkDecaps : Work := pureWork (fun s c =>
  let r := keyAt s c 0
  if c.data.length ≠ kemLen r.alg then .fail 0x0070 0
  else agreedKey s c (kemDecaps (kemSet r.alg) r.key c.data) [])

/-- MLKEM_ENCAPS's work (06 R203, R204). -/
def pkEncaps : Work := fun s c =>
  let r := keyAt s c 0
  let n := kemLen r.alg
  let pub := publicMat r.alg r.key
  if c.room < n then (.fail 0x000A 0, s)
  else if !pubOk r.alg pub then (.fail 0x0070 0, s)
  else withRandom s c 32 (fun rnd t =>
    let (secret, ct) := kemEncaps (kemSet r.alg) pub rnd
    (agreedKey t c secret (fit n ct), t))

/-- Bytes of the stored material of a private key (07 R218). -/
def privLen (alg : Nat) : Nat :=
  if alg = 0x30 then 256 else if alg = 0x31 then 384 else if alg = 0x32 then 512
  else if alg = 0x41 then 48 else if 0x50 ≤ alg ∧ alg ≤ 0x52 then 64 else 32

/-- Usage bits of a generated key by USAGE (06 R203). -/
def genUsage (alg u : Nat) : Nat :=
  if u = 0 then 0x0600 else if u = 1 then 0x0003 else if 0x50 ≤ alg ∧ alg ≤ 0x52 then 0x0800 else 0x0100

/-- A locker signing key's serial starts at 1 (05 R176). -/
def firstMut (alg : Nat) : Nat := if alg = 0x40 ∨ alg = 0x42 then 1 else 0

/-- A record of a public-key key (06 R203). -/
def pkNewKey (alg usage : Nat) (kcv mat : List Byte) (m : Nat) : NewKey :=
  { alg := alg, usage := usage, export_ := 0, worlds := 0x0C, masters := 0x01, lcSet := 0x08, kvn := 0, kcv := kcv,
    mat := mat, mutv := m, parent := none }

/-- The KCV of an asymmetric key (06 R203). -/
def pkKcv (pub : List Byte) : List Byte := (sha256 pub).take 5

/-- The private material that random bytes give (07 R218): the seed itself; a scalar from 1 to the order less 1; for RSA two primes of
half the modulus, whose search the spec does not state (log 12). -/
def madeKey (alg : Nat) (rnd : List Byte) : List Byte :=
  if isRsa alg then fit (privLen alg) (Config.pkBytes "RSA primes" [rnd])
  else if alg = 0x40 ∨ alg = 0x41 then
    beBytes (privLen alg) (1 + beNat (Config.pkBytes "EC scalar" [[BitVec.ofNat 8 alg], rnd]) % ((curveOf alg).n - 1))
  else rnd

/-- A search for RSA primes goes past 20 times its mean number of candidates (06 R198). -/
def primesOver (a : Nat) (rnd : List Byte) : Bool := isRsa a && decide (20 * Config.primeMean (privLen a) < Config.primeTries (privLen a) rnd)

/-- The generate commands' work (06 R203): the private key is what an op-list of the descriptor has stored (R206), or made of fresh random
bytes. -/
def pkGenerate : Work := fun s c =>
  let a := pkAlg c
  let make (mat : List Byte) (t : State) : Res × State :=
    let pub := pubEncode a (publicMat a mat)
    if c.room < pub.length then (.fail 0x000A 0, t)
    else (createKey t c 0 (pkNewKey a (genUsage a (bits c.prm 17 16)) (pkKcv pub) mat (firstMut a)) pub
      (handleKcv (pkKcv pub)), t)
  if c.e.stored.isEmpty then
    withRandom s c (privLen a) (fun rnd t => if primesOver a rnd then (.fail 0x0072 0, t) else make (madeKey a rnd) t)
  else make (fit (privLen a) c.e.stored) s

/-- The public export commands' work (06 R203). -/
def pkPubExport : Work := pureWork (fun s c =>
  let pub := publicOf (keyAt s c 0)
  listOut c pub (pkKcv pub))

/-- The public import commands' work (06 R203, R204). -/
def pkPubImport : Work := pureWork (fun s c =>
  let a := if 0xE0 ≤ pkAlg c then pkAlg c else pkAlg c + 0x80
  let u := bits c.prm 17 16
  match pubDecode a c.data with
  | none => .fail 0x0070 0
  | some mat =>
    createKey s c 0 (pkNewKey a (if u = 0 then 0x0400 else if u = 1 then 0x0001 else 0x0800) (pkKcv c.data) mat 0) []
      (handleKcv (pkKcv c.data)))

/-- A public-key command's work: its format checks, then w. -/
def pkWork (op : PkOp) (w : Work) : Work := fun s c =>
  orFormat (pkFormat c op) (fun a b => (Res.fail a b, s)) (w s c)

/-- RSA_SIGN (06 R201 to R204). -/
def execRsaSign (qp asn : Nat) (s : State) : Host.Outcome State Fault Refusal :=
  dataCommand qp asn 0x0801 (pkWork .sign pkSign) s
/-- RSA_VERIFY (06 R201 to R204). -/
def execRsaVerify (qp asn : Nat) (s : State) : Host.Outcome State Fault Refusal :=
  dataCommand qp asn 0x0802 (pkWork .verify pkVerify) s
/-- RSA_OAEP_ENCRYPT (06 R201 to R204). -/
def execRsaOaepEncrypt (qp asn : Nat) (s : State) : Host.Outcome State Fault Refusal :=
  dataCommand qp asn 0x0803 (pkWork .oaepEnc pkOaepEnc) s
/-- RSA_OAEP_DECRYPT (06 R201 to R203). -/
def execRsaOaepDecrypt (qp asn : Nat) (s : State) : Host.Outcome State Fault Refusal :=
  dataCommand qp asn 0x0804 (pkWork .oaepDec pkOaepDec) s
/-- ECDSA_SIGN (06 R201 to R203). -/
def execEcdsaSign (qp asn : Nat) (s : State) : Host.Outcome State Fault Refusal :=
  dataCommand qp asn 0x0810 (pkWork .sign pkSign) s
/-- ECDSA_VERIFY (06 R201 to R204). -/
def execEcdsaVerify (qp asn : Nat) (s : State) : Host.Outcome State Fault Refusal :=
  dataCommand qp asn 0x0811 (pkWork .verify pkVerify) s
/-- ECDH_DERIVE (06 R201 to R204). -/
def execEcdhDerive (qp asn : Nat) (s : State) : Host.Outcome State Fault Refusal :=
  dataCommand qp asn 0x0812 (pkWork .derive pkEcdh) s
/-- ED25519_SIGN (06 R201 to R203). -/
def execEd25519Sign (qp asn : Nat) (s : State) : Host.Outcome State Fault Refusal :=
  dataCommand qp asn 0x0820 (pkWork .sign pkSign) s
/-- ED25519_VERIFY (06 R201 to R204). -/
def execEd25519Verify (qp asn : Nat) (s : State) : Host.Outcome State Fault Refusal :=
  dataCommand qp asn 0x0821 (pkWork .verify pkVerify) s
/-- PK_GENERATE (06 R201 to R203). -/
def execPkGenerate (qp asn : Nat) (s : State) : Host.Outcome State Fault Refusal :=
  dataCommand qp asn 0x0830 (pkWork .generate pkGenerate) s
/-- PK_PUBLIC_EXPORT (06 R201 to R203). -/
def execPkPublicExport (qp asn : Nat) (s : State) : Host.Outcome State Fault Refusal :=
  dataCommand qp asn 0x0831 (pkWork .pubExport pkPubExport) s
/-- PK_PUBLIC_IMPORT (06 R201 to R204). -/
def execPkPublicImport (qp asn : Nat) (s : State) : Host.Outcome State Fault Refusal :=
  dataCommand qp asn 0x0832 (pkWork .pubImport pkPubImport) s
/-- MLKEM_ENCAPS (06 R201 to R204). -/
def execMlkemEncaps (qp asn : Nat) (s : State) : Host.Outcome State Fault Refusal :=
  dataCommand qp asn 0x0901 (pkWork .encaps pkEncaps) s
/-- The work of MLKEM_DECAPS (06 R199, R201 to R204). -/
def mlkemDecapsBody : Work := pkWork .decaps pkDecaps

/-- MLKEM_DECAPS (06 R199, R201 to R204). -/
def execMlkemDecaps (qp asn : Nat) (s : State) : Host.Outcome State Fault Refusal :=
  dataCommand qp asn 0x0902 mlkemDecapsBody s
/-- MLDSA_SIGN (06 R201 to R203). -/
def execMldsaSign (qp asn : Nat) (s : State) : Host.Outcome State Fault Refusal :=
  dataCommand qp asn 0x0910 (pkWork .sign pkSign) s
/-- MLDSA_VERIFY (06 R201 to R204). -/
def execMldsaVerify (qp asn : Nat) (s : State) : Host.Outcome State Fault Refusal :=
  dataCommand qp asn 0x0911 (pkWork .verify pkVerify) s
/-- SLHDSA_VERIFY (06 R201 to R204). -/
def execSlhdsaVerify (qp asn : Nat) (s : State) : Host.Outcome State Fault Refusal :=
  dataCommand qp asn 0x0920 (pkWork .verify pkVerify) s
/-- PQ_GENERATE (06 R201 to R203). -/
def execPqGenerate (qp asn : Nat) (s : State) : Host.Outcome State Fault Refusal :=
  dataCommand qp asn 0x0930 (pkWork .generate pkGenerate) s
/-- PQ_PUBLIC_EXPORT (06 R201 to R203). -/
def execPqPublicExport (qp asn : Nat) (s : State) : Host.Outcome State Fault Refusal :=
  dataCommand qp asn 0x0931 (pkWork .pubExport pkPubExport) s
/-- PQ_PUBLIC_IMPORT (06 R201 to R204). -/
def execPqPublicImport (qp asn : Nat) (s : State) : Host.Outcome State Fault Refusal :=
  dataCommand qp asn 0x0932 (pkWork .pubImport pkPubImport) s

end Sys2Proof.Machine
end

