-- ==== Sys2Proof/Machine/Scripts.lean ====
section
/-!
DEFINITION. Tenant script slots: the image a write brings, its acceptance, and the emptying of a slot (08 R266 to R268,
R272, R277).
-/

namespace Sys2Proof.Machine

open Sys2Proof

/-- Bytes of code and of initial data that an image states (08 R266). -/
def scriptBody (v : List Byte) : Nat := 0x40 + field v 0x08 4 + field v 0x0C 4

/-- Bytes of the signatures that SIG_ALGS names (08 R266). -/
def scriptSigs (v : List Byte) : Nat := (if bit (field v 0x19 1) 0 then 96 else 0) + (if bit (field v 0x19 1) 1 then 3309 else 0)

/-- Every field of an image lies within the ranges of 08 R266. -/
def scriptFieldsOk (v : List Byte) : Bool :=
  let code := field v 0x08 4
  slice v 0 4 == ascii "YQS1" && field v 4 2 == 1 && decide (1 ≤ field v 6 1 ∧ field v 6 1 ≤ 64) && decide (field v 7 1 < 2) &&
    code % 4 == 0 && decide (4 ≤ code ∧ code ≤ 16384) && decide (field v 0x0C 4 ≤ 8064) && decide (field v 0x14 4 ≤ 8192) &&
    decide (field v 0x18 1 < 16) && decide (field v 0x19 1 < 4) && allZero (slice v 0x1A 6) && allZero (slice v 0x34 12)

/-- The highest VERSION accepted for a SCRIPT_ID in this incarnation (08 R267). -/
def versionFloor (x : Part) (id : List Byte) : Nat := ((x.versions.filter (fun v => v.1 == id)).map (fun v => v.2)).foldl max 0

/-- The script that an image holds, its bytes at an address of the DDR5, with its measurement (08 R266, R268). -/
def scriptOf (addr : Nat) (v : List Byte) : Script :=
  let code := field v 0x08 4
  let data := field v 0x0C 4
  { image := v, addr := addr, len := scriptBody v, id := slice v 0x20 16, version := field v 0x30 4, budget := field v 0x10 4, maxOut := field v 0x14 4, flags := field v 7 1,
    keys := field v 0x18 1, sigAlgs := field v 0x19 1, meas := sha3_384 (slice v 0 (scriptBody v)), code := slice v 0x40 code,
    data := slice v (0x40 + code) data }

/-- Every signature of an image verifies under its enrolled key, over all the bytes before it (08 R266, R267). -/
def imageSigsOk (s : State) (p : Nat) (v : List Byte) : Bool :=
  let n := scriptBody v
  let algs := field v 0x19 1
  let m := if bit algs 0 then n + 96 else n
  (!bit algs 0 || verify384 (objBytes s (0x4000 + p) 0x40 97) (v.take n) (slice v n 96)) &&
    (!bit algs 1 || verifyDsa 0x59 (objBytes s (0x4000 + p) 0x41 1952) (v.take m) (slice v m 3309))

/-- The script image area of the DDR5 in blocks of 32 KiB, each of which holds one image (01 R31; log 45). -/
abbrev scriptBlocks : Nat := 2 ^ 15

/-- The blocks of the script image area that loaded scripts or accepted descriptors hold (08 R268, R272). -/
def scriptsHeld (s : State) : List Nat :=
  (s.parts.flatMap (fun x => x.2.scripts.map (fun y => y.2.addr)) ++
    s.entries.filterMap (fun e => if e.cpl.isNone then e.image.map (fun x => x.addr) else none))

/-- The address of the lowest block from k on that is not in a list, n blocks tried. -/
def freeBlock (l : List Nat) (k n : Nat) : Option Nat :=
  match n with
  | 0 => none
  | n + 1 => if l.contains (scriptAreaBase + 2 ^ 15 * k) then freeBlock l (k + 1) n else some (scriptAreaBase + 2 ^ 15 * k)

/-- Where the next image goes. -/
def scriptPlace (s : State) : Option Nat := freeBlock (scriptsHeld s) 0 scriptBlocks

/-- What stands against an image for slot n (08 R267; log 45): a result of 10 R334, 0 for none. -/
def scriptBar (s : State) (p n : Nat) (v : List Byte) : Nat :=
  let x := partOf s p
  if x.created = false then 0x0009
  else if (tblFind x.scripts n).isSome then 0x0006
  else if v.length < 0x40 ∨ 27917 < v.length ∨ v.length ≠ scriptBody v + scriptSigs v then 0x0007
  else if !scriptFieldsOk v ∨ field v 6 1 ≠ n ∨ field v 0x19 1 ≠ signersOf s p ∨ signersOf s p = 0 ∨
      objNat s (0x4000 + p) 0x42 100000 < field v 0x10 4 ∨ field v 0x30 4 < versionFloor x (slice v 0x20 16) then 0x0008
  else if !imageSigsOk s p v then 0x000F
  else if (scriptPlace s).isNone then 0x0012
  else 0

/-- An image is accepted into slot n: kept in the NAND, in the DDR5 and in the tile script table (08 R268). -/
def loadScript (s : State) (p n : Nat) (v : List Byte) : State :=
  let k := scriptOf ((scriptPlace s).getD 0) v
  storeImage (modPart s p (fun x => { x with
    scripts := tblSet x.scripts n k, versions := (k.id, k.version) :: x.versions.filter (fun y => y.1 != k.id) })) k

/-- SCRIPT_IMAGE (08 R266 to R268, R277). -/
def execScriptImage (path : Path) (p slot : Nat) (image : List Byte) (s : State) : Host.Outcome State Fault Refusal :=
  guardUnit (partOk p && decide (1 ≤ slot ∧ slot ≤ 64)) slot s
    (onWrite s path .wo (0x4000 + p) (0x4F + slot) image (fun t =>
      let c := scriptBar t p slot image
      answer (if c = 0 then loadScript t p slot image else t) path c []))

/-- SCRIPT_REMOVE (08 R272, R277): accepted descriptors keep the image they were accepted under. -/
def execScriptRemove (path : Path) (p slot : Nat) (s : State) : Host.Outcome State Fault Refusal :=
  guardUnit (partOk p) p s
    (onWrite s path .wo (0x4000 + p) 0xD0 (leBytes 1 slot) (fun t =>
      if slot < 1 ∨ 64 < slot then answer t path 0x0008 []
      else if (partOf t p).created = false then answer t path 0x0009 []
      else answer (modPart t p (fun x => { x with scripts := tblErase x.scripts slot })) path 0 []))

end Sys2Proof.Machine
end

