-- ==== Sys2Proof/Machine/Requests.lean ====
section
/-!
DEFINITION. The requests of the dictionary: READ, WRITE, INFO, CANCEL and CLOSE, the pieces they come in, and the reads that
take their value at the read (10 R327 to R335; 11 R375; 13 R408; 14 R421; 15 R446, R447; 17 R470).
-/

namespace Sys2Proof.Machine

open Sys2Proof

/-- n free bytes. -/
def freeBytes (s : State) (n : Nat) : List Byte × State :=
  (List.range n).foldl (fun x _ => let (v, t) := takeFree x.2; (x.1 ++ leBytes 1 v, t)) ([], s)

/-- QTR_DLIST_OCC (03 R91; 15 R447): what stands in L0 to L7 of a quarter. -/
def dlistOcc (s : State) (q : Nat) : List Byte :=
  let mine := s.entries.filter (fun e => e.quarter == q && e.cpl.isNone)
  let timers (i : Nat) : Nat := (mine.filter (fun e => e.deadline.isSome && e.slot % 4 == i)).length
  ((List.range 4).map timers ++ [(l4List s q).length, (quarterOf s q).l5.length, (l6List s q).length, (mine.filter onL7).length]).flatMap (leBytes 2)

/-- A reading of the test buses or of the power monitor, of n bytes: a free value (15 R446; 17 R470). -/
def freeReading (idx sub : Nat) : Option Nat :=
  if among [0xA010, 0xA020, 0xA021, 0xA022, 0xA023] idx ∧ sub ≠ 0 then some 2
  else if idx = 0x7800 ∧ sub = 2 then some 8
  else if idx = 0x5210 ∧ sub = 1 then some 3413
  else none

/-- The link's errors since the last read of their counts, of which no row tells, advance HIF_AER_CORR or HIF_AER_UNCORR by a free number
while the link is up (10 R351; log 91). -/
def countAer (s : State) (sub : Nat) : State :=
  if s.hif.linkUp = false then s
  else
    let (v, t) := takeFree s
    modHif t (fun h => if sub = 2 then { h with aerCorr := (h.aerCorr + v) % 2 ^ 32 } else { h with aerUncorr := (h.aerUncorr + v) % 2 ^ 32 })

/-- The snapshot that the FIRST piece of a read takes (10 R332), or the result it answers. reading is the converter's code
where the command brings it. -/
def readSnap (s : State) (path : Path) (idx sub : Nat) (o : Obj) (reading : Option Nat) : Except Nat (List Byte × State) :=
  if idx = 0x2040 ∧ sub = 3 then (attValue s).map (fun v => (v, s))
  else if idx = 0x6800 ∧ sub = 9 then .ok (rawData s)
  else if idx = 0x7001 ∧ sub = 3 then .ok (recordsFrom s (cursorOf s path), s)
  else if 0x8100 ≤ idx ∧ idx ≤ 0x8103 ∧ sub = 4 then .ok (dlistOcc s (idx - 0x8100), s)
  else if idx = 0xA000 ∧ sub = 2 then
    let (v, t) := takeFree s
    .ok (leBytes 1 (v % 11), t)
  else if idx = 0xA0F0 ∧ sub = 2 then
    match reading with
    | some v => .ok (leBytes 2 v, s)
    | none => .ok (freeBytes s 2)
  else if idx = 0x9002 ∧ (sub = 2 ∨ sub = 3) then .ok (objVal (countAer s sub) path idx sub o, countAer s sub)
  else match freeReading idx sub with
    | some n => .ok (freeBytes s n)
    | none => .ok (objVal s path idx sub o, s)

/-- Objects that read as zero length, which the tunnel never reads (10 R335, R349; 11 R377). -/
def zeroLength (idx sub : Nat) : Bool := (idx == 0x5100 && sub == 4) || (idx == 0x2010 && sub == 3)

/-- What stands against a read of an object that exists (10 R330, R334, R335; 17 R470). -/
def readBar (s : State) (r : Role) (path : Path) (idx sub : Nat) (o : Obj) : Nat :=
  if !readRight r idx ∨ o.acc = .wo ∨ (path = .tunnel ∧ zeroLength idx sub) ∨ (idx = 0xA0F0 ∧ sub ≠ 0 ∧ !atbFull s) then 0x0006
  else 0

/-- The object that a request names, or why there is none: the tunnel closed, or no such index or sub (10 R334). -/
def reqObj (s : State) (path : Path) (idx sub : Nat) : Except Nat Obj :=
  if tunnelOff s path then .error 0x0003
  else if missing s idx sub ≠ 0 then .error (missing s idx sub)
  else match objOf idx sub with
    | some o => .ok o
    | none => .error 0x0002

/-- Transfers of one object and direction on a path. -/
def isXfer (path : Path) (write : Bool) (idx sub : Nat) (x : DictXfer) : Bool :=
  x.path == path && x.write == write && x.index == idx && x.sub == sub

/-- Discard a transfer. -/
def dropXfer (s : State) (path : Path) (write : Bool) (idx sub : Nat) : State :=
  modDict s (fun d => { d with xfers := d.xfers.filter (fun x => !isXfer path write idx sub x) })

/-- Hold a transfer in place of an earlier one. -/
def holdXfer (s : State) (x : DictXfer) : State :=
  let t := dropXfer s x.path x.write x.index x.sub
  modDict t (fun d => { d with xfers := d.xfers ++ [x] })

/-- SEG_ERROR: what is held of the transfer is discarded (10 R332). -/
def segError (s : State) (path : Path) (write : Bool) (idx sub : Nat) : State :=
  answer (dropXfer s path write idx sub) path 0x000A []

/-- Answer a read with the piece at pos: whole over the bus, up to 2,032 bytes through the mailbox (10 R332). -/
def sendPiece (s : State) (path : Path) (idx sub : Nat) (v : List Byte) (pos : Nat) : State :=
  let piece := if path = .tunnel then (v.drop pos).take 2032 else v
  let n := pos + piece.length
  let t := if n = v.length then dropXfer s path false idx sub
    else holdXfer s { path := path, write := false, index := idx, sub := sub, data := v, pos := n, last := s.now }
  answerMsg t path (b2n (pos == 0) + 2 * b2n (n == v.length)) 0 pos v.length piece

/-- The debug scope in force reaches an index of Avbor's diagnostics (11 R372). -/
def diagReach (s : State) (idx : Nat) (write : Bool) : Bool :=
  debugScope s == 2 || (debugScope s == 1 && decide (idx ≤ 0xF7FF)) || (decide (idx ≤ 0xF0FF) && !write)

/-- A request to Avbor's diagnostics, 0xF000 and above: ROLE_DENIED for a custodian, ACCESS_DENIED beyond the debug scope, and else, as the
spec lists no object there, NO_OBJECT or OK with a free value (10 R330, R347; 11 R372; log 75). -/
def serveDiag (t : State) (r : Role) (path : Path) (idx : Nat) (write : Bool) : State :=
  if t.fw.recovery ∧ path ≠ .tunnel then answer t path 0x0001 []
  else if tunnelOff t path ∨ (write ∧ path = .tunnel ∧ objNat t 0x9010 0x02 0 = 1) then answer t path 0x0003 []
  else if !readRight r idx then answer t path (if write then 0x0005 else 0x0006) []
  else if !diagReach t idx write then answer t path 0x0006 []
  else
    let (v, u) := takeFree t
    if v % 2 = 0 then answer u path 0x0001 []
    else if write then answer u path 0 []
    else
      let (b, w) := freeBytes u 4
      answer w path 0 b

/-- Serve a READ (10 R331 to R334). -/
def serveRead (s : State) (path : Path) (idx sub : Nat) (first : Bool) (offset : Nat) (reading : Option Nat) : State :=
  if path = .tunnel ∧ mbxAt s first offset = false then s
  else onPath s path 1 idx sub 0 (fun r t0 =>
    let t := setCur t0 path 1 idx sub
    if 0xF000 ≤ idx then serveDiag t r path idx false
    else match reqObj t path idx sub with
    | .error c => answer t path c []
    | .ok o =>
      let c := readBar t r path idx sub o
      if c ≠ 0 then answer t path c []
      else if first then
        if offset ≠ 0 then segError t path false idx sub
        else match readSnap t path idx sub o reading with
          | .error e => answer t path e []
          | .ok (v, u) => sendPiece u path idx sub v 0
      else match (t.dict.xfers.find? (isXfer path false idx sub)).filter (fun x => x.pos == offset) with
        | some x => sendPiece t path idx sub x.data offset
        | none => segError t path false idx sub)

/-- READ (10 R331 to R334). -/
def execRead (path : Path) (index sub : Nat) (first : Bool) (offset : Nat) (s : State) : Host.Outcome State Fault Refusal :=
  done s (serveRead s path index sub first offset none)

/-- ATT_STATEMENT (11 R375, R377): its first piece. -/
def execAttStatement (path : Path) (s : State) : Host.Outcome State Fault Refusal :=
  done s (serveRead s path 0x2040 0x03 true 0 none)

/-- RNG_RAW_DATA (13 R408, R410): its first piece. -/
def execRngRawData (path : Path) (s : State) : Host.Outcome State Fault Refusal :=
  done s (serveRead s path 0x6800 0x09 true 0 none)

/-- EVR_RECORDS (14 R421, R425): its first piece. -/
def execEvrRecords (path : Path) (s : State) : Host.Outcome State Fault Refusal :=
  done s (serveRead s path 0x7001 0x03 true 0 none)

/-- ATB_RAW (17 R469, R470): the converter's reading of the node that ATB_SEL selects. -/
def execAtbRaw (path : Path) (reading : Nat) (s : State) : Host.Outcome State Fault Refusal :=
  done s (serveRead s path 0xA0F0 0x02 true 0 (some reading))

/-- A write of a partition's object that has a row of its own (08 R277). -/
def partRow (path : Path) (p sub : Nat) (v : List Byte) (s : State) : Option (Host.Outcome State Fault Refusal) :=
  let n := leNat v
  if sub = 0x05 then
    some (if n = 1 then execSuspend (.dict path) p s else if n = 2 then execResume (.dict path) p s
      else if n = 3 then execDrain (.dict path) p s else if n = 4 then execSquash (.dict path) p s else execCreate path p s)
  else if 0x50 ≤ sub ∧ sub ≤ 0x8F then some (execScriptImage path p (sub - 0x4F) v s)
  else if sub = 0xD0 then some (execScriptRemove path p n s)
  else if sub = 0xE0 then some (execPartRemove path p s)
  else none

/-- A write of a tile's object that has a row of its own (15 R447). -/
def tileRow (path : Path) (t sub : Nat) (v : List Byte) (s : State) : Option (Host.Outcome State Fault Refusal) :=
  if sub = 0x01 then some (execTileEnable path t (leNat v) s)
  else if sub = 0x02 then some (execTilePower path t (leNat v) s)
  else if sub = 0x06 then some (execTileReset path t s)
  else none

/-- The command that a write of an object is, where the object has one of its own. -/
def ownRow (path : Path) (idx sub : Nat) (v : List Byte) (s : State) : Option (Host.Outcome State Fault Refusal) :=
  let n := leNat v
  if 0x4000 ≤ idx ∧ idx ≤ 0x4FFF then partRow path (idx - 0x4000) sub v s
  else if 0x5220 ≤ idx ∧ idx ≤ 0x525F ∧ sub = 7 then some (execQrqWithdraw path (idx - 0x5220) s)
  else if 0x8000 ≤ idx ∧ idx ≤ 0x800F then tileRow path (idx - 0x8000) sub v s
  else match idx, sub with
    | 0x1100, 4 => some (execFmpPortRestart path n s)
    | 0x2000, 4 => some (execLcTarget path n s)
    | 0x2010, 1 => some (execDbgRequest path n s)
    | 0x2010, 3 => some (execDbgResponse path v s)
    | 0x2010, 5 => some (execDbgClose path s)
    | 0x2020, 2 => some (execFwUpdStart path n s)
    | 0x2020, 3 => some (execFwUpdData path v s)
    | 0x2020, 6 => some (execFwUpdActivate path s)
    | 0x5010, 2 => some (execKeyOpAction path n s)
    | 0x5011, 2 => some (execModKeyOpAction path n s)
    | 0x5100, 1 => some (execCerOpen path v s)
    | 0x5100, 4 => some (execCerComponent path v s)
    | 0x5100, 6 => some (execCerConfirm path v s)
    | 0x5100, 8 => some (execCerAbort path s)
    | 0x5210, 1 => some (execQrmApprove path (field v 0 4) (field v 4 1) (slice v 8 96) (slice v 104 3309) s)
    | 0x6000, 4 => some (execTmpHaltRelease path s)
    | 0x6800, 4 => some (execRngRestart path s)
    | 0x6800, 7 => some (execRngRawMode path (n == 1) s)
    | 0x7000, 0x0B => some (execEvrWallClock path n s)
    | 0x7830, 2 => some (execWearPlanNow path s)
    | 0x7840, 8 => some (execBatReplaced path s)
    | _, _ => none

/-- The state after a command's outcome; one that stops leaves it. -/
def afterRow (s : State) (o : Host.Outcome State Fault Refusal) : State :=
  match o with
  | .next t => t
  | _ => s

/-- The owning chapter denies the write whatever its value (10 R334): the command of the object answers so. -/
def rowDenies (s : State) (path : Path) (idx sub : Nat) (o : Obj) (v : List Byte) : Bool :=
  (o.acc == .rwq && path == .tunnel && rwqAtOnce s) || (idx == 0x6800 && sub == 4 && s.rng.state != rngStuck) ||
    (idx == 0x7840 && sub == 8 && !s.ident.external) || (idx == 0x5011 && sub == 2 && identityHandle s) ||
    (idx == 0x5100 && (sub == 4 || sub == 6 || (sub == 8 && cerForeign s path))) ||
    (idx == 0x5210 && approveDenied s path (field v 0 4) (field v 4 1)) ||
    (decide (0x5220 ≤ idx ∧ idx ≤ 0x525F) && withdrawBar s path (idx - 0x5220) != 0)

/-- A whole value is written (10 R332, R334): by the object's own command on base, else by its class. -/
def finishWrite (t base : State) (path : Path) (idx sub : Nat) (o : Obj) (v : List Byte) : State :=
  match ownRow path idx sub v base with
  | some r =>
    if !rowDenies t path idx sub o v ∧ valueCode t idx sub o v ≠ 0 then answer t path (valueCode t idx sub o v) []
    else afterRow base r
  | none =>
    if o.acc = .rwq then serveRwq t path idx sub o v
    else if accessBar t idx sub then answer t path 0x0006 []
    else if valueCode t idx sub o v ≠ 0 then answer t path (valueCode t idx sub o v) []
    else if stateBar t idx sub v then answer t path 0x0009 []
    else answer (applyObj t path idx sub v) path 0 []

/-- A piece of a write through the mailbox (10 R332): its value is held until the LAST piece. -/
def mailboxPiece (t : State) (idx sub : Nat) (o : Obj) (pc : Piece) : State :=
  let path := Path.tunnel
  let held : Option (List Byte) :=
    if pc.first then (if pc.offset = 0 then some [] else none)
    else ((t.dict.xfers.find? (isXfer path true idx sub)).filter (fun x => x.pos == pc.offset)).map (fun x => x.data)
  match held with
  | none => segError t path true idx sub
  | some d =>
    let v := d ++ pc.value
    if pc.total < v.length ∨ (pc.last ∧ v.length ≠ pc.total) then segError t path true idx sub
    else if pc.last then
      let u := dropXfer t path true idx sub
      finishWrite u u path idx sub o v
    else
      answer (holdXfer t { path := path, write := true, index := idx, sub := sub, data := v, pos := v.length, last := t.now })
        path 0 []

/-- A piece that is the whole value: FIRST and LAST (10 R332). -/
def wholePiece (pc : Piece) : Bool := pc.first && pc.last && pc.offset == 0 && pc.total == pc.value.length

/-- Serve a WRITE (10 R331 to R335). -/
def serveWrite (s : State) (path : Path) (idx sub : Nat) (pc : Piece) : State :=
  if path = .tunnel ∧ mbxCarries s pc = false then s
  else onPath s path 2 idx sub pc.value.length (fun r t0 =>
    let t := setCur t0 path 2 idx sub
    if 0xF000 ≤ idx then serveDiag t r path idx true
    else match reqObj t path idx sub with
    | .error c => answer t path c []
    | .ok o =>
      let c := writeRight t r o.acc idx sub pc.value
      if c ≠ 0 then answer t path c []
      else if path = .tunnel then mailboxPiece t idx sub o pc
      else if wholePiece pc then finishWrite t s path idx sub o pc.value
      else segError t path true idx sub)

/-- WRITE (10 R329 to R339). The mailbox cannot carry a piece above 2,032 bytes (02 R56; log 10). -/
def execWrite (path : Path) (index sub : Nat) (pc : Piece) (s : State) : Host.Outcome State Fault Refusal :=
  done s (if path = .tunnel ∧ 2032 < pc.value.length then s else serveWrite s path index sub pc)

/-- The number of an access class (10 R331). -/
def accessNo (a : Access) : Nat :=
  match a with
  | .const => 0
  | .ro => 1
  | .rw => 2
  | .wo => 3
  | .rwq => 4
  | .rwb => 5

/-- The VALUE of an INFO response (10 R331). -/
def infoBytes (o : Obj) : List Byte :=
  leBytes 1 o.ty ++ leBytes 1 (accessNo o.acc) ++ zeros 2 ++ leBytes 4 o.len ++ leBytes 8 o.dflt ++ leBytes 8 o.lo ++ leBytes 8 o.hi

/-- INFO (10 R331, R334): the rights are those of a read by its index. -/
def execInfo (path : Path) (index sub : Nat) (s : State) : Host.Outcome State Fault Refusal :=
  done s (onPath s path 3 index sub 0 (fun r t0 =>
    let t := setCur t0 path 3 index sub
    match reqObj t path index sub with
    | .error c => answer t path c []
    | .ok o => if readRight r index then answer t path 0 (infoBytes o) else answer t path 0x0006 []))

/-- The waiting key operations of a path are withdrawn, each write answered CANCELLED (07 R243; 10 R334). -/
def cancelOps (s : State) (path : Path) : State :=
  let mine := s.vault.waiting.filter (fun o => o.path == some path)
  mine.foldl (fun t o => answer (setCur t path 2 (if o.module then 0x5011 else 0x5010) 0x02) path 0x0013 [])
    (withdrawKeyOps s path)

/-- CANCEL (07 R243; 10 R331, R332, R334): what the path has in pieces is discarded, and what waits is withdrawn. -/
def execCancel (path : Path) (s : State) : Host.Outcome State Fault Refusal :=
  done s (onPath s path 4 0 0 0 (fun _ t =>
    if tunnelOff t path then answer (setCur t path 4 0 0) path 0x0003 []
    else answer (setCur (cancelOps (dropXfers t path) path) path 4 0 0) path 0 []))

/-- CLOSE (10 R326, R331): of a session; the tunnel has none to close. -/
def execClose (path : Path) (s : State) : Host.Outcome State Fault Refusal :=
  done s (onPath s path 5 0 0 0 (fun _ t0 =>
    let t := setCur t0 path 5 0 0
    match path with
    | .tunnel => answer t path (if tunnelOff t path then 0x0003 else 0x0005) []
    | .session sid => endSessions (answer t path 0 []) (fun x => x.sid == sid)))

/-- SEGMENT_TIMEOUT (10 R332): 5 s after the last piece of the transfer of this path that has waited longest. -/
def execSegmentTimeout (path : Path) (s : State) : Host.Outcome State Fault Refusal :=
  done s (match s.dict.xfers.filter (fun x => x.path == path) with
    | [] => s
    | x :: r =>
      let t := advanceTo s (r.foldl (fun m y => min m y.last) x.last + 5000000)
      modDict t (fun d => { d with xfers := d.xfers.filter (fun y => y.path != path || decide (t.now < y.last + 5000000)) }))

end Sys2Proof.Machine
end

