-- ==== Sys2Proof/Machine/Tenant.lean ====
section
/-!
DEFINITION. Tenant scripts: the invocation's check and the preparation of S3 (08 R265, R269, R270; 09 R282).
-/

namespace Sys2Proof.Machine

open Sys2Proof

/-- SCRIPT_NOT_LOADED (02 R69). -/
abbrev stScriptNotLoaded : Nat := 0x0082

/-- An invocation whose checks 4 to 6 are done (02 R62). -/
def invokeReady (s : State) (e : Entry) : Bool :=
  e.tile.isSome && e.cpl.isNone && !unitQueued s e.qp e.asn && e.park == .none && !s.tamper.halt && inputReady e &&
    dClass e.desc == 0x0D

/-- Key fields outside the KEYS mask of the script's header, each with its offset (08 R265). -/
def maskedKeys (x : Script) (d : List Byte) : List (Bool × Nat) :=
  (List.range 4).map (fun k => (!bit x.keys k && dKey d k != 0, dKeyOff k))

/-- TENANT_SCRIPT_INVOKE's check 7 (08 R265): an empty slot, or a key field outside the mask; else S3 is asked for. -/
def invoke (s : State) (e : Entry) : State :=
  match e.image with
  | none => finishEntry s e (Cpl.fail stScriptNotLoaded 0)
  | some x =>
    match firstBad (maskedKeys x e.desc) with
    | some off => finishEntry s e (Cpl.fail 0x0003 off)
    | none => modEntry s e.qp e.asn (fun y => { y with script := .waiting })

/-- TENANT_SCRIPT_INVOKE (08 R265, R269). -/
def execTenantScriptInvoke (qp asn : Nat) (s : State) : Host.Outcome State Fault Refusal :=
  guardUnit (qpOk qp) qp s
    (match entryOf s qp asn with
    | none => s
    | some e => if invokeReady s e && e.script == .none then invoke s e else s)

/-- Invocations of a tile that wait for S3. -/
def tenantWaiters (s : State) (t : Nat) : List Entry :=
  (homedOn s t).filter (fun e => e.script == .waiting && invokeReady s e)

/-- The invocation whose turn it is on S3 of tile t: round robin over the partitions, the lowest ASN within one (08
R269). -/
def tenantTurn (s : State) (t : Nat) : Option Entry :=
  let ws := tenantWaiters s t
  match rrNext (tmemOf s t).rrTenant (partsOfEntries s ws) with
  | none => none
  | some p => lowestOf s ws p

/-- S3 is prepared for a descriptor (08 R269; 09 R282): the image's code and initial data from the copied bytes b, the descriptor copy, the
budget. -/
def startTenant (s : State) (t : Nat) (e : Entry) (b : List Byte) : State :=
  let c := 4 * t + 3
  let n := field b 0x08 4
  let k : EloaCore := { EloaCore.script with
    code := Memory.write [] 0 (slice b 0x40 n), mem := Memory.write (Memory.write [] 0 (slice b (0x40 + n) (field b 0x0C 4))) 0x1F80 e.desc,
    desc := some (e.qp, e.asn), dbg := (coreOf s c).dbg, ctl := { CoreCtl.reset with budget := e.budget },
    seenBudget := e.budget }
  let s1 := modCore s c (fun _ => k)
  modEntry s1 e.qp e.asn (fun y => { y with script := .core c })

/-- The turn is taken: the loader copies the image from the DDR5 and compares its digest with the table's measurement, unless S3 ran it
last. A mismatch ends the descriptor with DATA_INTEGRITY_ERROR and records a module event (08 R269; its check kind is a free value, log
29). -/
def loadTenant (s : State) (t : Nat) (e : Entry) (x : Script) : State :=
  let s1 := modTmem s t (fun m => { m with rrTenant := (qpOf s e.qp).partition })
  let b := Memory.read s.ddr x.addr x.len
  if (tmemOf s t).scriptImage = some x.meas then startTenant s1 t e (x.image.take x.len)
  else if sha3_384 b = x.meas then startTenant (modTmem s1 t (fun m => { m with scriptImage := some x.meas })) t e b
  else
    let (v, s2) := takeFree (modTmem s1 t (fun m => { m with scriptImage := none }))
    record (finishEntry s2 e cplData) 0x3016 2 t (leBytes 1 v)

/-- TENANT_SCRIPT_LOAD (08 R269): S3 is free and it is this invocation's turn. -/
def execTenantScriptLoad (t qp asn : Nat) (s : State) : Host.Outcome State Fault Refusal :=
  guardUnit (tileOk t) t s
    (match tenantTurn s t with
    | none => s
    | some e =>
      match e.image with
      | none => s
      | some x => if e.isOf qp asn && (coreOf s (4 * t + 3)).desc.isNone then loadTenant s t e x else s)

end Sys2Proof.Machine
end

