-- ==== Sys2Proof/Machine/Test.lean ====
section
/-!
DEFINITION. The test access port: its instructions as the life cycle and the debug scope permit them (11 R372; 17 R467 to
R470).
-/

namespace Sys2Proof.Machine

open Sys2Proof

/-- Change the test port. -/
def modTest (s : State) (f : TestAcc → TestAcc) : State := { s with test := f s.test }

/-- Select a TAP instruction and show what its data register gives on TDO (17 R467). -/
def tap (s : State) (ir : Nat) (tdo : List Byte) : State := send (modTest s (fun t => { t with ir := ir })) (.tdo tdo)

/-- BYPASS: one bit, captured as 0 (IEEE 1149.1; 17 R468; log 55). -/
def tapBypass (s : State) : State := tap s 0xFF [0]

/-- A free word on TDO, where the spec gives what is captured no value. -/
def tapFree (s : State) (ir n : Nat) : State :=
  let (v, t) := takeFree s
  tap t ir (leBytes n v)

/-- BYPASS (17 R468). -/
def execBypass (s : State) : Host.Outcome State Fault Refusal := done s (tapBypass s)

/-- IDCODE (17 R467, R468): 0x1513_456F. -/
def execIdcode (s : State) : Host.Outcome State Fault Refusal := done s (tap s 0x01 (leBytes 4 0x1513456F))

/-- SAMPLE/PRELOAD (17 R468): in TEST and MANUFACTURE, and in ANALYSIS under FULL; the pins sampled are free (log 55). -/
def execSamplePreload (cells : BitVec 32) (s : State) : Host.Outcome State Fault Refusal :=
  done s (if debugScope s = 2 then tapFree (modTest s (fun t => { t with cells := cells })) 0x02 4 else tapBypass s)

/-- EXTEST (17 R468): in TEST and MANUFACTURE; the cells drive the pins. -/
def execExtest (cells : BitVec 32) (s : State) : Host.Outcome State Fault Refusal :=
  done s (if lifeCycle s ≤ 1 then tapFree (modTest s (fun t => { t with cells := cells })) 0x00 4 else tapBypass s)

/-- A debug operation is one that the scope in force reaches (11 R372): under OPEN_DEBUG halt, step and memory access of M1
to M3; under FULL every core, register and memory. -/
def dbgReaches (s : State) (core : Nat) (regs : Bool) : Bool :=
  coreOk core && (debugScope s == 2 || (debugScope s == 1 && isOpen core && !regs))

/-- The scope in force reaches a memory beside a core's data map: under OPEN_DEBUG the instruction memory of M1 to M3; under FULL all, the
BBRAM in TEST and MANUFACTURE alone (11 R372). -/
def spaceReaches (s : State) (sp : DbgSpace) : Bool :=
  match sp with
  | .code core => dbgReaches s core false
  | .ddr => debugScope s == 2
  | .mram _ => debugScope s == 2
  | .bbram => debugScope s == 2 && decide (lifeCycle s ≤ 1)

/-- A core runs again: what is pending for it is delivered. -/
def letRun (s : State) (core : Nat) : State :=
  let t := modCore s core (fun k => { k with dbg := 0 })
  deliver t (unitOf core).1 (unitOf core).2

/-- A debug read of a word, or what its refused address shows: a free value (log 55). -/
def dbgRead (s : State) (core a : Nat) : State :=
  match loadAt s core a 4 with
  | .ok (v, t) => tap t 0x20 (leBytes 4 v)
  | .error _ => tapFree s 0x20 4

/-- The core lies in a tile in ECLIPSE, which reads zero and takes no write (16 R450). -/
def coreAsleep (s : State) (core : Nat) : Bool := decide (core < 64) && (tileOf s (core / 4)).power == 2

/-- What a debug operation shows of a core without power. -/
def dbgAsleep (op : DbgOp) : List Byte :=
  match op with
  | .readMem _ _ => zeros 4
  | .readReg _ _ => zeros 4
  | .readOther _ _ => zeros 4
  | _ => []

/-- The bytes of an MRAM device that this model lays out at an address: the header, a queue pair's line, a share's entry (01 R30; 04
R115). -/
def mramByte (s : State) (dev a : Nat) : Option Byte :=
  let up := if dev = 0 then s.journal.devA else s.journal.devB
  if !up then none
  else if a < 0x100000 then (mramHeader s.journal)[a]?
  else if 0x110000 ≤ a ∧ a < 0x210000 then
    let q := qpOf s ((a - 0x110000) / 64)
    (qpLineBytes q (if dev = 0 then q.slotsA else q.slotsB))[(a - 0x110000) % 64]?
  else if 0x210000 ≤ a ∧ a < 0x230000 then (shareBytes s ((a - 0x210000) / 32))[(a - 0x210000) % 32]?
  else none

/-- A debug read of a memory beside a core's data map: a free value where the model lays out nothing (11 R372; log 55). -/
def dbgReadOther (s : State) (sp : DbgSpace) (a : Nat) : State :=
  match sp with
  | .code core => tap s 0x20 (Memory.read (coreOf s core).code a 4)
  | .ddr => tap s 0x20 (ddrRead s a 4)
  | .mram dev =>
    (match (List.range 4).mapM (fun k => mramByte s dev (a + k)) with
    | some v => tap s 0x20 v
    | none => tapFree s 0x20 4)
  | .bbram => tapFree s 0x20 4

/-- A debug write of such a memory; of the MRAM and the BBRAM, whose bytes the model does not hold as such, nothing follows (log 55). -/
def dbgWriteOther (s : State) (sp : DbgSpace) (a : Nat) (v : Word) : State :=
  match sp with
  | .code core => tap (modCore s core (fun k => { k with code := Memory.write k.code a (leBytes 4 v.toNat) })) 0x20 []
  | .ddr => tap (ddrWrite s a (leBytes 4 v.toNat)) 0x20 []
  | .mram _ => tap s 0x20 []
  | .bbram => tap s 0x20 []

/-- A debug operation that the scope reaches, on a core with power (11 R372). -/
def dbgServe (s : State) (op : DbgOp) : State :=
  match op with
  | .readOther sp a => dbgReadOther s sp a
  | .writeOther sp a v => dbgWriteOther s sp a v
  | .halt core => tap (modCore s core (fun k => { k with dbg := 1 })) 0x20 []
  | .resume core => tap (letRun s core) 0x20 []
  | .step core => tap (modCore s core (fun k => if k.dbg = 0 then k else { k with dbg := 2 })) 0x20 []
  | .readMem core addr => dbgRead s core addr.toNat
  | .writeMem core addr v =>
    (match storeAt s core addr.toNat 4 v.toNat with
    | .ok t => tap t 0x20 []
    | .error _ => tap s 0x20 [])
  | .readReg core r => tap s 0x20 (leBytes 4 (reg (coreOf s core) r).toNat)
  | .writeReg core r v => tap (modCore s core (fun k => writeReg k r v)) 0x20 []

/-- The core that a debug operation names, M0 where it names none, and whether it is to a register. -/
def dbgCore (op : DbgOp) : Nat × Bool :=
  match op with
  | .readOther (.code core) _ => (core, false)
  | .writeOther (.code core) _ _ => (core, false)
  | .readOther _ _ => (64, false)
  | .writeOther _ _ _ => (64, false)
  | .halt core => (core, false)
  | .resume core => (core, false)
  | .step core => (core, false)
  | .readMem core _ => (core, false)
  | .writeMem core _ _ => (core, false)
  | .readReg core _ => (core, true)
  | .writeReg core _ _ => (core, true)

/-- A memory that the module has, at an address within it (01 R26, R30, R31). -/
def spaceOk (sp : DbgSpace) (a : Nat) : Bool :=
  match sp with
  | .code core => coreOk core && decide (a + 4 ≤ codeSize core)
  | .ddr => decide (a + 4 ≤ 2 ^ 33)
  | .mram dev => decide (dev < 2 ∧ a + 4 ≤ 2 ^ 28)
  | .bbram => decide (a + 4 ≤ 4096)

/-- The scope in force reaches what a debug operation names (11 R372). -/
def opReaches (s : State) (op : DbgOp) : Bool :=
  match op with
  | .readOther sp _ => spaceReaches s sp
  | .writeOther sp _ _ => spaceReaches s sp
  | _ => dbgReaches s (dbgCore op).1 (dbgCore op).2

/-- A debug operation on a core and a register that the module has (09 R278, R279). -/
def dbgOpOk (op : DbgOp) : Bool :=
  match op with
  | .readOther sp a => spaceOk sp a
  | .writeOther sp a _ => spaceOk sp a
  | .halt core => coreOk core
  | .resume core => coreOk core
  | .step core => coreOk core
  | .readMem core _ => coreOk core
  | .writeMem core _ _ => coreOk core
  | .readReg core r => coreOk core && regOk r
  | .writeReg core r _ => coreOk core && regOk r

/-- AVB_DBG (11 R372; 17 R468): what the scope does not reach acts as BYPASS; a tile in ECLIPSE reads zero (16 R450). -/
def execAvbDbg (op : DbgOp) (s : State) : Host.Outcome State Fault Refusal :=
  guardUnit (dbgOpOk op) (dbgCore op).1 s
    (if !opReaches s op then tapBypass s
    else if coreAsleep s (dbgCore op).1 then tap s 0x20 (dbgAsleep op)
    else dbgServe s op)

/-- AVB_ATB (17 R468, R469): under FULL any node is selected and read. -/
def execAvbAtb (sel reading : Nat) (s : State) : Host.Outcome State Fault Refusal :=
  done s (if atbFull s then tap (modTest s (fun t => { t with sel := sel })) 0x21 (leBytes 2 reading) else tapBypass s)

end Sys2Proof.Machine
end

