-- ==== Sys2Proof/Machine/Dispatch.lean ====
section
/-!
DEFINITION. One arm per command: exec calls the command's meaning.
-/

namespace Sys2Proof.Machine

open Sys2Proof

def exec (i : Instr) (s : State) : Host.Outcome State Fault Refusal :=
  match i with
  | .powerGoodStart found => Sys2Proof.Machine.execPowerGoodStart found s
  | .mainPowerLoss returned => Sys2Proof.Machine.execMainPowerLoss returned s
  | .perstAssert => Sys2Proof.Machine.execPerstAssert s
  | .pf0FunctionLevelReset => Sys2Proof.Machine.execPf0FunctionLevelReset s
  | .vfFunctionLevelReset vf => Sys2Proof.Machine.execVfFunctionLevelReset vf s
  | .busMasterEnableSet vf => Sys2Proof.Machine.execBusMasterEnableSet vf s
  | .atsInvalidation func page => Sys2Proof.Machine.execAtsInvalidation func page s
  | .hifDbSqTail pg width v => Sys2Proof.Machine.execHifDbSqTail pg width v s
  | .hifDbCqHead pg width v => Sys2Proof.Machine.execHifDbCqHead pg width v s
  | .hifDbIrqCtl pg width v => Sys2Proof.Machine.execHifDbIrqCtl pg width v s
  | .hifQpCtlEn qp v hw => Sys2Proof.Machine.execHifQpCtlEn qp v hw s
  | .cplErrClear qp translated => Sys2Proof.Machine.execCplErrClear qp translated s
  | .rcRegisterRead r hw hw2 => Sys2Proof.Machine.execRcRegisterRead r hw hw2 s
  | .registerWrite a width v hw => Sys2Proof.Machine.execRegisterWrite a width v hw s
  | .suspend via p => Sys2Proof.Machine.execSuspend via p s
  | .resume via p => Sys2Proof.Machine.execResume via p s
  | .drain via p => Sys2Proof.Machine.execDrain via p s
  | .squash via p => Sys2Proof.Machine.execSquash via p s
  | .create path p => Sys2Proof.Machine.execCreate path p s
  | .partRemove path p => Sys2Proof.Machine.execPartRemove path p s
  | .drainDeadlineExpiry q p => Sys2Proof.Machine.execDrainDeadlineExpiry q p s
  | .partDisagree p => Sys2Proof.Machine.execPartDisagree p s
  | .tileDisagree t => Sys2Proof.Machine.execTileDisagree t s
  | .mbxSubmit => Sys2Proof.Machine.execMbxSubmit s
  | .mbxAbort => Sys2Proof.Machine.execMbxAbort s
  | .descriptorFetch qp n => Sys2Proof.Machine.execDescriptorFetch qp n s
  | .descriptorArrival qp r => Sys2Proof.Machine.execDescriptorArrival qp r s
  | .descriptorHome qp asn => Sys2Proof.Machine.execDescriptorHome qp asn s
  | .nonceBlockReserve q p => Sys2Proof.Machine.execNonceBlockReserve q p s
  | .keyCachePinGrant qp asn => Sys2Proof.Machine.execKeyCachePinGrant qp asn s
  | .vaultFill qp asn => Sys2Proof.Machine.execVaultFill qp asn s
  | .vaultGrant qp asn => Sys2Proof.Machine.execVaultGrant qp asn s
  | .stepFire qp asn e => Sys2Proof.Machine.execStepFire qp asn e s
  | .laneStepDone t pair agree => Sys2Proof.Machine.execLaneStepDone t pair agree s
  | .pkeOplistDone t k r => Sys2Proof.Machine.execPkeOplistDone t k r s
  | .hashBlockDone t parityOk => Sys2Proof.Machine.execHashBlockDone t parityOk s
  | .tokenArrival c ticket => Sys2Proof.Machine.execTokenArrival c ticket s
  | .scriptBudgetExceeded c => Sys2Proof.Machine.execScriptBudgetExceeded c s
  | .scriptCoreAssign t => Sys2Proof.Machine.execScriptCoreAssign t s
  | .tenantScriptLoad t qp asn => Sys2Proof.Machine.execTenantScriptLoad t qp asn s
  | .deadlineExpiry qp asn => Sys2Proof.Machine.execDeadlineExpiry qp asn s
  | .retryBackoffExpiry qp asn => Sys2Proof.Machine.execRetryBackoffExpiry qp asn s
  | .bucketRefillExpiry q p => Sys2Proof.Machine.execBucketRefillExpiry q p s
  | .gateDeferralExpiry qp asn => Sys2Proof.Machine.execGateDeferralExpiry qp asn s
  | .rngDeferralTick q => Sys2Proof.Machine.execRngDeferralTick q s
  | .randomServe qp asn => Sys2Proof.Machine.execRandomServe qp asn s
  | .keyCacheEccError t => Sys2Proof.Machine.execKeyCacheEccError t s
  | .watchdogExpiry t => Sys2Proof.Machine.execWatchdogExpiry t s
  | .quarterStateError q => Sys2Proof.Machine.execQuarterStateError q s
  | .hostFabricSilence q => Sys2Proof.Machine.execHostFabricSilence q s
  | .queuePairRehome qp => Sys2Proof.Machine.execQueuePairRehome qp s
  | .tileMatchingParity qp asn core => Sys2Proof.Machine.execTileMatchingParity qp asn core s
  | .reseqRelease qp translated outFail => Sys2Proof.Machine.execReseqRelease qp translated outFail s
  | .coalTimeExpiry qp => Sys2Proof.Machine.execCoalTimeExpiry qp s
  | .flushingReadReturn func pasid => Sys2Proof.Machine.execFlushingReadReturn func pasid s
  | .watermarkBatch => Sys2Proof.Machine.execWatermarkBatch s
  | .commitUnit => Sys2Proof.Machine.execCommitUnit s
  | .journalDeviceFail dev => Sys2Proof.Machine.execJournalDeviceFail dev s
  | .checkpoint page => Sys2Proof.Machine.execCheckpoint page s
  | .keyOpAction path action => Sys2Proof.Machine.execKeyOpAction path action s
  | .modKeyOpAction path action => Sys2Proof.Machine.execModKeyOpAction path action s
  | .keyDestroyFree => Sys2Proof.Machine.execKeyDestroyFree s
  | .svcAcquire c => Sys2Proof.Machine.execSvcAcquire c s
  | .svcRelease c => Sys2Proof.Machine.execSvcRelease c s
  | .svcForce c => Sys2Proof.Machine.execSvcForce c s
  | .svcCancel c => Sys2Proof.Machine.execSvcCancel c s
  | .svcGrant => Sys2Proof.Machine.execSvcGrant s
  | .svcLockTimeout => Sys2Proof.Machine.execSvcLockTimeout s
  | .maskReseed t => Sys2Proof.Machine.execMaskReseed t s
  | .aesEcbEnc qp asn => Sys2Proof.Machine.execAesEcbEnc qp asn s
  | .aesEcbDec qp asn => Sys2Proof.Machine.execAesEcbDec qp asn s
  | .aesCbcEnc qp asn => Sys2Proof.Machine.execAesCbcEnc qp asn s
  | .aesCbcDec qp asn => Sys2Proof.Machine.execAesCbcDec qp asn s
  | .aesCtr qp asn => Sys2Proof.Machine.execAesCtr qp asn s
  | .aesCtrHw qp asn => Sys2Proof.Machine.execAesCtrHw qp asn s
  | .aesGcmEnc qp asn => Sys2Proof.Machine.execAesGcmEnc qp asn s
  | .aesGcmDec qp asn => Sys2Proof.Machine.execAesGcmDec qp asn s
  | .tdesEcbEnc qp asn => Sys2Proof.Machine.execTdesEcbEnc qp asn s
  | .tdesEcbDec qp asn => Sys2Proof.Machine.execTdesEcbDec qp asn s
  | .tdesCbcEnc qp asn => Sys2Proof.Machine.execTdesCbcEnc qp asn s
  | .tdesCbcDec qp asn => Sys2Proof.Machine.execTdesCbcDec qp asn s
  | .pinTranslate qp asn => Sys2Proof.Machine.execPinTranslate qp asn s
  | .pinVerifyOffset qp asn => Sys2Proof.Machine.execPinVerifyOffset qp asn s
  | .pinVerifyPvv qp asn => Sys2Proof.Machine.execPinVerifyPvv qp asn s
  | .pinOffsetGenerate qp asn => Sys2Proof.Machine.execPinOffsetGenerate qp asn s
  | .pvvGenerate qp asn => Sys2Proof.Machine.execPvvGenerate qp asn s
  | .dukptPinTranslate qp asn => Sys2Proof.Machine.execDukptPinTranslate qp asn s
  | .dukptMacGenerate qp asn => Sys2Proof.Machine.execDukptMacGenerate qp asn s
  | .dukptMacVerify qp asn => Sys2Proof.Machine.execDukptMacVerify qp asn s
  | .dukptEncrypt qp asn => Sys2Proof.Machine.execDukptEncrypt qp asn s
  | .dukptDecrypt qp asn => Sys2Proof.Machine.execDukptDecrypt qp asn s
  | .dukptIkExport qp asn => Sys2Proof.Machine.execDukptIkExport qp asn s
  | .macAlg1Gen qp asn => Sys2Proof.Machine.execMacAlg1Gen qp asn s
  | .macAlg1Ver qp asn => Sys2Proof.Machine.execMacAlg1Ver qp asn s
  | .macAlg3Gen qp asn => Sys2Proof.Machine.execMacAlg3Gen qp asn s
  | .macAlg3Ver qp asn => Sys2Proof.Machine.execMacAlg3Ver qp asn s
  | .cmacGen qp asn => Sys2Proof.Machine.execCmacGen qp asn s
  | .cmacVer qp asn => Sys2Proof.Machine.execCmacVer qp asn s
  | .hmacGen qp asn => Sys2Proof.Machine.execHmacGen qp asn s
  | .hmacVer qp asn => Sys2Proof.Machine.execHmacVer qp asn s
  | .arqcVerify qp asn => Sys2Proof.Machine.execArqcVerify qp asn s
  | .smMacGenerate qp asn => Sys2Proof.Machine.execSmMacGenerate qp asn s
  | .smPinChange qp asn => Sys2Proof.Machine.execSmPinChange qp asn s
  | .smDataEncipher qp asn => Sys2Proof.Machine.execSmDataEncipher qp asn s
  | .cvcGenerate qp asn => Sys2Proof.Machine.execCvcGenerate qp asn s
  | .cvcVerify qp asn => Sys2Proof.Machine.execCvcVerify qp asn s
  | .kbImport qp asn => Sys2Proof.Machine.execKbImport qp asn s
  | .kbExport qp asn => Sys2Proof.Machine.execKbExport qp asn s
  | .kbGenerate qp asn => Sys2Proof.Machine.execKbGenerate qp asn s
  | .rklBuild qp asn => Sys2Proof.Machine.execRklBuild qp asn s
  | .rklAccept qp asn => Sys2Proof.Machine.execRklAccept qp asn s
  | .hotpGenerate qp asn => Sys2Proof.Machine.execHotpGenerate qp asn s
  | .hotpVerify qp asn => Sys2Proof.Machine.execHotpVerify qp asn s
  | .totpGenerate qp asn => Sys2Proof.Machine.execTotpGenerate qp asn s
  | .totpVerify qp asn => Sys2Proof.Machine.execTotpVerify qp asn s
  | .lockerTokenIssue qp asn => Sys2Proof.Machine.execLockerTokenIssue qp asn s
  | .lockerTokenVerify qp asn => Sys2Proof.Machine.execLockerTokenVerify qp asn s
  | .rsaSign qp asn => Sys2Proof.Machine.execRsaSign qp asn s
  | .rsaVerify qp asn => Sys2Proof.Machine.execRsaVerify qp asn s
  | .rsaOaepEncrypt qp asn => Sys2Proof.Machine.execRsaOaepEncrypt qp asn s
  | .rsaOaepDecrypt qp asn => Sys2Proof.Machine.execRsaOaepDecrypt qp asn s
  | .ecdsaSign qp asn => Sys2Proof.Machine.execEcdsaSign qp asn s
  | .ecdsaVerify qp asn => Sys2Proof.Machine.execEcdsaVerify qp asn s
  | .ecdhDerive qp asn => Sys2Proof.Machine.execEcdhDerive qp asn s
  | .ed25519Sign qp asn => Sys2Proof.Machine.execEd25519Sign qp asn s
  | .ed25519Verify qp asn => Sys2Proof.Machine.execEd25519Verify qp asn s
  | .pkGenerate qp asn => Sys2Proof.Machine.execPkGenerate qp asn s
  | .pkPublicExport qp asn => Sys2Proof.Machine.execPkPublicExport qp asn s
  | .pkPublicImport qp asn => Sys2Proof.Machine.execPkPublicImport qp asn s
  | .mlkemEncaps qp asn => Sys2Proof.Machine.execMlkemEncaps qp asn s
  | .mlkemDecaps qp asn => Sys2Proof.Machine.execMlkemDecaps qp asn s
  | .mldsaSign qp asn => Sys2Proof.Machine.execMldsaSign qp asn s
  | .mldsaVerify qp asn => Sys2Proof.Machine.execMldsaVerify qp asn s
  | .slhdsaVerify qp asn => Sys2Proof.Machine.execSlhdsaVerify qp asn s
  | .pqGenerate qp asn => Sys2Proof.Machine.execPqGenerate qp asn s
  | .pqPublicExport qp asn => Sys2Proof.Machine.execPqPublicExport qp asn s
  | .pqPublicImport qp asn => Sys2Proof.Machine.execPqPublicImport qp asn s
  | .sha256 qp asn => Sys2Proof.Machine.execSha256 qp asn s
  | .sha384 qp asn => Sys2Proof.Machine.execSha384 qp asn s
  | .sha512 qp asn => Sys2Proof.Machine.execSha512 qp asn s
  | .sha3_256 qp asn => Sys2Proof.Machine.execSha3_256 qp asn s
  | .sha3_384 qp asn => Sys2Proof.Machine.execSha3_384 qp asn s
  | .sha3_512 qp asn => Sys2Proof.Machine.execSha3_512 qp asn s
  | .shake128 qp asn => Sys2Proof.Machine.execShake128 qp asn s
  | .shake256 qp asn => Sys2Proof.Machine.execShake256 qp asn s
  | .random qp asn => Sys2Proof.Machine.execRandom qp asn s
  | .tenantScriptInvoke qp asn => Sys2Proof.Machine.execTenantScriptInvoke qp asn s
  | .attestModule qp asn => Sys2Proof.Machine.execAttestModule qp asn s
  | .attestPartition qp asn => Sys2Proof.Machine.execAttestPartition qp asn s
  | .partInfo qp asn => Sys2Proof.Machine.execPartInfo qp asn s
  | .keyInfo qp asn => Sys2Proof.Machine.execKeyInfo qp asn s
  | .tryCounterCreate qp asn => Sys2Proof.Machine.execTryCounterCreate qp asn s
  | .tryCounterReset qp asn => Sys2Proof.Machine.execTryCounterReset qp asn s
  | .tryCounterRead qp asn => Sys2Proof.Machine.execTryCounterRead qp asn s
  | .nop c f => Sys2Proof.Machine.execNop c f s
  | .add c f => Sys2Proof.Machine.execAdd c f s
  | .adc c rd ra rb => Sys2Proof.Machine.execAdc c rd ra rb s
  | .sub c f => Sys2Proof.Machine.execSub c f s
  | .sbc c rd ra rb => Sys2Proof.Machine.execSbc c rd ra rb s
  | .and c f => Sys2Proof.Machine.execAnd c f s
  | .or c f => Sys2Proof.Machine.execOr c f s
  | .xor c f => Sys2Proof.Machine.execXor c f s
  | .andn c rd ra rb => Sys2Proof.Machine.execAndn c rd ra rb s
  | .shl c rd ra rb => Sys2Proof.Machine.execShl c rd ra rb s
  | .shr c rd ra rb => Sys2Proof.Machine.execShr c rd ra rb s
  | .sar c rd ra rb => Sys2Proof.Machine.execSar c rd ra rb s
  | .ror c rd ra rb => Sys2Proof.Machine.execRor c rd ra rb s
  | .rol c rd ra rb => Sys2Proof.Machine.execRol c rd ra rb s
  | .mul c rd ra rb => Sys2Proof.Machine.execMul c rd ra rb s
  | .mulhu c rd ra rb => Sys2Proof.Machine.execMulhu c rd ra rb s
  | .mulhs c rd ra rb => Sys2Proof.Machine.execMulhs c rd ra rb s
  | .divu c rd ra rb => Sys2Proof.Machine.execDivu c rd ra rb s
  | .divs c rd ra rb => Sys2Proof.Machine.execDivs c rd ra rb s
  | .remu c rd ra rb => Sys2Proof.Machine.execRemu c rd ra rb s
  | .rems c rd ra rb => Sys2Proof.Machine.execRems c rd ra rb s
  | .cmp c f => Sys2Proof.Machine.execCmp c f s
  | .tst c f => Sys2Proof.Machine.execTst c f s
  | .sel c rd ra rb => Sys2Proof.Machine.execSel c rd ra rb s
  | .crcw c rd ra => Sys2Proof.Machine.execCrcw c rd ra s
  | .addi c f => Sys2Proof.Machine.execAddi c f s
  | .andi c rd ra imm => Sys2Proof.Machine.execAndi c rd ra imm s
  | .ori c rd ra imm => Sys2Proof.Machine.execOri c rd ra imm s
  | .xori c rd ra imm => Sys2Proof.Machine.execXori c rd ra imm s
  | .shli c f => Sys2Proof.Machine.execShli c f s
  | .shri c f => Sys2Proof.Machine.execShri c f s
  | .sari c f => Sys2Proof.Machine.execSari c f s
  | .rori c f => Sys2Proof.Machine.execRori c f s
  | .cmpi c ra imm => Sys2Proof.Machine.execCmpi c ra imm s
  | .movi c f => Sys2Proof.Machine.execMovi c f s
  | .movhi c rd imm => Sys2Proof.Machine.execMovhi c rd imm s
  | .ldw c f => Sys2Proof.Machine.execLdw c f s
  | .ldh c rd ra imm => Sys2Proof.Machine.execLdh c rd ra imm s
  | .ldhs c rd ra imm => Sys2Proof.Machine.execLdhs c rd ra imm s
  | .ldb c f => Sys2Proof.Machine.execLdb c f s
  | .ldbs c rd ra imm => Sys2Proof.Machine.execLdbs c rd ra imm s
  | .stw c f => Sys2Proof.Machine.execStw c f s
  | .sth c rd ra imm => Sys2Proof.Machine.execSth c rd ra imm s
  | .stb c f => Sys2Proof.Machine.execStb c f s
  | .b c cond disp => Sys2Proof.Machine.execB c cond disp s
  | .call c disp => Sys2Proof.Machine.execCall c disp s
  | .callr c ra => Sys2Proof.Machine.execCallr c ra s
  | .jmpr c ra => Sys2Proof.Machine.execJmpr c ra s
  | .ret c => Sys2Proof.Machine.execRet c s
  | .iret c => Sys2Proof.Machine.execIret c s
  | .wfi c => Sys2Proof.Machine.execWfi c s
  | .mfc c rd cr => Sys2Proof.Machine.execMfc c rd cr s
  | .mtc c cr ra => Sys2Proof.Machine.execMtc c cr ra s
  | .kop c rd ra rb func => Sys2Proof.Machine.execKop c rd ra rb func s
  | .waitt c rd ra => Sys2Proof.Machine.execWaitt c rd ra s
  | .rdt c rd ra rb => Sys2Proof.Machine.execRdt c rd ra rb s
  | .rnd c rd => Sys2Proof.Machine.execRnd c rd s
  | .endOp c ra => Sys2Proof.Machine.execEndOp c ra s
  | .abort c imm => Sys2Proof.Machine.execAbort c imm s
  | .mov c f => Sys2Proof.Machine.execMov c f s
  | .not c f => Sys2Proof.Machine.execNot c f s
  | .neg c f => Sys2Proof.Machine.execNeg c f s
  | .push c f => Sys2Proof.Machine.execPush c f s
  | .pop c f => Sys2Proof.Machine.execPop c f s
  | .par c f => Sys2Proof.Machine.execPar c f s
  | .parb c f => Sys2Proof.Machine.execParb c f s
  | .brev c f => Sys2Proof.Machine.execBrev c f s
  | .brevb c f => Sys2Proof.Machine.execBrevb c f s
  | .bswap c f => Sys2Proof.Machine.execBswap c f s
  | .luhn c f => Sys2Proof.Machine.execLuhn c f s
  | .dect c f => Sys2Proof.Machine.execDect c f s
  | .crcb c f => Sys2Proof.Machine.execCrcb c f s
  | .kopEncBlock c ticket => Sys2Proof.Machine.execKopEncBlock c ticket s
  | .kopDecBlock c ticket => Sys2Proof.Machine.execKopDecBlock c ticket s
  | .kopCmacGen c ticket => Sys2Proof.Machine.execKopCmacGen c ticket s
  | .kopCmacVer c ticket => Sys2Proof.Machine.execKopCmacVer c ticket s
  | .kopHmacGen c ticket => Sys2Proof.Machine.execKopHmacGen c ticket s
  | .kopHmacVer c ticket => Sys2Proof.Machine.execKopHmacVer c ticket s
  | .pinOpen c ticket => Sys2Proof.Machine.execPinOpen c ticket s
  | .pinSeal c ticket => Sys2Proof.Machine.execPinSeal c ticket s
  | .kdfCmac c ticket => Sys2Proof.Machine.execKdfCmac c ticket s
  | .kbOpen c ticket => Sys2Proof.Machine.execKbOpen c ticket s
  | .kopHash c ticket => Sys2Proof.Machine.execKopHash c ticket s
  | .pkeRun c ticket => Sys2Proof.Machine.execPkeRun c ticket s
  | .inRead c ticket => Sys2Proof.Machine.execInRead c ticket s
  | .evuEvent u src level => Sys2Proof.Machine.execEvuEvent u src level s
  | .evuPendSet c k v => Sys2Proof.Machine.execEvuPendSet c k v s
  | .fmpHello node role scope index body => Sys2Proof.Machine.execFmpHello node role scope index body s
  | .fmpFinish node sigEc sigPq => Sys2Proof.Machine.execFmpFinish node sigEc sigPq s
  | .fmpAck node xfer next status => Sys2Proof.Machine.execFmpAck node xfer next status s
  | .fmpAckTimeout node => Sys2Proof.Machine.execFmpAckTimeout node s
  | .fmpPartialTimeout node segs => Sys2Proof.Machine.execFmpPartialTimeout node segs s
  | .fmpHeartbeat => Sys2Proof.Machine.execFmpHeartbeat s
  | .fmpBusOff tec rec => Sys2Proof.Machine.execFmpBusOff tec rec s
  | .fmpDupNode => Sys2Proof.Machine.execFmpDupNode s
  | .fmpHandshakeTimeout node => Sys2Proof.Machine.execFmpHandshakeTimeout node s
  | .fmpLockoutEnd node => Sys2Proof.Machine.execFmpLockoutEnd node s
  | .fmpIdleExpiry sid => Sys2Proof.Machine.execFmpIdleExpiry sid s
  | .fmpPortRestart path v => Sys2Proof.Machine.execFmpPortRestart path v s
  | .read path index sub first offset => Sys2Proof.Machine.execRead path index sub first offset s
  | .write path index sub pc => Sys2Proof.Machine.execWrite path index sub pc s
  | .info path index sub => Sys2Proof.Machine.execInfo path index sub s
  | .cancel path => Sys2Proof.Machine.execCancel path s
  | .close path => Sys2Proof.Machine.execClose path s
  | .segmentTimeout path => Sys2Proof.Machine.execSegmentTimeout path s
  | .qrmApprove path reqNo index sigEc sigPq => Sys2Proof.Machine.execQrmApprove path reqNo index sigEc sigPq s
  | .qrqWithdraw path slot => Sys2Proof.Machine.execQrqWithdraw path slot s
  | .quorumExpiry slot => Sys2Proof.Machine.execQuorumExpiry slot s
  | .cerOpen path value => Sys2Proof.Machine.execCerOpen path value s
  | .cerComponent path value => Sys2Proof.Machine.execCerComponent path value s
  | .cerConfirm path kcv => Sys2Proof.Machine.execCerConfirm path kcv s
  | .cerAbort path => Sys2Proof.Machine.execCerAbort path s
  | .cerTimeout => Sys2Proof.Machine.execCerTimeout s
  | .scriptImage path p slot image => Sys2Proof.Machine.execScriptImage path p slot image s
  | .scriptRemove path p slot => Sys2Proof.Machine.execScriptRemove path p slot s
  | .fwUpdStart path total => Sys2Proof.Machine.execFwUpdStart path total s
  | .fwUpdData path data => Sys2Proof.Machine.execFwUpdData path data s
  | .fwUpdActivate path => Sys2Proof.Machine.execFwUpdActivate path s
  | .fwReadyTimeout => Sys2Proof.Machine.execFwReadyTimeout s
  | .fwSecverRaise => Sys2Proof.Machine.execFwSecverRaise s
  | .lcTarget path k => Sys2Proof.Machine.execLcTarget path k s
  | .lcTransition => Sys2Proof.Machine.execLcTransition s
  | .dbgRequest path scope => Sys2Proof.Machine.execDbgRequest path scope s
  | .dbgResponse path value => Sys2Proof.Machine.execDbgResponse path value s
  | .dbgClose path => Sys2Proof.Machine.execDbgClose path s
  | .dbgChallengeExpiry => Sys2Proof.Machine.execDbgChallengeExpiry s
  | .attStatement path => Sys2Proof.Machine.execAttStatement path s
  | .tamperSample src a b => Sys2Proof.Machine.execTamperSample src a b s
  | .nightsideBurst rs => Sys2Proof.Machine.execNightsideBurst rs s
  | .backupUndervoltage mv => Sys2Proof.Machine.execBackupUndervoltage mv s
  | .shadowMismatch g => Sys2Proof.Machine.execShadowMismatch g s
  | .tmpHaltRelease path => Sys2Proof.Machine.execTmpHaltRelease path s
  | .rngHealthFail sampler apt => Sys2Proof.Machine.execRngHealthFail sampler apt s
  | .conditionerBlock => Sys2Proof.Machine.execConditionerBlock s
  | .rngStartupTestDone r => Sys2Proof.Machine.execRngStartupTestDone r s
  | .drbgReseed n => Sys2Proof.Machine.execDrbgReseed n s
  | .rngReseedStall n => Sys2Proof.Machine.execRngReseedStall n s
  | .rngRestart path => Sys2Proof.Machine.execRngRestart path s
  | .rngRawMode path on => Sys2Proof.Machine.execRngRawMode path on s
  | .rngRawData path => Sys2Proof.Machine.execRngRawData path s
  | .evrFlush => Sys2Proof.Machine.execEvrFlush s
  | .evrCarrier code => Sys2Proof.Machine.execEvrCarrier code s
  | .evrAnchor => Sys2Proof.Machine.execEvrAnchor s
  | .evrWallClock path ms => Sys2Proof.Machine.execEvrWallClock path ms s
  | .evrRecords path => Sys2Proof.Machine.execEvrRecords path s
  | .recorderMemFail dev => Sys2Proof.Machine.execRecorderMemFail dev s
  | .opTimeSave => Sys2Proof.Machine.execOpTimeSave s
  | .gateCompute mv => Sys2Proof.Machine.execGateCompute mv s
  | .capacitanceMeasure charge rise clean => Sys2Proof.Machine.execCapacitanceMeasure charge rise clean s
  | .esrPulse stepUv => Sys2Proof.Machine.execEsrPulse stepUv s
  | .powerCapCheck dw => Sys2Proof.Machine.execPowerCapCheck dw s
  | .thermalPredict diodes dw => Sys2Proof.Machine.execThermalPredict diodes dw s
  | .clockStep t pke => Sys2Proof.Machine.execClockStep t pke s
  | .wearMeasure t slack ro => Sys2Proof.Machine.execWearMeasure t slack ro s
  | .wearPlan => Sys2Proof.Machine.execWearPlan s
  | .wearPlanNow path => Sys2Proof.Machine.execWearPlanNow path s
  | .backupLoadTest rest load => Sys2Proof.Machine.execBackupLoadTest rest load s
  | .batReplaced path => Sys2Proof.Machine.execBatReplaced path s
  | .tilePower path t v => Sys2Proof.Machine.execTilePower path t v s
  | .eclipseDecision t wake => Sys2Proof.Machine.execEclipseDecision t wake s
  | .tileWake t src => Sys2Proof.Machine.execTileWake t src s
  | .tileEnable path t v => Sys2Proof.Machine.execTileEnable path t v s
  | .tileReset path t => Sys2Proof.Machine.execTileReset path t s
  | .atbRaw path reading => Sys2Proof.Machine.execAtbRaw path reading s
  | .measureDrift top bot => Sys2Proof.Machine.execMeasureDrift top bot s
  | .bypass => Sys2Proof.Machine.execBypass s
  | .idcode => Sys2Proof.Machine.execIdcode s
  | .samplePreload cells => Sys2Proof.Machine.execSamplePreload cells s
  | .extest cells => Sys2Proof.Machine.execExtest cells s
  | .avbDbg op => Sys2Proof.Machine.execAvbDbg op s
  | .avbAtb sel reading => Sys2Proof.Machine.execAvbAtb sel reading s
  | .perstDeassert speed width => Sys2Proof.Machine.execPerstDeassert speed width s
  | .linkRetraining speed width => Sys2Proof.Machine.execLinkRetraining speed width s
  | .adminFollowsOper p => Sys2Proof.Machine.execAdminFollowsOper p s
  | .svcOperationDone agree slot => Sys2Proof.Machine.execSvcOperationDone agree slot s
  | .rngEstimatePublish sampler e => Sys2Proof.Machine.execRngEstimatePublish sampler e s
  | .inputReadReturn qp asn r => Sys2Proof.Machine.execInputReadReturn qp asn r s

end Sys2Proof.Machine
end

