-- ==== Sys2Proof/Machine/Tick.lean ====
section
/-!
DEFINITION. What one microsecond does when no command waits (log 1).
-/

namespace Sys2Proof.Machine

open Sys2Proof

/-- One microsecond passes with no command waiting: key operations that wait go on (07 R240, R241, R243), and requests whose tick has
come are applied (10 R341, R345). -/
def tick (s : State) : State := applyAllDue (pumpKeyOps (elapse s 1))

end Sys2Proof.Machine
end

