-- ==== Sys2Proof/WellFormed.lean ====
section
/-!
DEFINITION. Which commands are well formed: every unit they name is one of the module's and every field fits its width (00 R8;
02 R39, R42; 08 R244; 10 R323, R331). A meaning does not rest on it: it checks for itself what its rule needs.
-/

namespace Sys2Proof

/-- What is wrong with a command. -/
inductive IllFormed where
  /-- A queue pair number of 16,384 or more (08 R244). -/
  | queuePair
  /-- An ASN of more than 48 bits (02 R42). -/
  | asn
  /-- A partition number of 4,096 or more (00 R8). -/
  | partition
  /-- A tile number of 16 or more (00 R8). -/
  | tile
  /-- A quarter number of 4 or more (00 R8). -/
  | quarter
  /-- A core number the module does not have (09 R278). -/
  | core
  /-- One of the two devices of a mirrored memory, and no other (04 R112; 14 R423). -/
  | device
  /-- A node outside 1 to 127 (10 R320). -/
  | node
  /-- A PCIe function outside PF0 and VF 1 to 255 (02 R34). -/
  | function
  /-- A SID outside 1 to 32 (10 R323). -/
  | session
  /-- An event vector unit other than those of the tiles and the module's (09 R307). -/
  | unit
  /-- An event or tamper source number out of range (09 R308; 12 R378). -/
  | source
  /-- A noise sampler number of 8 or more (13 R396). -/
  | sampler
  /-- A DRBG number of 5 or more (13 R398). -/
  | drbg
  /-- A request or script slot out of range (08 R266; 10 R339). -/
  | slot
  /-- A dictionary index of more than 16 bits (10 R327). -/
  | index
  /-- A dictionary sub of more than 8 bits (10 R327). -/
  | sub
  /-- A page number out of range (02 R37, R39; 07 R230). -/
  | page
  /-- A twin pair other than 0 and 1 (03 R83). -/
  | pair
  /-- A field of one byte that does not fit. -/
  | byte
  /-- A field of 16 or 32 bits that does not fit. -/
  | word
  /-- An offset outside a register window (02 R39). -/
  | offset
  /-- A life-cycle register other than the three (11 R366), or a core register of no number (09 R279). -/
  | register
  /-- A register write of other than 4 or 8 bytes, or a read of more than 4,096 (02 R33, R40). -/
  | width
  /-- A segment number of 64 or more (10 R321). -/
  | segment
  /-- A value of the wrong length. -/
  | length
  /-- A time of more than 48 bits (10 R328). -/
  | time
  deriving DecidableEq, Repr

namespace WellFormed

/-- n is below the bound. -/
def lt (n bound : Nat) (e : IllFormed) : List IllFormed := if n < bound then [] else [e]
/-- n lies from lo to hi. -/
def within (n lo hi : Nat) (e : IllFormed) : List IllFormed := if lo ≤ n ∧ n ≤ hi then [] else [e]
/-- n is at most the bound. -/
def upTo (n bound : Nat) (e : IllFormed) : List IllFormed := if n ≤ bound then [] else [e]
/-- n is the number wanted. -/
def exactly (n m : Nat) (e : IllFormed) : List IllFormed := if n = m then [] else [e]
/-- A register access of 4 or 8 bytes. -/
def width4or8 (n : Nat) : List IllFormed := if n = 4 ∨ n = 8 then [] else [.width]

/-- A path names a SID. -/
def onPath (path : Path) : List IllFormed :=
  match path with
  | .tunnel => []
  | .session sid => within sid 1 32 .session

/-- Either way of a partition command. -/
def onVia (via : Via) : List IllFormed :=
  match via with
  | .pcmd ms => lt ms 65536 .word
  | .dict path => onPath path

/-- A doorbell page (02 R39). -/
def onPage (pg : DbPage) : List IllFormed :=
  match pg with
  | .pf0 q => lt q 16384 .page
  | .vf n j => within n 1 255 .function ++ lt j 64 .page

/-- The address of a register (02 R39). -/
def onRegister (a : RegAddr) : List IllFormed :=
  match a with
  | .bar0 pg off => onPage pg ++ lt off 4096 .offset
  | .bar2 off => lt off (2 ^ 20) .offset
  | .bar4 func off => lt func 256 .function ++ lt off (if func = 0 then 65536 else 16384) .offset
  | .config func _ => lt func 256 .function

/-- What a register read names (00 R11; 02 R40). -/
def onRc (r : RcReg) : List IllFormed :=
  match r with
  | .host a width => onRegister a ++ upTo width 4096 .width
  | .svcLock core => lt core 4 .core
  | .tilePairSts t => lt t 16 .tile
  | .pkeCoreSts t k => lt t 16 .tile ++ lt k 2 .core

/-- A group with a shadow (12 R388). -/
def onGroup (g : ShadowGroup) : List IllFormed :=
  match g with
  | .config src _ => lt src 9 .source
  | .response src => lt src 11 .source
  | .latch => []
  | .restore => []
  | .lifeCycle reg _ _ => lt reg 3 .register
  | .bounds unit p => lt unit 20 .tile ++ lt p 4096 .partition
  | .keyTag t _ => lt t 16 .tile

/-- A memory that the debugger addresses (01 R30; 09 R278). -/
def onSpace (sp : DbgSpace) : List IllFormed :=
  match sp with
  | .code core => lt core 68 .core
  | .ddr => []
  | .mram dev => lt dev 2 .device
  | .bbram => []

/-- A debug operation names a core and a register of it (09 R278, R279). -/
def onDebug (op : DbgOp) : List IllFormed :=
  match op with
  | .readOther sp _ => onSpace sp
  | .writeOther sp _ _ => onSpace sp
  | .halt core => lt core 68 .core
  | .resume core => lt core 68 .core
  | .step core => lt core 68 .core
  | .readMem core _ => lt core 68 .core
  | .writeMem core _ _ => lt core 68 .core
  | .readReg core r => lt core 68 .core ++ lt r 25 .register
  | .writeReg core r _ => lt core 68 .core ++ lt r 25 .register

/-- How a start-up test ends (13 R402). -/
def onStartup (r : StartupResult) : List IllFormed :=
  match r with
  | .passed => []
  | .failed sampler _ => lt sampler 8 .sampler


/-- What is wrong with a command, in the order of its operands. -/
def problems (i : Instr) : List IllFormed :=
  match i with
  | .powerGoodStart _ => []
  | .mainPowerLoss _ => []
  | .perstAssert => []
  | .pf0FunctionLevelReset => []
  | .vfFunctionLevelReset vf => within vf 1 255 .function
  | .busMasterEnableSet vf => within vf 1 255 .function
  | .atsInvalidation func page => lt func 256 .function ++ lt page (2 ^ 52) .page
  | .hifDbSqTail pg width _ => onPage pg ++ width4or8 width
  | .hifDbCqHead pg width _ => onPage pg ++ width4or8 width
  | .hifDbIrqCtl pg width _ => onPage pg ++ width4or8 width
  | .hifQpCtlEn qp _ hw => lt qp 16384 .queuePair ++ lt hw 65536 .word
  | .cplErrClear qp _ => lt qp 16384 .queuePair
  | .rcRegisterRead r hw hw2 => onRc r ++ lt hw 65536 .word ++ lt hw2 65536 .word
  | .registerWrite a width _ hw => onRegister a ++ width4or8 width ++ lt hw 65536 .word
  | .suspend via p => onVia via ++ lt p 4096 .partition
  | .resume via p => onVia via ++ lt p 4096 .partition
  | .drain via p => onVia via ++ lt p 4096 .partition
  | .squash via p => onVia via ++ lt p 4096 .partition
  | .create path p => onPath path ++ lt p 4096 .partition
  | .partRemove path p => onPath path ++ lt p 4096 .partition
  | .drainDeadlineExpiry q p => lt q 4 .quarter ++ lt p 4096 .partition
  | .partDisagree p => lt p 4096 .partition
  | .tileDisagree t => lt t 16 .tile
  | .mbxSubmit => []
  | .mbxAbort => []
  | .descriptorFetch qp _ => lt qp 16384 .queuePair
  | .descriptorArrival qp _ => lt qp 16384 .queuePair
  | .descriptorHome qp asn => lt qp 16384 .queuePair ++ lt asn (2 ^ 48) .asn
  | .nonceBlockReserve q p => lt q 4 .quarter ++ lt p 4096 .partition
  | .keyCachePinGrant qp asn => lt qp 16384 .queuePair ++ lt asn (2 ^ 48) .asn
  | .vaultFill qp asn => lt qp 16384 .queuePair ++ lt asn (2 ^ 48) .asn
  | .vaultGrant qp asn => lt qp 16384 .queuePair ++ lt asn (2 ^ 48) .asn
  | .stepFire qp asn _ => lt qp 16384 .queuePair ++ lt asn (2 ^ 48) .asn
  | .laneStepDone t pair _ => lt t 16 .tile ++ lt pair 2 .pair
  | .pkeOplistDone t k _ => lt t 16 .tile ++ lt k 2 .core
  | .hashBlockDone t _ => lt t 16 .tile
  | .tokenArrival c _ => lt c 64 .core
  | .scriptBudgetExceeded c => lt c 64 .core
  | .scriptCoreAssign t => lt t 16 .tile
  | .tenantScriptLoad t qp asn => lt t 16 .tile ++ lt qp 16384 .queuePair ++ lt asn (2 ^ 48) .asn
  | .deadlineExpiry qp asn => lt qp 16384 .queuePair ++ lt asn (2 ^ 48) .asn
  | .retryBackoffExpiry qp asn => lt qp 16384 .queuePair ++ lt asn (2 ^ 48) .asn
  | .bucketRefillExpiry q p => lt q 4 .quarter ++ lt p 4096 .partition
  | .gateDeferralExpiry qp asn => lt qp 16384 .queuePair ++ lt asn (2 ^ 48) .asn
  | .rngDeferralTick q => lt q 4 .quarter
  | .randomServe qp asn => lt qp 16384 .queuePair ++ lt asn (2 ^ 48) .asn
  | .keyCacheEccError t => lt t 16 .tile
  | .watchdogExpiry t => lt t 16 .tile
  | .quarterStateError q => lt q 4 .quarter
  | .hostFabricSilence q => lt q 4 .quarter
  | .queuePairRehome qp => lt qp 16384 .queuePair
  | .tileMatchingParity qp asn _ => lt qp 16384 .queuePair ++ lt asn (2 ^ 48) .asn
  | .reseqRelease qp _ _ => lt qp 16384 .queuePair
  | .coalTimeExpiry qp => lt qp 16384 .queuePair
  | .flushingReadReturn func _ => lt func 256 .function
  | .watermarkBatch => []
  | .commitUnit => []
  | .journalDeviceFail dev => lt dev 2 .device
  | .checkpoint page => lt page 65536 .page
  | .keyOpAction path action => onPath path ++ lt action 256 .byte
  | .modKeyOpAction path action => onPath path ++ lt action 256 .byte
  | .keyDestroyFree => []
  | .svcAcquire c => lt c 4 .core
  | .svcRelease c => lt c 4 .core
  | .svcForce c => lt c 4 .core
  | .svcCancel c => lt c 4 .core
  | .svcGrant => []
  | .svcLockTimeout => []
  | .maskReseed t => lt t 16 .tile
  | .aesEcbEnc qp asn => lt qp 16384 .queuePair ++ lt asn (2 ^ 48) .asn
  | .aesEcbDec qp asn => lt qp 16384 .queuePair ++ lt asn (2 ^ 48) .asn
  | .aesCbcEnc qp asn => lt qp 16384 .queuePair ++ lt asn (2 ^ 48) .asn
  | .aesCbcDec qp asn => lt qp 16384 .queuePair ++ lt asn (2 ^ 48) .asn
  | .aesCtr qp asn => lt qp 16384 .queuePair ++ lt asn (2 ^ 48) .asn
  | .aesCtrHw qp asn => lt qp 16384 .queuePair ++ lt asn (2 ^ 48) .asn
  | .aesGcmEnc qp asn => lt qp 16384 .queuePair ++ lt asn (2 ^ 48) .asn
  | .aesGcmDec qp asn => lt qp 16384 .queuePair ++ lt asn (2 ^ 48) .asn
  | .tdesEcbEnc qp asn => lt qp 16384 .queuePair ++ lt asn (2 ^ 48) .asn
  | .tdesEcbDec qp asn => lt qp 16384 .queuePair ++ lt asn (2 ^ 48) .asn
  | .tdesCbcEnc qp asn => lt qp 16384 .queuePair ++ lt asn (2 ^ 48) .asn
  | .tdesCbcDec qp asn => lt qp 16384 .queuePair ++ lt asn (2 ^ 48) .asn
  | .pinTranslate qp asn => lt qp 16384 .queuePair ++ lt asn (2 ^ 48) .asn
  | .pinVerifyOffset qp asn => lt qp 16384 .queuePair ++ lt asn (2 ^ 48) .asn
  | .pinVerifyPvv qp asn => lt qp 16384 .queuePair ++ lt asn (2 ^ 48) .asn
  | .pinOffsetGenerate qp asn => lt qp 16384 .queuePair ++ lt asn (2 ^ 48) .asn
  | .pvvGenerate qp asn => lt qp 16384 .queuePair ++ lt asn (2 ^ 48) .asn
  | .dukptPinTranslate qp asn => lt qp 16384 .queuePair ++ lt asn (2 ^ 48) .asn
  | .dukptMacGenerate qp asn => lt qp 16384 .queuePair ++ lt asn (2 ^ 48) .asn
  | .dukptMacVerify qp asn => lt qp 16384 .queuePair ++ lt asn (2 ^ 48) .asn
  | .dukptEncrypt qp asn => lt qp 16384 .queuePair ++ lt asn (2 ^ 48) .asn
  | .dukptDecrypt qp asn => lt qp 16384 .queuePair ++ lt asn (2 ^ 48) .asn
  | .dukptIkExport qp asn => lt qp 16384 .queuePair ++ lt asn (2 ^ 48) .asn
  | .macAlg1Gen qp asn => lt qp 16384 .queuePair ++ lt asn (2 ^ 48) .asn
  | .macAlg1Ver qp asn => lt qp 16384 .queuePair ++ lt asn (2 ^ 48) .asn
  | .macAlg3Gen qp asn => lt qp 16384 .queuePair ++ lt asn (2 ^ 48) .asn
  | .macAlg3Ver qp asn => lt qp 16384 .queuePair ++ lt asn (2 ^ 48) .asn
  | .cmacGen qp asn => lt qp 16384 .queuePair ++ lt asn (2 ^ 48) .asn
  | .cmacVer qp asn => lt qp 16384 .queuePair ++ lt asn (2 ^ 48) .asn
  | .hmacGen qp asn => lt qp 16384 .queuePair ++ lt asn (2 ^ 48) .asn
  | .hmacVer qp asn => lt qp 16384 .queuePair ++ lt asn (2 ^ 48) .asn
  | .arqcVerify qp asn => lt qp 16384 .queuePair ++ lt asn (2 ^ 48) .asn
  | .smMacGenerate qp asn => lt qp 16384 .queuePair ++ lt asn (2 ^ 48) .asn
  | .smPinChange qp asn => lt qp 16384 .queuePair ++ lt asn (2 ^ 48) .asn
  | .smDataEncipher qp asn => lt qp 16384 .queuePair ++ lt asn (2 ^ 48) .asn
  | .cvcGenerate qp asn => lt qp 16384 .queuePair ++ lt asn (2 ^ 48) .asn
  | .cvcVerify qp asn => lt qp 16384 .queuePair ++ lt asn (2 ^ 48) .asn
  | .kbImport qp asn => lt qp 16384 .queuePair ++ lt asn (2 ^ 48) .asn
  | .kbExport qp asn => lt qp 16384 .queuePair ++ lt asn (2 ^ 48) .asn
  | .kbGenerate qp asn => lt qp 16384 .queuePair ++ lt asn (2 ^ 48) .asn
  | .rklBuild qp asn => lt qp 16384 .queuePair ++ lt asn (2 ^ 48) .asn
  | .rklAccept qp asn => lt qp 16384 .queuePair ++ lt asn (2 ^ 48) .asn
  | .hotpGenerate qp asn => lt qp 16384 .queuePair ++ lt asn (2 ^ 48) .asn
  | .hotpVerify qp asn => lt qp 16384 .queuePair ++ lt asn (2 ^ 48) .asn
  | .totpGenerate qp asn => lt qp 16384 .queuePair ++ lt asn (2 ^ 48) .asn
  | .totpVerify qp asn => lt qp 16384 .queuePair ++ lt asn (2 ^ 48) .asn
  | .lockerTokenIssue qp asn => lt qp 16384 .queuePair ++ lt asn (2 ^ 48) .asn
  | .lockerTokenVerify qp asn => lt qp 16384 .queuePair ++ lt asn (2 ^ 48) .asn
  | .rsaSign qp asn => lt qp 16384 .queuePair ++ lt asn (2 ^ 48) .asn
  | .rsaVerify qp asn => lt qp 16384 .queuePair ++ lt asn (2 ^ 48) .asn
  | .rsaOaepEncrypt qp asn => lt qp 16384 .queuePair ++ lt asn (2 ^ 48) .asn
  | .rsaOaepDecrypt qp asn => lt qp 16384 .queuePair ++ lt asn (2 ^ 48) .asn
  | .ecdsaSign qp asn => lt qp 16384 .queuePair ++ lt asn (2 ^ 48) .asn
  | .ecdsaVerify qp asn => lt qp 16384 .queuePair ++ lt asn (2 ^ 48) .asn
  | .ecdhDerive qp asn => lt qp 16384 .queuePair ++ lt asn (2 ^ 48) .asn
  | .ed25519Sign qp asn => lt qp 16384 .queuePair ++ lt asn (2 ^ 48) .asn
  | .ed25519Verify qp asn => lt qp 16384 .queuePair ++ lt asn (2 ^ 48) .asn
  | .pkGenerate qp asn => lt qp 16384 .queuePair ++ lt asn (2 ^ 48) .asn
  | .pkPublicExport qp asn => lt qp 16384 .queuePair ++ lt asn (2 ^ 48) .asn
  | .pkPublicImport qp asn => lt qp 16384 .queuePair ++ lt asn (2 ^ 48) .asn
  | .mlkemEncaps qp asn => lt qp 16384 .queuePair ++ lt asn (2 ^ 48) .asn
  | .mlkemDecaps qp asn => lt qp 16384 .queuePair ++ lt asn (2 ^ 48) .asn
  | .mldsaSign qp asn => lt qp 16384 .queuePair ++ lt asn (2 ^ 48) .asn
  | .mldsaVerify qp asn => lt qp 16384 .queuePair ++ lt asn (2 ^ 48) .asn
  | .slhdsaVerify qp asn => lt qp 16384 .queuePair ++ lt asn (2 ^ 48) .asn
  | .pqGenerate qp asn => lt qp 16384 .queuePair ++ lt asn (2 ^ 48) .asn
  | .pqPublicExport qp asn => lt qp 16384 .queuePair ++ lt asn (2 ^ 48) .asn
  | .pqPublicImport qp asn => lt qp 16384 .queuePair ++ lt asn (2 ^ 48) .asn
  | .sha256 qp asn => lt qp 16384 .queuePair ++ lt asn (2 ^ 48) .asn
  | .sha384 qp asn => lt qp 16384 .queuePair ++ lt asn (2 ^ 48) .asn
  | .sha512 qp asn => lt qp 16384 .queuePair ++ lt asn (2 ^ 48) .asn
  | .sha3_256 qp asn => lt qp 16384 .queuePair ++ lt asn (2 ^ 48) .asn
  | .sha3_384 qp asn => lt qp 16384 .queuePair ++ lt asn (2 ^ 48) .asn
  | .sha3_512 qp asn => lt qp 16384 .queuePair ++ lt asn (2 ^ 48) .asn
  | .shake128 qp asn => lt qp 16384 .queuePair ++ lt asn (2 ^ 48) .asn
  | .shake256 qp asn => lt qp 16384 .queuePair ++ lt asn (2 ^ 48) .asn
  | .random qp asn => lt qp 16384 .queuePair ++ lt asn (2 ^ 48) .asn
  | .tenantScriptInvoke qp asn => lt qp 16384 .queuePair ++ lt asn (2 ^ 48) .asn
  | .attestModule qp asn => lt qp 16384 .queuePair ++ lt asn (2 ^ 48) .asn
  | .attestPartition qp asn => lt qp 16384 .queuePair ++ lt asn (2 ^ 48) .asn
  | .partInfo qp asn => lt qp 16384 .queuePair ++ lt asn (2 ^ 48) .asn
  | .keyInfo qp asn => lt qp 16384 .queuePair ++ lt asn (2 ^ 48) .asn
  | .tryCounterCreate qp asn => lt qp 16384 .queuePair ++ lt asn (2 ^ 48) .asn
  | .tryCounterReset qp asn => lt qp 16384 .queuePair ++ lt asn (2 ^ 48) .asn
  | .tryCounterRead qp asn => lt qp 16384 .queuePair ++ lt asn (2 ^ 48) .asn
  | .nop c _ => lt c 68 .core
  | .add c _ => lt c 68 .core
  | .adc c _ _ _ => lt c 68 .core
  | .sub c _ => lt c 68 .core
  | .sbc c _ _ _ => lt c 68 .core
  | .and c _ => lt c 68 .core
  | .or c _ => lt c 68 .core
  | .xor c _ => lt c 68 .core
  | .andn c _ _ _ => lt c 68 .core
  | .shl c _ _ _ => lt c 68 .core
  | .shr c _ _ _ => lt c 68 .core
  | .sar c _ _ _ => lt c 68 .core
  | .ror c _ _ _ => lt c 68 .core
  | .rol c _ _ _ => lt c 68 .core
  | .mul c _ _ _ => lt c 68 .core
  | .mulhu c _ _ _ => lt c 68 .core
  | .mulhs c _ _ _ => lt c 68 .core
  | .divu c _ _ _ => lt c 68 .core
  | .divs c _ _ _ => lt c 68 .core
  | .remu c _ _ _ => lt c 68 .core
  | .rems c _ _ _ => lt c 68 .core
  | .cmp c _ => lt c 68 .core
  | .tst c _ => lt c 68 .core
  | .sel c _ _ _ => lt c 68 .core
  | .crcw c _ _ => lt c 68 .core
  | .addi c _ => lt c 68 .core
  | .andi c _ _ _ => lt c 68 .core
  | .ori c _ _ _ => lt c 68 .core
  | .xori c _ _ _ => lt c 68 .core
  | .shli c _ => lt c 68 .core
  | .shri c _ => lt c 68 .core
  | .sari c _ => lt c 68 .core
  | .rori c _ => lt c 68 .core
  | .cmpi c _ _ => lt c 68 .core
  | .movi c _ => lt c 68 .core
  | .movhi c _ _ => lt c 68 .core
  | .ldw c _ => lt c 68 .core
  | .ldh c _ _ _ => lt c 68 .core
  | .ldhs c _ _ _ => lt c 68 .core
  | .ldb c _ => lt c 68 .core
  | .ldbs c _ _ _ => lt c 68 .core
  | .stw c _ => lt c 68 .core
  | .sth c _ _ _ => lt c 68 .core
  | .stb c _ => lt c 68 .core
  | .b c _ _ => lt c 68 .core
  | .call c _ => lt c 68 .core
  | .callr c _ => lt c 68 .core
  | .jmpr c _ => lt c 68 .core
  | .ret c => lt c 68 .core
  | .iret c => lt c 68 .core
  | .wfi c => lt c 68 .core
  | .mfc c _ _ => lt c 68 .core
  | .mtc c _ _ => lt c 68 .core
  | .kop c _ _ _ _ => lt c 68 .core
  | .waitt c _ _ => lt c 68 .core
  | .rdt c _ _ _ => lt c 68 .core
  | .rnd c _ => lt c 68 .core
  | .endOp c _ => lt c 68 .core
  | .abort c _ => lt c 68 .core
  | .mov c _ => lt c 68 .core
  | .not c _ => lt c 68 .core
  | .neg c _ => lt c 68 .core
  | .push c _ => lt c 68 .core
  | .pop c _ => lt c 68 .core
  | .par c _ => lt c 68 .core
  | .parb c _ => lt c 68 .core
  | .brev c _ => lt c 68 .core
  | .brevb c _ => lt c 68 .core
  | .bswap c _ => lt c 68 .core
  | .luhn c _ => lt c 68 .core
  | .dect c _ => lt c 68 .core
  | .crcb c _ => lt c 68 .core
  | .kopEncBlock c _ => lt c 64 .core
  | .kopDecBlock c _ => lt c 64 .core
  | .kopCmacGen c _ => lt c 64 .core
  | .kopCmacVer c _ => lt c 64 .core
  | .kopHmacGen c _ => lt c 64 .core
  | .kopHmacVer c _ => lt c 64 .core
  | .pinOpen c _ => lt c 64 .core
  | .pinSeal c _ => lt c 64 .core
  | .kdfCmac c _ => lt c 64 .core
  | .kbOpen c _ => lt c 64 .core
  | .kopHash c _ => lt c 64 .core
  | .pkeRun c _ => lt c 64 .core
  | .inRead c _ => lt c 64 .core
  | .evuEvent u src _ => lt u 17 .unit ++ lt src 256 .source
  | .evuPendSet c _ _ => lt c 68 .core
  | .fmpHello node role scope index body => within node 1 127 .node ++ lt role 256 .byte ++ lt scope 65536 .word ++ lt index 256 .byte ++ exactly body.length 1313 .length
  | .fmpFinish node sigEc sigPq => within node 1 127 .node ++ exactly sigEc.length 96 .length ++ exactly sigPq.length 3309 .length
  | .fmpAck node xfer next status => within node 1 127 .node ++ lt xfer 256 .byte ++ lt next 64 .segment ++ lt status 256 .byte
  | .fmpAckTimeout node => within node 1 127 .node
  | .fmpPartialTimeout node segs => within node 1 127 .node ++ upTo segs 1094 .segment
  | .fmpHeartbeat => []
  | .fmpBusOff tec rec => upTo tec 256 .byte ++ lt rec 256 .byte
  | .fmpDupNode => []
  | .fmpHandshakeTimeout node => within node 1 127 .node
  | .fmpLockoutEnd node => within node 1 127 .node
  | .fmpIdleExpiry sid => within sid 1 32 .session
  | .fmpPortRestart path v => onPath path ++ lt v 256 .byte
  | .read path index sub _ offset => onPath path ++ lt index 65536 .index ++ lt sub 256 .sub ++ lt offset (2 ^ 32) .length
  | .write path index sub pc => onPath path ++ lt index 65536 .index ++ lt sub 256 .sub ++ upTo pc.value.length 65600 .length
  | .info path index sub => onPath path ++ lt index 65536 .index ++ lt sub 256 .sub
  | .cancel path => onPath path
  | .close path => onPath path
  | .segmentTimeout path => onPath path
  | .qrmApprove path reqNo index sigEc sigPq => onPath path ++ lt reqNo (2 ^ 32) .word ++ lt index 256 .byte ++ exactly sigEc.length 96 .length ++ exactly sigPq.length 3309 .length
  | .qrqWithdraw path slot => onPath path ++ lt slot 64 .slot
  | .quorumExpiry slot => lt slot 64 .slot
  | .cerOpen path value => onPath path ++ upTo value.length 65536 .length
  | .cerComponent path value => onPath path ++ upTo value.length 65536 .length
  | .cerConfirm path kcv => onPath path ++ upTo kcv.length 65536 .length
  | .cerAbort path => onPath path
  | .cerTimeout => []
  | .scriptImage path p slot image => onPath path ++ lt p 4096 .partition ++ within slot 1 64 .slot ++ upTo image.length 65536 .length
  | .scriptRemove path p slot => onPath path ++ lt p 4096 .partition ++ lt slot 256 .byte
  | .fwUpdStart path total => onPath path ++ lt total (2 ^ 32) .length
  | .fwUpdData path data => onPath path ++ upTo data.length 65536 .length
  | .fwUpdActivate path => onPath path
  | .fwReadyTimeout => []
  | .fwSecverRaise => []
  | .lcTarget path k => onPath path ++ lt k 256 .byte
  | .lcTransition => []
  | .dbgRequest path scope => onPath path ++ lt scope 256 .byte
  | .dbgResponse path value => onPath path ++ upTo value.length 65536 .length
  | .dbgClose path => onPath path
  | .dbgChallengeExpiry => []
  | .attStatement path => onPath path
  | .tamperSample src _ _ => lt src 9 .source
  | .nightsideBurst _ => []
  | .backupUndervoltage _ => []
  | .shadowMismatch g => onGroup g
  | .tmpHaltRelease path => onPath path
  | .rngHealthFail sampler _ => lt sampler 8 .sampler
  | .conditionerBlock => []
  | .rngStartupTestDone r => onStartup r
  | .drbgReseed n => lt n 5 .drbg
  | .rngReseedStall n => lt n 5 .drbg
  | .rngRestart path => onPath path
  | .rngRawMode path _ => onPath path
  | .rngRawData path => onPath path
  | .evrFlush => []
  | .evrCarrier code => lt code 65536 .word
  | .evrAnchor => []
  | .evrWallClock path ms => onPath path ++ lt ms (2 ^ 48) .time
  | .evrRecords path => onPath path
  | .recorderMemFail dev => lt dev 2 .device
  | .opTimeSave => []
  | .gateCompute _ => []
  | .capacitanceMeasure _ _ _ => []
  | .esrPulse _ => []
  | .powerCapCheck _ => []
  | .thermalPredict diodes _ => exactly diodes.length 4 .length
  | .clockStep t _ => lt t 16 .tile
  | .wearMeasure t slack ro => lt t 16 .tile ++ exactly slack.length 12 .length ++ exactly ro.length 4 .length
  | .wearPlan => []
  | .wearPlanNow path => onPath path
  | .backupLoadTest _ _ => []
  | .batReplaced path => onPath path
  | .tilePower path t v => onPath path ++ lt t 16 .tile ++ lt v 256 .byte
  | .eclipseDecision t _ => lt t 16 .tile
  | .tileWake t _ => lt t 16 .tile
  | .tileEnable path t v => onPath path ++ lt t 16 .tile ++ lt v 256 .byte
  | .tileReset path t => onPath path ++ lt t 16 .tile
  | .atbRaw path reading => onPath path ++ lt reading 65536 .word
  | .measureDrift _ _ => []
  | .bypass => []
  | .idcode => []
  | .samplePreload _ => []
  | .extest _ => []
  | .avbDbg op => onDebug op
  | .avbAtb sel reading => lt sel 65536 .word ++ lt reading 65536 .word
  | .perstDeassert _ _ => []
  | .linkRetraining _ _ => []
  | .adminFollowsOper p => lt p 4096 .partition
  | .svcOperationDone _ slot => lt slot 64 .slot
  | .rngEstimatePublish sampler _ => lt sampler 8 .sampler
  | .inputReadReturn qp asn _ => lt qp 16384 .queuePair ++ lt asn (2 ^ 48) .asn

end WellFormed

/-- A well-formed command. -/
def wellFormed (i : Instr) : Bool := (WellFormed.problems i).isEmpty

end Sys2Proof
end

