-- ==== Sys2Proof/Safety.lean ====
section
/-!
DEFINITION. The terms in which the statements speak: what a running core is, where an instruction of it lands, which entry is ready,
and what a good state of the memories and fuses is.
-/

namespace Sys2Proof.Machine

open Sys2Proof

/-- Core c runs the word at its pc: the module has the core, nothing stops it or makes it wait, and the word can be fetched
(09 R282, R305, R306). -/
def Runs (s : State) (c : Nat) : Prop :=
  coreOk c = true ∧ coreRuns s c = true ∧ fetchFault c (coreOf s c) = none

/-- The state once core c has become k by a word without a fault: its timers have been looked at, and a core that is
stepped is halted again (09 R280, R315; 11 R372). -/
def landed (s : State) (c : Nat) (k : EloaCore) : State :=
  { stepped (coreTimers (modCore s c (fun _ => k)) c) c with pending := s.pending }

/-- The state once core c has taken fault n at the word at its pc (09 R304, R306). -/
def faulted (s : State) (c n : Nat) : State := { stepped (takeFault s c n) c with pending := s.pending }

/-- A core whose word writes register rd and the flags f, goes on to the next word and has taken n cycles. -/
def resultCore (k : EloaCore) (rd : Reg) (v : Word) (f : FlagSet) (n : Nat) : EloaCore :=
  addCycles { writeReg { k with ctl := f.apply k.ctl } rd.toNat v with pc := k.pc + 4 } n

/-- A core whose word writes only flags. -/
def flagCore (k : EloaCore) (f : FlagSet) (n : Nat) : EloaCore :=
  addCycles { k with ctl := f.apply k.ctl, pc := k.pc + 4 } n

/-- The flags of a sum or difference r whose exact signed value is x: Z, N, the carry, and V where r does not hold x
(09 R294). -/
def sumFlags (r : Word) (carry : Bool) (x : Int) : FlagSet :=
  { z := some (decide (r = 0)), n := some (decide (r.toInt < 0)), c := some carry, v := some (decide (r.toInt ≠ x)),
    dz := none }

/-- Z and N alone (09 R294). -/
def znFlags (r : Word) : FlagSet :=
  { z := some (decide (r = 0)), n := some (decide (r.toInt < 0)), c := none, v := none, dz := none }

/-- All the register fields of a word name registers (09 R279, R290). -/
def named (l : List Reg) : Prop := ∀ r ∈ l, r.toNat ≤ 24

/-- A management core that has just been reset, running its firmware from address 0: what the tests run words on. -/
def State.mgmtRuns : State := { State.reset with cores := [(65, EloaCore.mgmt)], fw := { State.reset.fw with running := true } }

/-- Z and N of a result with a carry that may stay as it is (09 R295). -/
def shiftFlags (r : Word) (carry : Option Bool) : FlagSet := { znFlags r with c := carry }

/-- C of a shift to the right of a by n: the last bit shifted out, and top for 32 or more (09 R295). -/
def rightCarry (a : Word) (n : Nat) (top : Bool) : Option Bool :=
  if n = 0 then none else if 32 ≤ n then some top else some (a.getLsbD (n - 1))

/-- The NOP of a pair. -/
def nopSlot : Short := { sop := 0, rd := 0, x := 0 }

/-- The short operation that mk names, with fields rd and x, lands core c as k from either slot beside a NOP. -/
def inPair (mk : ShortForm → Instr) (s : State) (c : Nat) (rd x : BitVec 5) (k : EloaCore) : Prop :=
  exec (mk (.slotA rd x nopSlot)) s = .next (landed s c k) ∧ exec (mk (.slotB nopSlot rd x)) s = .next (landed s c k)

/-- Bit i of n bits of a, counted from bit b up, in reversed order. -/
def reversedByte (a : Word) (b : Nat) : BitVec 8 := (a.extractLsb' b 8).reverse

/-- The row of the opcode table that a short operation of number sop belongs to (09 R292), as slot form f of core c. -/
def shortRow (c sop : Nat) (f : ShortForm) : Option Instr :=
  match sop with
  | 0 => some (.nop c (.short f))
  | 1 => some (.mov c f)
  | 2 => some (.add c (.short f))
  | 3 => some (.sub c (.short f))
  | 4 => some (.and c (.short f))
  | 5 => some (.or c (.short f))
  | 6 => some (.xor c (.short f))
  | 7 => some (.not c f)
  | 8 => some (.neg c f)
  | 9 => some (.cmp c (.short f))
  | 10 => some (.tst c (.short f))
  | 11 => some (.addi c (.short f))
  | 12 => some (.movi c (.short f))
  | 13 => some (.shli c (.short f))
  | 14 => some (.shri c (.short f))
  | 15 => some (.sari c (.short f))
  | 16 => some (.rori c (.short f))
  | 17 => some (.ldw c (.short f))
  | 18 => some (.stw c (.short f))
  | 19 => some (.ldb c (.short f))
  | 20 => some (.stb c (.short f))
  | 21 => some (.push c f)
  | 22 => some (.pop c f)
  | 23 => some (.par c f)
  | 24 => some (.parb c f)
  | 25 => some (.brev c f)
  | 26 => some (.brevb c f)
  | 27 => some (.bswap c f)
  | 28 => some (.luhn c f)
  | 29 => some (.dect c f)
  | 30 => some (.crcb c f)
  | _ => none

/-- The short operations that read rd: all but MOV, NOT, NEG, MOVI, the loads, POP and the parity and reversal operations
(09 R292). -/
def readsRd (sop : Nat) : Prop := sop ∈ [2, 3, 4, 5, 6, 9, 10, 11, 13, 14, 15, 16, 18, 20, 21, 28, 30]
/-- The short operations whose last field names a register they read (09 R292). -/
def readsRa (sop : Nat) : Prop := sop ∈ [1, 2, 3, 4, 5, 6, 7, 8, 9, 10, 17, 18, 19, 20, 23, 24, 25, 26, 27, 28, 29, 30]
/-- The short operations that write rd (09 R292). -/
def writesRd (sop : Nat) : Prop :=
  sop ∈ [1, 2, 3, 4, 5, 6, 7, 8, 11, 12, 13, 14, 15, 16, 17, 19, 22, 23, 24, 25, 26, 27, 28, 29, 30]
/-- PUSH and POP. -/
def usesStack (sop : Nat) : Prop := sop = 21 ∨ sop = 22
/-- The short operations that access memory (09 R292). -/
def usesMemory (sop : Nat) : Prop := 17 ≤ sop ∧ sop ≤ 22

/-- Slot x reads register r, ds with PUSH and POP. -/
def readsReg (x : Short) (r : Nat) : Prop :=
  (readsRd x.sop.toNat ∧ x.rd.toNat = r) ∨ (readsRa x.sop.toNat ∧ x.x.toNat = r) ∨ (usesStack x.sop.toNat ∧ r = 24)
/-- Slot x writes register r, ds with PUSH and POP. -/
def writesReg (x : Short) (r : Nat) : Prop :=
  (writesRd x.sop.toNat ∧ x.rd.toNat = r) ∨ (usesStack x.sop.toNat ∧ r = 24)

/-- Slot operation sop writes the flag of number b: 0 Z, 1 N, 2 C, 3 V (09 R292). -/
def writesFlag (sop b : Nat) : Prop :=
  (b ≤ 1 ∧ sop ∈ [2, 3, 4, 5, 6, 7, 8, 9, 10, 11, 13, 14, 15, 16]) ∨
  (b = 2 ∧ sop ∈ [2, 3, 8, 9, 11, 13, 14, 15, 16]) ∨ (b = 3 ∧ sop ∈ [2, 3, 8, 9, 11, 28, 29])

/-- The size of the data memory of core c in bytes (09 R278). -/
def dataBytes (c : Nat) : Nat := if c < 64 then 8192 else 262144

/-- The address A + imm14 of a long load or store (09 R291). -/
def accessAddr (k : EloaCore) (ra : Reg) (imm : BitVec 14) : Nat := (reg k ra.toNat + imm.signExtend 32).toNat

/-- m is memory old with the low n bytes of v stored from address a on, and nothing else changed. -/
def Stored (old m : List Host.Cell) (a n : Nat) (v : Word) : Prop :=
  Memory.wf m = true ∧ ∀ b, Memory.get m b = if a ≤ b ∧ b < a + n then (v >>> (8 * (b - a))).setWidth 8 else Memory.get old b

/-- The long loads and stores of core c, each with the number of bytes it accesses (09 R291). -/
def longAccesses (c : Nat) (rd ra : Reg) (imm : BitVec 14) : List (Instr × Nat) :=
  [(.ldw c (.long rd ra imm), 4), (.ldh c rd ra imm, 2), (.ldhs c rd ra imm, 2), (.ldb c (.long rd ra imm), 1),
   (.ldbs c rd ra imm, 1), (.stw c (.long rd ra imm), 4), (.sth c rd ra imm, 2), (.stb c (.long rd ra imm), 1)]

/-- The address lies in a range of the address map of core c (09 R281). -/
def onMap (c a : Nat) : Prop :=
  a < dataBytes c ∨ (c < 64 ∧ 0x10000 ≤ a ∧ a ≤ 0x10FFF) ∨
  (64 ≤ c ∧ ((0x40000000 ≤ a ∧ a ≤ 0x40010FFF) ∨ 0x80000000 ≤ a))

/-- Core k has become k' by a call to target (09 R283 to R285). -/
def Called (k k' : EloaCore) (target : Word) : Prop :=
  k'.pc = target ∧ k'.ret = (k.pc + 4) :: k.ret ∧ k'.f = k.f + 1 ∧ k'.b = max k.b (k.f + 1 + 2 - 16) ∧
  (∀ r < 8, reg k' (8 + r) = reg k (16 + r) ∧ reg k' (16 + r) = 0 ∧ reg k' r = reg k r) ∧ k'.ds = k.ds ∧
  k'.ctl.cycle = k.ctl.cycle + BitVec.ofNat 32 (2 + 16 * (k'.b - k.b)) ∧ k'.mem = k.mem ∧ k'.ictx = k.ictx

/-- The flags as ELQ_FLAGS shows them (09 R280). -/
def flagBits (k : CoreCtl) : Nat := b2n k.z + 2 * b2n k.n + 4 * b2n k.c + 8 * b2n k.v + 16 * b2n k.dz

/-- The control registers of core c in the order of their numbers (09 R280). -/
def controlWords (k : EloaCore) (c : Nat) : List Word :=
  [BitVec.ofNat 32 (flagBits k.ctl), k.ctl.crcCfg, k.ctl.crcPoly, k.ctl.decLo, k.ctl.decHi, k.ctl.cycle,
   BitVec.ofNat 32 (k.f + 2 ^ 8 * k.b + 2 ^ 16 * k.ret.length + 2 ^ 24 * k.ictx.length),
   BitVec.ofNat 32 (if c < 64 then c % 4 + 4 * (c / 4) else 64 + (c - 64)),
   (if c < 64 ∧ c % 4 = 3 then BitVec.ofNat 32 k.ctl.budget else 0), k.ctl.tcmp, k.ctl.fvbase, BitVec.ofNat 32 k.ctl.fault,
   k.ctl.faultPc, k.ctl.dwin]

/-- Core c may read control register n (09 R280). -/
def mayReadCr (c n : Nat) : Prop := n ≤ 8 ∨ (n = 9 ∧ ¬ (c < 64 ∧ c % 4 = 3)) ∨ (64 ≤ c ∧ n ≤ 13)
/-- Core c may write control register n (09 R280). -/
def mayWriteCr (c n : Nat) : Prop :=
  n ≤ 4 ∨ (n = 9 ∧ ¬ (c < 64 ∧ c % 4 = 3)) ∨ (64 ≤ c ∧ (n = 10 ∨ n = 12 ∨ n = 13))

/-- The control registers after v is written to the writable register n (09 R280). -/
def controlAfter (k : CoreCtl) (n : Nat) (v : Word) : CoreCtl :=
  if n = 0 then { k with z := v.getLsbD 0, n := v.getLsbD 1, c := v.getLsbD 2, v := v.getLsbD 3, dz := v.getLsbD 4 }
  else if n = 1 then
    (if v.toNat / 64 % 4 = 1 then { k with crcCfg := 0x0F, crcPoly := 0x1021 }
     else if v.toNat / 64 % 4 = 2 then { k with crcCfg := 0x3F, crcPoly := 0x1EDC6F41 }
     else { k with crcCfg := v &&& 0x3F })
  else if n = 2 then { k with crcPoly := v }
  else if n = 3 then { k with decLo := v }
  else if n = 4 then { k with decHi := v }
  else if n = 9 then { k with tcmp := v }
  else if n = 10 then { k with fvbase := v &&& 0xFFFFFFF0 }
  else if n = 12 then { k with faultPc := v }
  else { k with dwin := v &&& 3 }

/-- The state u, once the timers of core c have been looked at. -/
def afterTimers (s u : State) (c : Nat) : State := { stepped (coreTimers u c) c with pending := s.pending }

/-- The unit of core c once the handler whose context is x has ended: its source is no longer ACTIVE and RUNPRI is the one before it
(09 R313). -/
def handlerEnded (s : State) (c : Nat) (x : ICtx) : State :=
  modEvuCore (modEvu s (unitOf c).1 (fun e => { e with active := e.active.filter (fun y => y != x.source) }))
    (unitOf c).1 (unitOf c).2 (fun e => { e with runpri := x.runpri })

/-- The long operations of core c that only use registers, with the registers they name (09 R291). -/
def registerWords (c : Nat) (rd ra rb : Reg) (imm : BitVec 14) (i19 : BitVec 19) (i16 : BitVec 16) : List (Instr × List Reg) :=
  [(.add c (.long rd ra rb), [rd, ra, rb]), (.adc c rd ra rb, [rd, ra, rb]), (.sub c (.long rd ra rb), [rd, ra, rb]),
   (.sbc c rd ra rb, [rd, ra, rb]), (.and c (.long rd ra rb), [rd, ra, rb]), (.or c (.long rd ra rb), [rd, ra, rb]),
   (.xor c (.long rd ra rb), [rd, ra, rb]), (.andn c rd ra rb, [rd, ra, rb]), (.shl c rd ra rb, [rd, ra, rb]),
   (.shr c rd ra rb, [rd, ra, rb]), (.sar c rd ra rb, [rd, ra, rb]), (.ror c rd ra rb, [rd, ra, rb]),
   (.rol c rd ra rb, [rd, ra, rb]), (.mul c rd ra rb, [rd, ra, rb]), (.mulhu c rd ra rb, [rd, ra, rb]),
   (.mulhs c rd ra rb, [rd, ra, rb]), (.divu c rd ra rb, [rd, ra, rb]), (.divs c rd ra rb, [rd, ra, rb]),
   (.remu c rd ra rb, [rd, ra, rb]), (.rems c rd ra rb, [rd, ra, rb]), (.cmp c (.long ra rb), [ra, rb]),
   (.tst c (.long ra rb), [ra, rb]), (.sel c rd ra rb, [rd, ra, rb]), (.crcw c rd ra, [rd, ra])] ++
  [(.addi c (.long rd ra imm), [rd, ra]), (.andi c rd ra imm, [rd, ra]), (.ori c rd ra imm, [rd, ra]),
   (.xori c rd ra imm, [rd, ra]), (.shli c (.long rd ra imm), [rd, ra]), (.shri c (.long rd ra imm), [rd, ra]),
   (.sari c (.long rd ra imm), [rd, ra]), (.rori c (.long rd ra imm), [rd, ra]), (.cmpi c ra imm, [ra]),
   (.movi c (.long rd i19), [rd]), (.movhi c rd i16, [rd]), (.callr c ra, [ra]), (.jmpr c ra, [ra])]

/-- The in-flight descriptor holds this completion. -/
def answered (s : State) (qp asn : Nat) (c : Cpl) : Prop := (entryOf s qp asn).map (fun e => e.cpl) = some (some c)

/-- A commit unit with this completion and this effect waits for its journal record (04 R110, R117). -/
def unitWaits (s : State) (qp asn : Nat) (c : Cpl) (eff : Effect) : Prop :=
  ∃ u ∈ s.journal.units, u.rcd.qp = qp ∧ u.rcd.asn = asn ∧ u.rcd.cpl = c ∧ u.rcd.effect = eff

/-- The script that core c of s runs for e has ended with completion r; good says that its result build succeeded (08 R271;
09 R282, R303). -/
def scriptEnded (s t : State) (c : Nat) (e : Entry) (good : Bool) (r : Cpl) : Prop :=
  answered t e.qp e.asn r ∧
  (coreOf t c = { EloaCore.script with code := (coreOf s c).code, dbg := (coreOf t c).dbg }) ∧
  (e.se = true → (good = true ∨ (coreOf s c).drew = true) → unitWaits t e.qp e.asn r .none) ∧
  (¬ (e.se = true ∧ (good = true ∨ (coreOf s c).drew = true)) →
    t.journal = s.journal ∧ (entryOf t e.qp e.asn).map (fun x => x.committed) = some true)

/-- Core c runs the script of e, in the tile that has the core. -/
def coreHolds (s : State) (c : Nat) (e : Entry) : Prop :=
  c < 64 ∧ coreEntry s c = some e ∧ (coreOf s c).desc = some (e.qp, e.asn) ∧ e.script = .core c ∧ e.tile = some (c / 4)

/-- The commands of the key-use functions on ticket i of core c, each with its func (09 R300). -/
def kopCommands (c i : Nat) : List (Nat × Instr) :=
  [(0x001, .kopEncBlock c i), (0x002, .kopDecBlock c i), (0x010, .kopCmacGen c i), (0x011, .kopCmacVer c i),
   (0x012, .kopHmacGen c i), (0x013, .kopHmacVer c i), (0x020, .pinOpen c i), (0x021, .pinSeal c i), (0x030, .kdfCmac c i),
   (0x040, .kbOpen c i), (0x050, .kopHash c i), (0x060, .pkeRun c i), (0x070, .inRead c i)]

/-- The token that ticket i of core c has emitted. -/
def tokenOf (s : State) (c i : Nat) : Option Token := ((coreOf s c).tickets[i]?).bind (fun t => t.tok)

/-- The step of ticket i may fire as function func for descriptor e, and no input of it has failed (03 R85; 09 R299). -/
def kopMayFire (s : State) (c i func : Nat) (e : Entry) (tk : Ticket) : Prop :=
  c < 64 ∧ kopReady s c i func = some (e, tk) ∧ inputFailed (coreOf s c) tk = none

/-- An engine takes the step of ticket i, which leaves u (03 R85, R90; 06 R190). -/
def engineTakes (s u : State) (c i : Nat) (e : Entry) (tk : Ticket) : Prop := ∃ n, kopEngine s c i e tk = some (n, u)

/-- The step's key r passes its checks, the tile holds it, and an engine takes the step, in s' (07 R216, R219, R220, R233; 09 R299). -/
def keyHeld (s s' : State) (c i : Nat) (e : Entry) (tk : Ticket) (n : KeyNeed) (alg : Nat → Bool) (r : KeyRec) : Prop :=
  ∃ u, kopHold s c e tk n alg = .ok (r, .held u) ∧ engineTakes u s' c i e tk

/-- The token that the engine of ticket i holds until it is done with the step. -/
def heldTok (s : State) (c i : Nat) : Option Token := ((coreOf s c).tickets[i]?).bind (fun t => t.held)

/-- The token of step i of descriptor e before its kind, value and status are known (03 R84). -/
def blankTok (s : State) (e : Entry) (i : Nat) : Token :=
  { ctx := e.ctx, step := i, opnd := 0, sens := false, kind := 0, colour := (qpOf s e.qp).partition, status := 0, value := [],
    name := none }

/-- The command answers a next state in which the step has emitted a status token at once. -/
def emitsStatus (x : Instr) (s : State) (c i : Nat) (e : Entry) (st : Nat) : Prop :=
  ∃ t, exec x s = .next t ∧ tokenOf t c i = some { blankTok s e i with kind := 2, status := st }

/-- The command answers a next state in which the step has emitted a value at once. -/
def emitsValue (x : Instr) (s : State) (c i : Nat) (e : Entry) (v : List Byte) : Prop :=
  ∃ t, exec x s = .next t ∧ tokenOf t c i = some { blankTok s e i with value := v.take 32 }

/-- The command answers a next state in which the step runs in its engine, which holds token o as its result. -/
def holds (x : Instr) (s : State) (c i : Nat) (o : Token) : Prop :=
  ∃ t, exec x s = .next t ∧ heldTok t c i = some o ∧ ((coreOf t c).tickets[i]?).map (fun k => k.stage) = some 1

/-- The step's result is a value. -/
def holdsValue (x : Instr) (s : State) (c i : Nat) (e : Entry) (v : List Byte) : Prop :=
  holds x s c i { blankTok s e i with value := v.take 32 }
/-- The step's result is a status alone. -/
def holdsStatus (x : Instr) (s : State) (c i : Nat) (e : Entry) (st : Nat) : Prop :=
  holds x s c i { blankTok s e i with kind := 2, status := st }
/-- The step's result tells of a key ready under a name. -/
def holdsKey (x : Instr) (s : State) (c i : Nat) (e : Entry) (n : CacheName) : Prop :=
  holds x s c i { blankTok s e i with kind := 1, name := some n }
/-- The step's result is a sensitive token with value v in the store of the descriptor's tile (03 R88). -/
def holdsSens (x : Instr) (s : State) (c i : Nat) (e : Entry) (v : List Byte) : Prop :=
  ∃ t, exec x s = .next t ∧ heldTok t c i = some { blankTok s e i with sens := true } ∧
    { qp := e.qp, asn := e.asn, step := i, value := v.take 32 } ∈ (tmemOf t (e.tile.getD 0)).sens

/-- The command answers a next state in which a public-key core of the descriptor's tile runs the step with these operands. -/
def runsOplist (x : Instr) (s : State) (i : Nat) (e : Entry) (ops : List (List Byte)) : Prop :=
  ∃ t k r, exec x s = .next t ∧ (pkeOf (tileOf t (e.tile.getD 0)) k).run = some r ∧
    (pkeOf (tileOf t (e.tile.getD 0)) k).busy = true ∧ r.qp = e.qp ∧ r.asn = e.asn ∧ r.step = i ∧ r.kop = true ∧ r.ops = ops ∧
    (pkeOf (tileOf t (e.tile.getD 0)) k).file = operandFile ops

/-- No source of unit u is enabled: nothing is delivered. -/
def allMasked (s : State) (u : Nat) : Prop := ∀ n, (srcOf s u n).mask = true

/-- A row of the table of data commands: the command code, the command at an ASN of a queue pair, and its work in the tile. -/
structure DataRow where
  code : Nat
  cmd  : Nat → Nat → Instr
  work : Work

/-- The MAC, general symmetric and hash commands (05 R159; 06 R180 to R192): the code, the command and its work. -/
def symRows : List DataRow :=
  [⟨0x0101, .aesEcbEnc, (symWork .ecb (fun _ c k x => symOut c [] (ecb k.size k.enc x.data)))⟩,
   ⟨0x0102, .aesEcbDec, (symWork .ecb (fun _ c k x => symOut c [] (ecb k.size k.dec x.data)))⟩,
   ⟨0x0103, .aesCbcEnc, (symWork .cbc (fun _ c k x => symOut c [] (cbcEnc k x.iv x.data)))⟩,
   ⟨0x0104, .aesCbcDec, (symWork .cbc (fun _ c k x => symOut c [] (cbcDec k x.iv x.data)))⟩,
   ⟨0x0105, .aesCtr, (symWork .ctr (fun _ c k x => symOut c [] (ctrMode k x.iv x.data)))⟩,
   ⟨0x0106, .aesCtrHw, aesCtrHwBody⟩,
   ⟨0x0107, .aesGcmEnc, aesGcmEncBody⟩,
   ⟨0x0108, .aesGcmDec, aesGcmDecBody⟩,
   ⟨0x0111, .tdesEcbEnc, (symWork .ecb (fun _ c k x => symOut c [] (ecb k.size k.enc x.data)))⟩,
   ⟨0x0112, .tdesEcbDec, (symWork .ecb (fun _ c k x => symOut c [] (ecb k.size k.dec x.data)))⟩,
   ⟨0x0113, .tdesCbcEnc, tdesCbcEncBody⟩,
   ⟨0x0114, .tdesCbcDec, tdesCbcDecBody⟩] ++
  [⟨0x0401, .macAlg1Gen, (macWork .alg1 false)⟩,
   ⟨0x0402, .macAlg1Ver, (macWork .alg1 true)⟩,
   ⟨0x0403, .macAlg3Gen, (macWork .alg3 false)⟩,
   ⟨0x0404, .macAlg3Ver, (macWork .alg3 true)⟩,
   ⟨0x0410, .cmacGen, (macWork .cmac false)⟩,
   ⟨0x0411, .cmacVer, (macWork .cmac true)⟩,
   ⟨0x0420, .hmacGen, (macWork .hmac false)⟩,
   ⟨0x0421, .hmacVer, (macWork .hmac true)⟩,
   ⟨0x0B01, .sha256, (hashWork 32 (fun m _ => sha256 m))⟩,
   ⟨0x0B02, .sha384, (hashWork 48 (fun m _ => sha384 m))⟩,
   ⟨0x0B03, .sha512, (hashWork 64 (fun m _ => sha512 m))⟩,
   ⟨0x0B11, .sha3_256, (hashWork 32 (fun m _ => sha3_256 m))⟩] ++
  [⟨0x0B12, .sha3_384, (hashWork 48 (fun m _ => sha3_384 m))⟩,
   ⟨0x0B13, .sha3_512, (hashWork 64 (fun m _ => sha3_512 m))⟩,
   ⟨0x0B21, .shake128, (hashWork 0 shake128)⟩,
   ⟨0x0B22, .shake256, (hashWork 0 shake256)⟩]

/-- The PIN and card verification commands (05 R140 to R155): the code, the command and its work. -/
def pinRows : List DataRow :=
  [⟨0x0201, .pinTranslate, pinTransWork⟩,
   ⟨0x0202, .pinVerifyOffset, pinVerifyOffsetBody⟩,
   ⟨0x0203, .pinVerifyPvv, pinVerifyPvvBody⟩,
   ⟨0x0204, .pinOffsetGenerate, pinOffsetGenerateBody⟩,
   ⟨0x0205, .pvvGenerate, pvvGenerateBody⟩,
   ⟨0x0601, .cvcGenerate, (cvcWork false)⟩,
   ⟨0x0602, .cvcVerify, (cvcWork true)⟩]

/-- The DUKPT commands (05 R156 to R158): the code, the command and its work. -/
def dukptRows : List DataRow :=
  [⟨0x0301, .dukptPinTranslate, dukptPinTranslateBody⟩,
   ⟨0x0302, .dukptMacGenerate, (dukptMacWork false)⟩,
   ⟨0x0303, .dukptMacVerify, (dukptMacWork true)⟩,
   ⟨0x0304, .dukptEncrypt, (dukptDataWork .dataResp cbcEnc)⟩,
   ⟨0x0305, .dukptDecrypt, (dukptDataWork .dataReq cbcDec)⟩,
   ⟨0x0306, .dukptIkExport, dukptIkExportBody⟩]

/-- The EMV commands (05 R161 to R165): the code, the command and its work. -/
def emvRows : List DataRow :=
  [⟨0x0501, .arqcVerify, arqcVerifyBody⟩,
   ⟨0x0502, .smMacGenerate, smMacGenerateBody⟩,
   ⟨0x0503, .smPinChange, smPinChangeBody⟩,
   ⟨0x0504, .smDataEncipher, smDataEncipherBody⟩]

/-- The key-block and key-loading commands (05 R166 to R172): the code, the command and its work. -/
def kbCmdsRows : List DataRow :=
  [⟨0x0701, .kbImport, kbImportBody⟩,
   ⟨0x0702, .kbExport, kbExportBody⟩,
   ⟨0x0703, .kbGenerate, kbGenerateBody⟩,
   ⟨0x0710, .rklBuild, rklBuildBody⟩,
   ⟨0x0711, .rklAccept, rklAcceptBody⟩]

/-- The one-time password and locker commands (05 R173 to R176): the code, the command and its work. -/
def otpRows : List DataRow :=
  [⟨0x0C01, .hotpGenerate, hotpGenerateBody⟩,
   ⟨0x0C02, .hotpVerify, hotpVerifyBody⟩,
   ⟨0x0C03, .totpGenerate, totpGenerateBody⟩,
   ⟨0x0C04, .totpVerify, totpVerifyBody⟩,
   ⟨0x0C10, .lockerTokenIssue, lockerTokenIssueBody⟩,
   ⟨0x0C11, .lockerTokenVerify, lockerTokenVerifyBody⟩]

/-- The public-key and post-quantum commands (06 R193 to R213): the code, the command and its work. -/
def pkeRows : List DataRow :=
  [⟨0x0801, .rsaSign, (pkWork .sign pkSign)⟩,
   ⟨0x0802, .rsaVerify, (pkWork .verify pkVerify)⟩,
   ⟨0x0803, .rsaOaepEncrypt, (pkWork .oaepEnc pkOaepEnc)⟩,
   ⟨0x0804, .rsaOaepDecrypt, (pkWork .oaepDec pkOaepDec)⟩,
   ⟨0x0810, .ecdsaSign, (pkWork .sign pkSign)⟩,
   ⟨0x0811, .ecdsaVerify, (pkWork .verify pkVerify)⟩,
   ⟨0x0812, .ecdhDerive, (pkWork .derive pkEcdh)⟩,
   ⟨0x0820, .ed25519Sign, (pkWork .sign pkSign)⟩,
   ⟨0x0821, .ed25519Verify, (pkWork .verify pkVerify)⟩,
   ⟨0x0830, .pkGenerate, (pkWork .generate pkGenerate)⟩,
   ⟨0x0831, .pkPublicExport, (pkWork .pubExport pkPubExport)⟩,
   ⟨0x0832, .pkPublicImport, (pkWork .pubImport pkPubImport)⟩] ++
  [⟨0x0901, .mlkemEncaps, (pkWork .encaps pkEncaps)⟩,
   ⟨0x0902, .mlkemDecaps, mlkemDecapsBody⟩,
   ⟨0x0910, .mldsaSign, (pkWork .sign pkSign)⟩,
   ⟨0x0911, .mldsaVerify, (pkWork .verify pkVerify)⟩,
   ⟨0x0920, .slhdsaVerify, (pkWork .verify pkVerify)⟩,
   ⟨0x0930, .pqGenerate, (pkWork .generate pkGenerate)⟩,
   ⟨0x0931, .pqPublicExport, (pkWork .pubExport pkPubExport)⟩,
   ⟨0x0932, .pqPublicImport, (pkWork .pubImport pkPubImport)⟩]

/-- The partition commands (08 R273 to R276): the code, the command and its work. -/
def adminRows : List DataRow :=
  [⟨0x0F01, .partInfo, partInfoBody⟩,
   ⟨0x0F02, .keyInfo, keyInfoBody⟩,
   ⟨0x0F10, .tryCounterCreate, tryCounterCreateBody⟩,
   ⟨0x0F11, .tryCounterReset, tryCounterResetBody⟩,
   ⟨0x0F12, .tryCounterRead, tryCounterReadBody⟩]

/-- The attestation commands (11 R373 to R376): the code, the command and its work. -/
def attestRows : List DataRow :=
  [⟨0x0E01, .attestModule, (attestWork false)⟩,
   ⟨0x0E02, .attestPartition, (attestWork true)⟩]

/-- The data commands. -/
def dataRows : List DataRow :=
  symRows ++ pinRows ++ dukptRows ++ emvRows ++ kbCmdsRows ++ otpRows ++ pkeRows ++ adminRows ++ attestRows

/-- The descriptor at ASN a of queue pair q holds command code, its work may run to its end, and its steps have run or an engine of their
kind takes it (02 R62; 03 R83, R85). -/
def dataReady (s : State) (q a code : Nat) (e : Entry) : Prop :=
  q < 16384 ∧ entryOf s q a = some e ∧ dCmd e.desc = code ∧ bodyReady s e = true ∧ (takeEngine s e).isSome = true

/-- No key field that the command does not use is set (02 R62 check 7). -/
def unusedZero (d : List Byte) : Prop := ∀ x ∈ unusedKeys d, x.1 = false

/-- The command answers a next state in which its descriptor holds completion r. -/
def posts (x : Instr) (s : State) (q a : Nat) (r : Cpl) : Prop := ∃ t, exec x s = .next t ∧ answered t q a r

/-- OK with bytes in the output list and r as RESULT (02 R68). -/
def listed (r out : List Byte) : Cpl :=
  { status := 0, detail := 0, result := r, out := out, outLen := out.length, cflags := 0 }

/-- The nine modes of class 0x01 other than the hardware nonce and GCM: the command, its code, the bytes of its IV field, its
least inline length, and the operation on IV and data under a key's cipher (06 R180, R181). -/
def plainModes (q a : Nat) (k : Cipher) : List (Instr × Nat × Nat × Nat × (List Byte → List Byte → List Byte)) :=
  [(.aesEcbEnc q a, 0x0101, 0, 8, fun _ x => ecb k.size k.enc x), (.aesEcbDec q a, 0x0102, 0, 8, fun _ x => ecb k.size k.dec x),
   (.aesCbcEnc q a, 0x0103, 16, 8, fun iv x => cbcEnc k iv x), (.aesCbcDec q a, 0x0104, 16, 8, fun iv x => cbcDec k iv x),
   (.aesCtr q a, 0x0105, 16, 1, fun iv x => ctrMode k iv x),
   (.tdesEcbEnc q a, 0x0111, 0, 8, fun _ x => ecb k.size k.enc x), (.tdesEcbDec q a, 0x0112, 0, 8, fun _ x => ecb k.size k.dec x),
   (.tdesCbcEnc q a, 0x0113, 16, 8, fun iv x => cbcEnc k (iv.take 8) x),
   (.tdesCbcDec q a, 0x0114, 16, 8, fun iv x => cbcDec k (iv.take 8) x)]

/-- The 12-byte hardware nonce of a descriptor of partition p that drew counter n: FIXED then COUNTER (06 R182). -/
def hardwareNonce (s : State) (p n : Nat) : List Byte :=
  beBytes 4 (p * 2 ^ 20 + (partOf s p).incarnation % 2 ^ 20) ++ beBytes 8 n

/-- The message of a command that takes n inline bytes or the input list (02 R60). -/
def messageOf (e : Entry) (n : Nat) : List Byte :=
  if dSgl e.desc then (match e.input with
    | some o => o.data
    | none => []) else slice e.desc 0x40 n

/-- The MAC algorithms under key r: generation and verification with their codes, the range of MAC_LEN, the greatest PAD, the
greatest hash number, and the MAC (05 R159, R160). -/
def macTable (q a : Nat) (r : KeyRec) : List (Instr × Nat × Instr × Nat × Nat × Nat × Nat × Nat × (Nat → Nat → List Byte → List Byte)) :=
  [(.macAlg1Gen q a, 0x0401, .macAlg1Ver q a, 0x0402, 4, r.cipher.size, 2, 0,
      fun pad _ m => cbcMac r.cipher.enc r.cipher.size (padMac pad r.cipher.size m)),
   (.macAlg3Gen q a, 0x0403, .macAlg3Ver q a, 0x0404, 4, 8, 2, 0, fun pad _ m => macAlg3 r.key (padMac pad 8 m)),
   (.cmacGen q a, 0x0410, .cmacVer q a, 0x0411, 4, r.cipher.size, 0, 0, fun _ _ m => cmac r.cipher m),
   (.hmacGen q a, 0x0420, .hmacVer q a, 0x0421, 10, 32, 0, 3, fun _ h m => hmac (hashBy h).1 (hashBy h).2 r.key m)]

/-- The hashes: the command, its code, the digest's length or 0 where OUT_BYTES gives it, and the digest (06 R192). -/
def hashTable (q a : Nat) : List (Instr × Nat × Nat × (List Byte → Nat → List Byte)) :=
  [(.sha256 q a, 0x0B01, 32, fun m _ => sha256 m), (.sha384 q a, 0x0B02, 48, fun m _ => sha384 m),
   (.sha512 q a, 0x0B03, 64, fun m _ => sha512 m), (.sha3_256 q a, 0x0B11, 32, fun m _ => sha3_256 m),
   (.sha3_384 q a, 0x0B12, 48, fun m _ => sha3_384 m), (.sha3_512 q a, 0x0B13, 64, fun m _ => sha3_512 m),
   (.shake128 q a, 0x0B21, 0, shake128), (.shake256 q a, 0x0B22, 0, shake256)]

/-- New messages have gone out on the buses, m among them. -/
def sentNow (s t : State) (m : BusMsg) : Prop := ∃ new, t.bus = new ++ s.bus ∧ m ∈ new

/-- The host-side registers are as a PF0 function-level reset leaves them, and no accepted descriptor is without its
completion (02 R38, R46, R53; 04 R120; 11 R371). -/
def hostForgotten (t : State) : Prop :=
  t.hif.fetchEn = false ∧ t.hif.atsUse = false ∧ t.hif.ier = 0 ∧ t.hif.strayDb = 0 ∧ t.hif.bme = [] ∧ t.hif.atc = [] ∧
    t.hif.ats = [] ∧ t.hif.numVfs = 0 ∧ t.hif.msix = [] ∧ t.hif.mbx = Mailbox.reset ∧ t.life.scope = 0 ∧ t.life.challenge = none ∧ t.power.gate = 2 ∧ ∀ e ∈ t.entries, e.cpl.isSome = true

/-- The link has trained at a rate and width: the rate is bounded by HIF_LINK_MAX_SPEED, and outside Gen3 to Gen5 at x4, x8
or x16 it is degraded (02 R32). -/
def trained (s t : State) (speed width : Nat) : Prop :=
  t.hif.linkUp = true ∧ t.hif.perst = false ∧ t.hif.speed = min speed (objNat s 0x9000 0x04 5) ∧ t.hif.width = width ∧
    (t.hif.degraded = true ↔ (t.hif.speed < 3 ∨ (width ≠ 4 ∧ width ≠ 8 ∧ width ≠ 16)))

/-- A discarded doorbell write of queue pair q: counted, DB_ERR set, bit 6 of HIF_ADM_ISR set (02 R46, R47, R53). -/
def doorbellRefused (s t : State) (q : Nat) : Prop :=
  qpOf t q = { qpOf s q with badDb := min 0xFFFF ((qpOf s q).badDb + 1), dbErr := true } ∧ t.hif.isr.getLsbD 6 = true ∧
    (∀ x, x ≠ q → qpOf t x = qpOf s x) ∧ { t with qps := s.qps, hif := s.hif, bus := s.bus } = s

/-- s with queue pair q changed by f. -/
def withQp (s : State) (q : Nat) (f : Qp → Qp) : State := { s with qps := tblSet s.qps q (f (qpOf s q)) }

/-- A request on a path has its response (10 R331), in the mailbox where it came through the tunnel (02 R56). -/
def replied (s t : State) (path : Path) (result : Nat) (value : List Byte) : Prop :=
  sentNow s t (.response path result value) ∧
    (path = .tunnel → t.hif.mbx.busy = false ∧ t.hif.mbx.done = true ∧ t.hif.mbx.result = result)

/-- The error bits of HIF_QP_CTL that hardware sets in a write's cycle stand after it: FETCH_ERR, DB_ERR, CFG_ERR, CPL_ERR in bits 1 to 4
(00 R12; 02 R50). -/
def errsSet (hw : Nat) (x : Qp) : Qp :=
  { x with fetchErr := x.fetchErr || hw.testBit 1, dbErr := x.dbErr || hw.testBit 2, cfgErr := x.cfgErr || hw.testBit 3,
           cplErr := x.cplErr || hw.testBit 4 }

/-- s with the host interface changed by f. -/
def withHif (s : State) (f : Hif → Hif) : State := { s with hif := f s.hif }

/-- The path has the right to write an object of this access class: its session is open and the port not bus-off, or its request is
the one in the mailbox that SUBMIT has sent (02 R56; 10 R319, R329, R330, R331, R334). -/
def granted (s : State) (path : Path) (a : Access) (idx sub : Nat) (v : List Byte) : Prop :=
  ∃ r, askerOf s path 2 idx sub = some r ∧ writeRight s r a idx sub v = 0

/-- A partition command can be given: HIF_ADM_PCMD is not busy, or the path may write PART_CMD (02 R55; 08 R277). -/
def canCommand (s : State) (via : Via) (p action : Nat) : Prop :=
  match via with
  | .pcmd _ => s.hif.pcmdBusy = false
  | .dict path => granted s path .wo (0x4000 + p) 0x05 (leBytes 1 action)

/-- The drain deadline in ms that the command carries. -/
def viaMs (via : Via) : Nat :=
  match via with
  | .pcmd ms => ms % 65536
  | .dict _ => 0

/-- The command's end is reported in HIF_ADM_PCMD_STS, its own or that of the command it takes over (02 R55; 08 R257). -/
def forPcmd (s : State) (via : Via) (p : Nat) : Bool :=
  match via, (partOf s p).cmd with
  | .pcmd _, _ => true
  | .dict _, some c => c.viaPcmd
  | .dict _, none => false

/-- No accepted descriptor of queue pair q waits unfired without a completion, but for one whose commit unit is in progress (04 R124,
R128). -/
def squashed (t : State) (q : Nat) : Prop :=
  ∀ e ∈ t.entries, e.qp = q → e.fired = true ∨ e.cpl.isSome = true ∨ unitQueued t e.qp e.asn = true

/-- ADMIN of partition p and the OPER of every quarter that was its home (08 R254). -/
def planes (s t : State) (p admin oper : Nat) : Prop :=
  (partOf t p).admin = admin ∧ ∀ q ∈ homesOf s p, operIn t p q = oper

/-- A pending request of this object and value stands in slot n of the quorum store, and the path has been told its number
(10 R338, R339). -/
def proposed (s t : State) (path : Path) (idx sub : Nat) (v : List Byte) : Prop :=
  let no := s.dict.reqNo
  (∃ r, tblFind t.dict.reqs (no % 64) = some r ∧ r.reqNo = no ∧ r.index = idx ∧ r.sub = sub ∧ r.value = v ∧ r.state = 1 ∧
    r.digest = sha3_384 v ∧ r.expires = s.evr.opMs + objNat s 0x5200 0x03 900 * 1000 ∧ r.approvals = []) ∧
    t.dict.reqNo = no + 1 ∧ replied s t path 0x000C (leBytes 4 no)

/-- A new request of this object can be recorded: its slot and its object have none pending (10 R339). -/
def roomToPropose (s : State) (idx sub : Nat) (v : List Byte) : Prop :=
  ∀ x ∈ s.dict.reqs, x.2.state = 1 → x.1 ≠ s.dict.reqNo % 64 ∧
    ¬ (x.2.index = idx ∧ x.2.sub = sub ∧ x.2.scope = decidingScope s (scopeOfObj idx sub v))

/-- The decision on a fetched descriptor d of queue pair q, with the PKE tokens it would take (03 R76, R78, R79). -/
def decision (s : State) (q : Nat) (d : List Byte) : Admission × Nat :=
  let p := (qpOf s q).partition
  let fails := (earlyFail s p d).isSome
  let n := if fails then 0 else if dClass d = 0x08 ∨ dClass d = 0x09 then pkeCost d else 0
  (admission s q (dClass d) fails (!fails && ((rowOf s p d).map (fun r => r.se)).getD false) n, n)

/-- n bytes from an address on are asked of host memory for queue pair q or one of its descriptors: each request that they are cut into
is outstanding, or waits for a free tag (02 R33, R36). -/
def asked (s t : State) (q : Nat) (asn : Option Nat) (addr n : Nat) : Prop :=
  ∀ x ∈ cutDma n s.hif.maxRead addr n, ∃ r ∈ t.hif.reads ++ t.hif.readWait,
    r.qp = q ∧ r.asn = asn ∧ r.hdr.addr = x.1 ∧ r.len = x.2 ∧ r.hdr.func = (qpOf s q).func ∧ r.hdr.pasid = pasidOf (qpOf s q) ∧
      r.hdr.relaxed = false ∧ r.hdr.noSnoop = false

/-- Descriptor reads are outstanding for queue pair q at its next ASN, all sent, and fetching is permitted (02 R33, R43, R44). -/
def awaits (s : State) (q : Nat) : Prop :=
  q < 16384 ∧ (qpOf s q).fetching ≠ 0 ∧ readsSent s q none = true ∧ (qpOf s q).fetchAsn = (qpOf s q).next ∧ fetchPermitted s q = true

/-- It is the turn of partition p on the fill path of tile n (07 R235). -/
def fillTurn (s : State) (n p : Nat) : Prop :=
  rrNext (tmemOf s n).rrFill ((fillsPending s n).foldl (fun l x => insertAsc (qpOf s x.qp).partition l) []) = some p

/-- Each in-flight entry is found under its name. -/
def entriesNamed (s : State) : Prop := ∀ e ∈ s.entries, entryOf s e.qp e.asn = some e

/-- Descriptor (q, a) has fired in t: its deadline is never examined again (02 R61; 03 R93). -/
def hasFired (t : State) (q a : Nat) : Prop := ∃ x, entryOf t q a = some x ∧ x.fired = true ∧ x.deadline = none

/-- The mismatches counted for pair k of tile n (03 R98, R101). -/
def mismatches (s : State) (n k : Nat) : Nat := if k = 0 then (tileOf s n).mism0 else (tileOf s n).mism1

/-- Step i of descriptor (q, a), which was e, is done, and its other steps are as they were (03 R83, R95). -/
def stepOver (t : State) (q a i : Nat) (e : Entry) : Prop :=
  ∃ x, entryOf t q a = some x ∧ x.cpl = e.cpl ∧ (∀ y, x.steps[i]? = some y → y.state = 2) ∧
    ∀ j, j ≠ i → x.steps[j]? = e.steps[j]?

/-- The engine runs step i of descriptor (q, a). -/
def runsIn (r : Option StepRun) (q a i : Nat) : Prop := ∃ y, r = some y ∧ y.qp = q ∧ y.asn = a ∧ y.step = i

/-- Nothing waits in tile n to be issued again, and the tile is not fenced. -/
def noRetries (s : State) (n : Nat) : Prop := (tileOf s n).fenced = false ∧ ∀ x ∈ homedOn s n, x.retryOn = none

/-- Some tile other than n of the descriptor's quarter is in service and has not run it (03 R96). -/
def otherTile (s : State) (e : Entry) (n : Nat) : Prop := ∃ m ∈ tilesOf s e.quarter, m ≠ n ∧ m ∉ e.tilesRun

/-- Tile n has been fenced for a cause: erased, held by no unfinished descriptor, and its record waits for
the next tick (01 R21; 03 R99, R101). -/
def fencedFor (s t : State) (n cause : Nat) : Prop :=
  (tileOf t n).fenced = true ∧ (tileOf t n).fenceCause = cause ∧ (tmemOf t n).cache = [] ∧ (tmemOf t n).sens = [] ∧
    (tmemOf t n).tokens = [] ∧ t.hif.isr.getLsbD 5 = true ∧
    (∃ r ∈ t.evr.atTick, r.code = 0x3012 ∧ r.src = n) ∧ ∀ e ∈ homedOn s n, ∀ x, entryOf t e.qp e.asn = some x → x.tile = none

/-- Quarter q has failed for a cause: nothing in flight is left of it (03 R100). -/
def quarterFailed (t : State) (q cause : Nat) : Prop :=
  (quarterOf t q).failed = true ∧ (quarterOf t q).failCause = cause ∧ t.hif.isr.getLsbD 5 = true ∧
    ∀ e ∈ t.entries, e.quarter ≠ q

/-- A RANDOM descriptor whose turn may come: nothing has ended or parked it, and its lists have been read (13 R406, R407). -/
def randomWaits (s : State) (q a : Nat) (e : Entry) : Prop :=
  q < 16384 ∧ entryOf s q a = some e ∧ dCmd e.desc = 0x0A01 ∧ e.cpl = none ∧ e.park = .none ∧ unitQueued s q a = false ∧
    s.tamper.halt = false ∧ inputReady e = true

/-- The next n bytes of DRBG i (13 R398; log 13). -/
def nextBytes (s : State) (i n : Nat) : List Byte :=
  (List.range n).map (fun k => Config.randomByte i ((drbgOf s i).drawn + k))

/-- RANDOM has been served: its bytes are the result, or the output, and its commit unit waits (13 R406; 04 R110). -/
def randomServed (s t : State) (q a : Nat) (e : Entry) : Prop :=
  let b := nextBytes s e.quarter (dParamN e.desc % 2 ^ 14)
  let c : Cpl := if dSgl e.desc then listed [] b else Cpl.ok b
  answered t q a c ∧ unitWaits t q a c .none

/-- No DRBG is instantiated, and a start-up test runs or not (13 R402, R403). -/
def sourceIn (t : State) (state : Nat) (testing : Bool) : Prop :=
  t.rng.state = state ∧ t.rng.testing = testing ∧ ∀ i, (drbgOf t i).state = 0

/-- RANDOM descriptors on L7 have completed with RNG_BLOCKED and POISON, and those whose step waited for a random value with RNG_BLOCKED
(13 R403). -/
def readersReleased (s t : State) : Prop :=
  ∀ e ∈ s.entries, e.cpl = none → (∀ k m, e.park = .l7 k m → answered t e.qp e.asn { Cpl.fail 0x0006 0 with cflags := 2 }) ∧
    (onL7 e = false → e.rngWait = true → answered t e.qp e.asn (Cpl.fail 0x0006 0))

/-- The vector's message has been sent, or is pending while the vector is masked (02 R70). -/
def signalled (s t : State) (func vec : Nat) : Prop :=
  let k := func * 2048 + vec
  ((tblFind s.hif.msix k).map (fun v => v.masked) = some false → sentNow s t (.msix func vec)) ∧
    ((tblFind s.hif.msix k).map (fun v => v.masked) ≠ some false → ∃ v, tblFind t.hif.msix k = some v ∧ v.pending = true)

/-- A squash of queue pair q waits for in-flight entries, and takes those that others leave (03 R74; 04 R128). -/
def squashWaits (s : State) (q : Nat) : Bool :=
  s.qps.any (fun x => x.1 == q && operIn s x.2.partition x.2.home == 3 && squashLeft x.2 != 0)

/-- Bytes go to host memory from an address on for a queue pair, in requests of at most the payload the host programmed that cross no
4 KiB boundary (02 R33, R36). -/
def written (s t : State) (q : Qp) (relaxed : Bool) (addr : Nat) (data : List Byte) : Prop :=
  ∀ x ∈ cutDma data.length s.hif.maxPayload addr data.length, ∃ h, sentNow s t (.write h ((data.drop (x.1 - addr)).take x.2)) ∧
    h.addr = x.1 ∧ h.func = q.func ∧ h.pasid = pasidOf q ∧ h.relaxed = relaxed ∧ h.noSnoop = false

/-- No key operation is in progress and none waits (07 R243). -/
def noKeyOps (s : State) : Prop := s.vault.op = none ∧ s.vault.waiting = []

/-- The key operation that a path's action on the object's handle makes (07 R243). -/
def opOf (s : State) (path : Path) (module : Bool) (action : Nat) : KeyOp :=
  { handle := objNat s (if module then 0x5011 else 0x5010) 0x01 0, action := action, r := 0, module := module, retire := false,
    path := some path }

/-- The operation's key stands in slot i as r, nothing holds it back, and its change has a trusted line and no other writer (07 R223,
R229, R238, R240). -/
def canRevoke (s : State) (o : KeyOp) (i : Nat) (r : KeyRec) : Prop :=
  opRecord s o = some (i, r) ∧ heldBack s r = false ∧ (o.action = 1 → r.lgen < 65535) ∧ s.journal.isn ≠ 0 ∧
    (trustedCommit s i r).isSome = true

/-- Slot i holds r with LGEN raised and the next revocation number, which the vault, the tiles and all dispatchers know (07 R238). -/
def revoked (s t : State) (i : Nat) (r : KeyRec) : Prop :=
  slotOf t i = nextVersion s i { r with lgen := min 65535 (r.lgen + 1), revSeq := s.vault.rvs + 1 } ∧
    t.vault.rvs = s.vault.rvs + 1 ∧ (∀ q < 4, (quarterOf t q).rvs = s.vault.rvs + 1) ∧
    (∀ n < 16, (tmemOf t n).rvs = s.vault.rvs + 1) ∧ t.vault.op = none

/-- Slot i, whose handle was h, is free for the next generation, or retired at the last one or where retire says so, and no tile holds
the key (07 R214, R241). -/
def destroyed (s t : State) (i h : Nat) (retire : Bool) : Prop :=
  (slotOf t i).state = (if hGen h < 65535 ∧ retire = false then recFree else recRetired) ∧ slotLgen s i ≤ (slotOf t i).lgen ∧
    hGen (slotOf t i).handle = (if hGen h < 65535 then hGen h + 1 else hGen h) ∧ (slotOf t i).mat = [] ∧ t.vault.op = none ∧
    ∀ n, ∀ c ∈ (tmemOf t n).cache, c.name ≠ .key h

/-- s with the service engine changed by f. -/
def withSvc (s : State) (f : Svc → Svc) : State := { s with svc := f s.svc }

/-- The lock after a forced release: an operation of the holder ends as aborted (06 R195). -/
def forcedFree (v : Svc) : Svc :=
  { v with held := false, forced := true, op := none, status := if v.op.isSome then tblSet v.status v.owner 3 else v.status }

/-- No session is open for a number (10 R326). -/
def sessionEnded (t : State) (sid : Nat) : Prop := ∀ x ∈ t.fmp.sessions, x.sid ≠ sid

/-- A transfer toward a node has ended: one fewer is held (10 R322). -/
def transferEnded (s t : State) : Prop := t.fmp.tx.length + 1 = s.fmp.tx.length

/-- s without the set-up in progress of a node. -/
def withoutAttempt (s : State) (node : Nat) : State :=
  { s with fmp := { s.fmp with attempts := s.fmp.attempts.filter (fun x => x.node != node) } }

/-- The state once a request of an operation on an object has come in on a path (10 R325, R331). -/
def received (s : State) (path : Path) (op idx sub n : Nat) : State := setCur (touch s path n) path op idx sub

/-- The object that a request names exists, and the path has a role: a session that is open on a port not bus-off, or the request in the
mailbox that SUBMIT has sent (02 R56; 10 R319, R327, R331, R334). -/
def names (s : State) (path : Path) (op idx sub : Nat) (o : Obj) (r : Role) : Prop :=
  askerOf s path op idx sub = some r ∧ reqObj s path idx sub = .ok o

/-- A READ through the mailbox with FIRST and OFFSET as its buffer has them (10 R331). -/
def readAt (s : State) (path : Path) (first : Bool) (off : Nat) : Prop := path = .tunnel → mbxAt s first off = true

/-- The value's part that the first response carries (10 R332). -/
def firstPiece (path : Path) (v : List Byte) : List Byte := if path = .tunnel then v.take 2032 else v

/-- An object without a command of its own that only keeps its value (10 R327). -/
def keepsValue (path : Path) (idx sub : Nat) (v : List Byte) (s : State) : Prop :=
  (ownRow path idx sub v s).isNone = true ∧ applyObj s path idx sub v = setObj s idx sub v

/-- A value in one piece (10 R332). -/
def inOne (v : List Byte) : Piece := { first := true, last := true, offset := 0, total := v.length, value := v }

/-- The request in slot n of the quorum store has come to an end state with a result (10 R341, R349). -/
def requestEnded (t : State) (n : Nat) (r : QReq) (state result : Nat) : Prop :=
  tblFind t.dict.reqs n = some { r with state := state, result := result }

/-- The ceremony has been aborted: nothing of it is kept (10 R345). -/
def ceremonyAborted (t : State) : Prop :=
  t.dict.cer.state = 4 ∧ t.dict.cer.values = [] ∧ t.dict.cer.key = [] ∧ t.dict.cer.writers = []

/-- Custodian i of the scope of the ceremony in state n is on the path, and may write the object (10 R330, R349). -/
def ceremonyWriter (s : State) (path : Path) (sub : Nat) (v : List Byte) (n i : Nat) : Prop :=
  granted s path .rwb 0x5100 sub v ∧ custodianOf s path = some (s.dict.cer.scope, i) ∧ s.dict.cer.state = n

/-- Bits Pk, Sk or both of transition k have been burnt into the three copies and no other bit (11 R362, R363). -/
def burnt (s t : State) (m : Nat) : Prop :=
  t.life.otpA = s.life.otpA ||| BitVec.ofNat 32 m ∧ t.life.otpB = s.life.otpB ||| BitVec.ofNat 32 m ∧
    t.life.otpC = s.life.otpC ||| BitVec.ofNat 32 m

/-- The transition to state k is listed for the state in force and its conditions hold (11 R361, R369). -/
def mayTarget (s : State) (k : Nat) : Prop :=
  (k = lifeCycle s + 1 ∨ k = 6) ∧ s.life.zeroised = false ∧ (k = 3 → s.life.identity = 1 ∧ rostersUsable s = true)

/-- What the erasure of a transition takes (11 R364): keys, scripts, journal areas, configuration and requests. Nonce
reservations and incarnation counts stay. -/
def tenancyErased (s t : State) : Prop :=
  t.vault.slots = [] ∧ t.entries = [] ∧ t.ddr = s.ddr.filter (fun c => decide (scriptAreaEnd ≤ c.1)) ∧ t.journal.records = [] ∧
    t.dict.reqs = [] ∧ t.journal.nextA = s.journal.nextA ∧ t.journal.nextB = s.journal.nextB ∧
    ∀ p, partOf t p = { Part.reset with incarnation := (partOf s p).incarnation }

/-- After a sample with an event or without one, source i stands in alarm: MESH with the event or while its detector B lies beyond its
threshold, the others while K events lie within W (12 R380, R472). -/
def standsInAlarm (s : State) (i : Nat) (ev far : Bool) : Prop :=
  if i = 0 then ev = true ∨ far = true
  else ∃ t, (if ev then (s.now :: (srcT s i).history).take 15 else (srcT s i).history)[kOf s i - 1]? = some t ∧ s.now ≤ t + windowOf s i

/-- The state when a sample of source i has come: its period after the last one (12 R378). -/
def sampleDue (s : State) (i : Nat) : State := advanceTo s ((srcT s i).sampledAt + mainPeriod i)

/-- The rank that source i asks for, as it is executed: ALERT at most in TEST (12 R381, R383). -/
def rankFor (s : State) (i : Nat) : Nat := if lifeCycle s = 0 then min 1 (respOf s i) else respOf s i

/-- A response of rank r has been executed on main power (12 R382, R387). -/
def responded (s t : State) (r : Nat) : Prop :=
  (r < 2 → t.tamper.halt = s.tamper.halt ∧ t.vault = s.vault ∧ t.entries = s.entries) ∧
  (2 ≤ r → r ≤ 3 → t.tamper.halt = true ∧ t.tamper.latch = true ∧ (s.tamper.halt = false → t.hif.isr.getLsbD 2 = true)) ∧
  (r = 3 → t.vault.slots = [] ∧ t.fmp.sessions = [] ∧ t.life.scope = 0 ∧ t.tamper.restorePending = true ∧
    ∀ x ∈ t.tmem, x.2.cache = [] ∧ x.2.sens = [] ∧ x.2.tokens = []) ∧
  (r = 4 → t.vault.rs = none ∧ t.vault.kek = none ∧ t.life.bbram = false ∧ t.vault.slots = [] ∧ t.entries = [] ∧ t.qps = [] ∧
    t.dict.store = [] ∧ t.journal.records = [] ∧ ∀ p, partOf t p = Part.reset)

/-- The Nightside log holds a record of source i with the ranks asked and executed (12 R392). -/
def nightsideHas (t : State) (i asked rdone : Nat) (backup : Bool) : Prop :=
  ∃ x ∈ t.tamper.log, x.source = i ∧ x.asked = asked ∧ x.done = rdone ∧ x.backup = backup

/-- A sample without an event leaves source i out of alarm, or in the alarm it was in (12 R472). -/
def noAlarm (s : State) (i : Nat) (far : Bool) : Prop := ¬ standsInAlarm s i false far ∨ (srcT s i).alarm = true

/-- Both detectors of source i are plausible and report no excursion (12 R379). -/
def quietPair (i : Nat) (a b : Reading) : Prop :=
  a.plausible = true ∧ b.plausible = true ∧ excursion i false a = false ∧ excursion i true b = false

/-- Both detectors of source i are plausible and report an excursion (12 R379). -/
def loudPair (i : Nat) (a b : Reading) : Prop :=
  a.plausible = true ∧ b.plausible = true ∧ excursion i false a = true ∧ excursion i true b = true

/-- The burst that is due at u has a reading of each of its sources, and those but source k are quiet (12 R390). -/
def quietBurst (u : State) (l : List BurstReading) (k : Nat) : Prop :=
  ∀ i ∈ burstSources u, ∃ r, burstReading l i = some r ∧ (i ≠ k → quietPair i r.a r.b ∧ noAlarm u i false)

/-- What a mismatch of a shadow leaves where the response of LOGIC_INTEGRITY does not write it (12 R388, R389; 11 R366). -/
def restricted (s t : State) (g : ShadowGroup) : Prop :=
  match g with
  | .config i window => (if window then (srcT t i).wOk else (srcT t i).kOk) = false
  | .response i => (srcT t i).respOk = false
  | .latch => lifeCycle s ≠ 0 → t.tamper.latch = true ∧ (s.power.main = true → t.tamper.halt = true)
  | .restore => t.tamper.restorePending = true
  | .lifeCycle r v sh => (r = 0 → t.life.regA = v ∧ t.life.shA = sh) ∧ (r = 1 → t.life.regB = v ∧ t.life.shB = sh) ∧
      (r = 2 → t.life.regC = v ∧ t.life.shC = sh)
  | .bounds unit p => (unit, p) ∈ t.tamper.boundsBad
  | .keyTag n i => ∀ e, (tmemOf s n).cache[i]? = some e → e.pins = [] → (srcT (settleLogic s) 10).alarm = true →
      (tmemOf t n).cache = (tmemOf s n).cache.eraseIdx i

/-- Source i asks HALT or above and is in alarm, or had an event in the last second; or SENSOR_FAULT had one (12 R386). -/
def barsRelease (s : State) (i : Nat) : Prop :=
  (2 ≤ respOf s i ∧ (srcT s i).alarm = true) ∨
    ((2 ≤ respOf s i ∨ i = 9) ∧ ∃ h l, (srcT s i).history = h :: l ∧ s.now ≤ h + 1000000)

/-- One or two more records find room in the buffer and in the region, and one of this code a token (14 R417, R418, R420). -/
def roomToRecord (s : State) (code : Nat) : Prop :=
  s.evr.buffer.length < 254 ∧ s.evr.held.length + 256 ≤ 262144 ∧ 1000 ≤ (evRefill s (evLimitOf s code)).tokens

/-- The recorder has a record of this code with this data, not a carrier, in its buffer or its region (14 R411). -/
def recordedIn (t : State) (code : Nat) (data : List Byte) : Prop :=
  ∃ r ∈ t.evr.buffer ++ t.evr.held, r.code = code ∧ r.data = data ∧ r.carrier = false

/-- The state when the carrier of a code is due: 1 s after its last event, and once a token is there (14 R420). -/
def carrierDue (s : State) (code : Nat) : State :=
  let u := advanceTo s ((evLimitOf s code).lastEvent + 1000000)
  elapse u (tokenWait (evRefill u (evLimitOf u code)))

/-- The 14 bytes of an anchor (14 R422): WALL and PREV in ms, setter and kind. -/
def anchorData (wall prev setter kind : Nat) : List Byte := leBytes 6 wall ++ leBytes 6 prev ++ leBytes 1 setter ++ leBytes 1 kind

/-- The thresholds and the end-of-life grade planned from the ESR and capacitance of t (15 R431, R432). -/
def replanned (t : State) : Prop :=
  let r := restrOf t.power.esrUohm
  let full := energyAt t.power.capMf t.power.esrUohm 5400
  t.power.tRestr = r ∧ t.power.tOpen = 2 * r ∧ t.power.eol = (if 4 * r ≤ full then 0 else if 2 * r ≤ full then 1 else 2)

/-- The ceilings have taken one step down (15 R433). -/
def steppedDown (s t : State) : Prop :=
  if 600 < s.power.pCeil then t.power.pCeil = s.power.pCeil - 25 ∧ t.power.tCeil = s.power.tCeil
  else t.power.pCeil = s.power.pCeil ∧ t.power.tCeil = max 600 (min s.power.tCeil (planMax s) - 25)

/-- The ceilings have taken one step up, or stand at the top (15 R433). -/
def steppedUp (s t : State) : Prop :=
  if s.power.tCeil < planMax s then t.power.tCeil = s.power.tCeil + 25 ∧ t.power.pCeil = s.power.pCeil
  else t.power.tCeil = s.power.tCeil ∧ t.power.pCeil = (if s.power.pCeil < 1200 then s.power.pCeil + 25 else s.power.pCeil)

/-- The ceilings stand. -/
def ceilingsKept (s t : State) : Prop := t.power.tCeil = s.power.tCeil ∧ t.power.pCeil = s.power.pCeil

/-- The plan of every tile that is not in ECLIPSE (15 R440): the lowest rail voltage with its margin at the target TCLK, else
the top voltage at the highest step that has it. -/
def tilesPlanned (s t : State) : Prop :=
  (∀ n < 16, (tileOf s n).power ≠ 2 →
    (∀ v, planVoltFor s n (planTarget s n) = some v →
      (tileOf t n).planTclk = planTarget s n ∧ (tileOf t n).planVolt = v ∧ (tileOf t n).volt = max (tileOf s n).volt v) ∧
    (planVoltFor s n (planTarget s n) = none →
      (tileOf t n).planTclk = highestStep s n (planTarget s n) ∧ (tileOf t n).planVolt = 850)) ∧
  (∀ n < 16, (tileOf s n).power = 2 → tileOf t n = tileOf s n) ∧ t.therm.wearLast = t.evr.opMs

/-- s with tile n changed by f. -/
def withTile (s : State) (n : Nat) (f : Tile → Tile) : State := { s with tiles := tblSet s.tiles n (f (tileOf s n)) }

/-- Tile n has woken: it runs, or waits in WAKING for its quarter's DRBG, at its planned voltage and at the clocks that plan and
throttle leave, its stores empty (15 R437; 16 R450). -/
def woken (s t : State) (n : Nat) : Prop :=
  (tileOf t n).power = (if (drbgOf s (n / 4)).state = 1 then 0 else 3) ∧ (tileOf t n).volt = (tileOf s n).planVolt ∧ (tileOf t n).tclk = targetClk s n false ∧
    (tileOf t n).pclk = targetClk s n true ∧ (tmemOf t n).cache = [] ∧ (tmemOf t n).sens = [] ∧ (tmemOf t n).tokens = []

/-- Tile n alone may have changed of all tiles, to what f makes of it. -/
def tileBecomes (s t : State) (n : Nat) (f : Tile → Tile) : Prop :=
  tileOf t n = f (tileOf s n) ∧ ∀ m, m ≠ n → tileOf t m = tileOf s m

/-- The state once TAP instruction ir has shown the bytes b. -/
def shown (s : State) (ir : Nat) (b : List Byte) : State :=
  { s with test := { s.test with ir := ir }, bus := .tdo b :: s.bus }

/-- The offsets in the management complex for which the spec gives a register or the request area (06 R194; 10 R336; 11 R366;
12 R393). -/
def offsetGiven (o : Nat) : Prop :=
  (0x2000 ≤ o ∧ o < 0x2024) ∨ o ∈ [0x2030, 0x2034, 0x2040, 0x8010, 0x8020, 0x8024, 0x8100, 0x8104] ∨ (0xC000 ≤ o ∧ o < 0xD000)

/-- Every addressed memory is in canonical form (log 4): the DDR5, the request area, the mailbox's request buffer, and the
data and instruction memories of the cores. -/
def memoriesCanonical (s : State) : Prop :=
  Memory.wf s.ddr = true ∧ Memory.wf s.reqArea = true ∧ Memory.wf s.hif.mbx.reqBuf = true ∧
    ∀ c, Memory.wf (coreOf s c).mem = true ∧ Memory.wf (coreOf s c).code = true

/-- The bits of a, b and c are burnt in copies A, B and C of the OTP life-cycle word (11 R362). -/
def fusesBurnt (a b c : Word) (s : State) : Prop :=
  s.life.otpA &&& a = a ∧ s.life.otpB &&& b = b ∧ s.life.otpC &&& c = c

/-- The parts of State other than the queue of commands. -/
inductive Component where
  | now
  | free
  | bus
  | hif
  | qps
  | entries
  | quarters
  | tiles
  | tmem
  | parts
  | journal
  | vault
  | svc
  | cores
  | ddr
  | reqArea
  | evus
  | fmp
  | dict
  | life
  | fw
  | boot
  | tamper
  | rng
  | evr
  | power
  | therm
  | test
  | ident
  deriving DecidableEq, Repr

/-- A part is as it was. -/
def Component.same (s t : State) (k : Component) : Prop :=
  match k with
  | .now => t.now = s.now
  | .free => t.free = s.free
  | .bus => t.bus = s.bus
  | .hif => t.hif = s.hif
  | .qps => t.qps = s.qps
  | .entries => t.entries = s.entries
  | .quarters => t.quarters = s.quarters
  | .tiles => t.tiles = s.tiles
  | .tmem => t.tmem = s.tmem
  | .parts => t.parts = s.parts
  | .journal => t.journal = s.journal
  | .vault => t.vault = s.vault
  | .svc => t.svc = s.svc
  | .cores => t.cores = s.cores
  | .ddr => t.ddr = s.ddr
  | .reqArea => t.reqArea = s.reqArea
  | .evus => t.evus = s.evus
  | .fmp => t.fmp = s.fmp
  | .dict => t.dict = s.dict
  | .life => t.life = s.life
  | .fw => t.fw = s.fw
  | .boot => t.boot = s.boot
  | .tamper => t.tamper = s.tamper
  | .rng => t.rng = s.rng
  | .evr => t.evr = s.evr
  | .power => t.power = s.power
  | .therm => t.therm = s.therm
  | .test => t.test = s.test
  | .ident => t.ident = s.ident

/-- State t differs from s in the listed parts at most. -/
def SameBut (l : List Component) (s t : State) : Prop := ∀ k : Component, k ∉ l → k.same s t

/-- What letting time pass may change: the clocks, what the management plane's tick records and watches, and the cores that it resets (01 R22;
08 R254; 09 R306). -/
def timedComponents : List Component := [.now, .bus, .quarters, .tmem, .parts, .svc, .cores, .evus, .fmp, .rng, .evr]

/-- What answering a request may change: messages, the mailbox and interrupt registers, the management cores and their event
units, the management port and the dictionary (10 R324 to R330). -/
def answerComponents : List Component := [.bus, .hif, .cores, .evus, .fmp, .dict]

/-- What a descriptor holds: its entry, its quarter, its tile's store, its vault grants and lines, its script core and the handlers that end with
it; and the pauses in fetching that end with it (03 R76, R83; 09 R309). -/
def descriptorComponents : List Component := [.qps, .entries, .quarters, .tmem, .vault, .cores, .evus]

/-- What a record of the event recorder may change: its carrier is a frame of the management port (14 R413, R420). -/
def reportComponents : List Component := [.bus, .fmp, .evr]

/-- The parts of State that a command may change. What is not listed stays, whatever the operands and the state. -/
def mayChange (i : Instr) : List Component :=
  match i with
  | .powerGoodStart ..
    => answerComponents.append (descriptorComponents.append (reportComponents.append [.free, .tiles, .parts,
      .journal, .svc, .ddr, .life, .fw, .boot, .tamper, .rng, .power, .therm]))
  | .mainPowerLoss .. | .backupUndervoltage .. | .shadowMismatch ..
    => answerComponents.append (descriptorComponents.append (reportComponents.append [.tiles, .parts, .journal,
      .svc, .ddr, .reqArea, .life, .fw, .boot, .tamper, .rng, .power, .therm]))
  | .perstAssert .. | .pf0FunctionLevelReset ..
    => answerComponents.append (descriptorComponents.append (reportComponents.append [.tiles, .parts, .svc, .life,
      .rng, .power]))
  | .vfFunctionLevelReset .. => reportComponents.append [.hif, .qps, .cores, .evus]
  | .busMasterEnableSet .. => [.hif]
  | .atsInvalidation .. => [.bus, .hif]
  | .hifDbSqTail .. | .hifDbIrqCtl .. => [.bus, .hif, .qps]
  | .hifDbCqHead .. | .hifQpCtlEn .. | .cplErrClear .. | .queuePairRehome .. | .reseqRelease ..
    => descriptorComponents.append (reportComponents.append [.hif, .parts])
  | .rcRegisterRead .. => [.bus, .hif, .qps, .tiles, .svc]
  | .registerWrite .. | .suspend .. | .resume .. | .drain .. | .squash ..
    => answerComponents.append (descriptorComponents.append (reportComponents.append [.parts, .tamper]))
  | .create .. => answerComponents.append (reportComponents.append [.qps, .parts, .tamper])
  | .partRemove ..
    => answerComponents.append (reportComponents.append [.qps, .quarters, .tmem, .parts, .journal, .vault, .svc,
      .ddr, .tamper])
  | .drainDeadlineExpiry .. | .hostFabricSilence .. => timedComponents.append (descriptorComponents.append [.hif])
  | .partDisagree .. => timedComponents.append [.hif]
  | .tileDisagree .. | .bucketRefillExpiry .. | .svcLockTimeout .. | .fmpAckTimeout .. | .fmpPartialTimeout ..
  | .fmpHeartbeat .. | .fmpBusOff .. | .fmpHandshakeTimeout .. | .fmpLockoutEnd .. | .evrFlush .. | .evrAnchor ..
  | .opTimeSave .. | .rngEstimatePublish .. => timedComponents
  | .mbxSubmit .. => [.hif, .cores, .evus]
  | .mbxAbort .. => [.bus, .hif, .vault, .fmp, .dict]
  | .descriptorFetch .. => [.bus, .hif, .qps, .quarters, .boot]
  | .descriptorArrival .. => reportComponents.append [.hif, .qps, .entries, .quarters, .cores, .evus]
  | .descriptorHome .. => descriptorComponents.append [.bus, .hif, .parts]
  | .nonceBlockReserve .. => [.quarters, .journal]
  | .keyCachePinGrant .. | .vaultFill .. | .tenantScriptInvoke .. => descriptorComponents
  | .vaultGrant .. => [.entries]
  | .stepFire .. => [.free, .entries, .tiles, .tmem]
  | .laneStepDone .. | .keyCacheEccError ..
    => descriptorComponents.append (reportComponents.append [.hif, .tiles, .parts, .rng])
  | .pkeOplistDone .. => descriptorComponents.append (reportComponents.append [.free, .tiles, .rng])
  | .hashBlockDone .. | .tenantScriptLoad .. => descriptorComponents.append (reportComponents.append [.free])
  | .tokenArrival .. | .tileMatchingParity .. | .b .. | .call .. | .callr .. | .jmpr .. | .ret .. | .iret ..
  | .wfi .. | .mtc .. | .kop .. | .waitt .. | .rdt .. | .endOp .. | .abort ..
    => descriptorComponents.append (reportComponents.append [.free, .hif, .journal, .tamper])
  | .scriptBudgetExceeded .. | .aesEcbEnc .. | .aesEcbDec .. | .aesCbcEnc .. | .aesCbcDec .. | .aesCtr ..
  | .aesCtrHw .. | .aesGcmEnc .. | .aesGcmDec .. | .tdesEcbEnc .. | .tdesEcbDec .. | .tdesCbcEnc .. | .tdesCbcDec ..
  | .pinVerifyOffset .. | .pinVerifyPvv .. | .pinOffsetGenerate .. | .pvvGenerate .. | .dukptMacGenerate ..
  | .dukptMacVerify .. | .dukptEncrypt .. | .dukptDecrypt .. | .macAlg1Gen .. | .macAlg1Ver .. | .macAlg3Gen ..
  | .macAlg3Ver .. | .cmacGen .. | .cmacVer .. | .hmacGen .. | .hmacVer .. | .arqcVerify .. | .smMacGenerate ..
  | .smPinChange .. | .smDataEncipher .. | .cvcGenerate .. | .cvcVerify .. | .kbImport .. | .rklAccept ..
  | .hotpGenerate .. | .hotpVerify .. | .totpGenerate .. | .totpVerify .. | .lockerTokenIssue ..
  | .lockerTokenVerify .. | .rsaVerify .. | .rsaOaepDecrypt .. | .ecdsaVerify .. | .ecdhDerive .. | .ed25519Verify ..
  | .pkPublicExport .. | .pkPublicImport .. | .mlkemDecaps .. | .mldsaVerify .. | .slhdsaVerify ..
  | .pqPublicExport .. | .pqPublicImport .. | .sha256 .. | .sha384 .. | .sha512 .. | .sha3_256 .. | .sha3_384 ..
  | .sha3_512 .. | .shake128 .. | .shake256 .. | .attestModule .. | .attestPartition .. | .partInfo .. | .keyInfo ..
  | .tryCounterCreate .. | .tryCounterReset .. | .tryCounterRead .. => descriptorComponents.append [.journal]
  | .scriptCoreAssign .. => [.entries, .tmem, .cores, .evus]
  | .deadlineExpiry .. => timedComponents.append descriptorComponents
  | .retryBackoffExpiry .. => timedComponents.append [.entries]
  | .gateDeferralExpiry .. => timedComponents.append [.qps, .entries]
  | .rngDeferralTick .. => timedComponents.append (descriptorComponents.append [.journal])
  | .randomServe .. | .random .. => descriptorComponents.append [.parts, .journal, .rng]
  | .watchdogExpiry .. => timedComponents.append (descriptorComponents.append [.hif, .tiles])
  | .quarterStateError .. => descriptorComponents.append (reportComponents.append [.hif, .parts, .rng])
  | .coalTimeExpiry .. => timedComponents.append [.hif, .qps]
  | .flushingReadReturn .. => [.bus, .qps]
  | .watermarkBatch .. => timedComponents.append [.hif, .qps, .journal]
  | .commitUnit .. => [.entries, .parts, .journal, .vault]
  | .journalDeviceFail .. => reportComponents.append [.free, .hif, .journal, .cores, .evus, .tamper]
  | .checkpoint .. | .keyDestroyFree .. => reportComponents.append [.hif, .quarters, .tmem, .journal, .vault, .dict]
  | .keyOpAction .. | .modKeyOpAction ..
    => answerComponents.append (reportComponents.append [.quarters, .tmem, .journal, .vault])
  | .svcAcquire .. | .svcRelease .. | .svcForce .. | .svcCancel .. => [.svc]
  | .svcGrant .. | .svcOperationDone .. => [.svc, .cores, .evus]
  | .maskReseed .. | .clockStep .. => timedComponents.append [.tiles]
  | .pinTranslate .. | .dukptPinTranslate .. | .dukptIkExport .. | .kbExport .. | .kbGenerate .. | .rklBuild ..
  | .rsaSign .. | .rsaOaepEncrypt .. | .ecdsaSign .. | .ed25519Sign .. | .pkGenerate .. | .mlkemEncaps ..
  | .mldsaSign .. | .pqGenerate .. => descriptorComponents.append [.journal, .rng]
  | .nop .. | .add .. | .adc .. | .sub .. | .sbc .. | .and .. | .or .. | .xor .. | .andn .. | .shl .. | .shr ..
  | .sar .. | .ror .. | .rol .. | .mul .. | .mulhu .. | .mulhs .. | .divu .. | .divs .. | .remu .. | .rems ..
  | .cmp .. | .tst .. | .sel .. | .crcw .. | .addi .. | .andi .. | .ori .. | .xori .. | .shli .. | .shri ..
  | .sari .. | .rori .. | .cmpi .. | .movi .. | .movhi .. | .ldw .. | .ldh .. | .ldhs .. | .ldb .. | .ldbs ..
  | .stw .. | .sth .. | .stb .. | .mfc .. | .mov .. | .not .. | .neg .. | .push .. | .pop .. | .par .. | .parb ..
  | .brev .. | .brevb .. | .bswap .. | .luhn .. | .dect .. | .crcb ..
    => descriptorComponents.append (reportComponents.append [.free, .hif, .journal, .svc, .ddr, .reqArea, .tamper])
  | .rnd .. => descriptorComponents.append (reportComponents.append [.free, .hif, .journal, .tamper, .rng])
  | .kopEncBlock .. | .kopDecBlock .. | .kopCmacGen .. | .kopCmacVer .. | .kopHmacGen .. | .kopHmacVer ..
  | .pinOpen .. | .kdfCmac .. | .kbOpen .. | .kopHash .. | .pkeRun .. | .inRead .. => descriptorComponents.append [.tiles]
  | .pinSeal .. => descriptorComponents.append [.tiles, .rng]
  | .evuEvent .. | .evuPendSet .. => [.cores, .evus]
  | .fmpHello .. => [.bus, .cores, .evus, .fmp, .rng]
  | .fmpFinish .. => reportComponents.append [.vault, .svc, .cores, .evus, .dict]
  | .fmpAck .. => [.bus, .cores, .evus, .fmp]
  | .fmpDupNode .. => reportComponents.append [.cores, .evus]
  | .fmpIdleExpiry .. => timedComponents.append [.vault, .dict]
  | .fmpPortRestart .. | .close .. => answerComponents.append (reportComponents.append [.vault, .svc])
  | .read .. | .attStatement .. | .rngRawData .. | .evrRecords .. | .atbRaw .. => answerComponents.append [.free, .rng]
  | .write ..
    => answerComponents.append (descriptorComponents.append (reportComponents.append [.free, .tiles, .parts,
      .journal, .svc, .ddr, .life, .fw, .tamper, .rng, .therm]))
  | .info .. | .qrmApprove .. | .qrqWithdraw .. => answerComponents
  | .cancel .. => answerComponents.append [.vault]
  | .segmentTimeout .. | .cerTimeout .. => timedComponents.append [.dict]
  | .quorumExpiry ..
    => timedComponents.append (answerComponents.append (descriptorComponents.append [.tiles, .journal, .ddr, .life,
      .fw, .tamper]))
  | .cerOpen ..
    => answerComponents.append (descriptorComponents.append (reportComponents.append [.tiles, .parts, .journal,
      .svc, .ddr, .life, .fw, .tamper, .rng]))
  | .cerComponent .. | .cerAbort .. | .evrWallClock .. => answerComponents.append reportComponents
  | .cerConfirm .. => answerComponents.append (reportComponents.append [.journal, .vault])
  | .scriptImage .. => answerComponents.append [.parts, .ddr]
  | .scriptRemove .. => answerComponents.append [.parts]
  | .fwUpdStart .. | .fwUpdData .. => answerComponents.append (reportComponents.append [.fw])
  | .fwUpdActivate .. => answerComponents.append (reportComponents.append [.vault, .svc, .fw])
  | .fwReadyTimeout .. => timedComponents.append (answerComponents.append [.vault, .fw])
  | .fwSecverRaise .. => timedComponents.append [.fw]
  | .lcTarget .. => answerComponents.append [.life]
  | .lcTransition ..
    => answerComponents.append (descriptorComponents.append (reportComponents.append [.free, .tiles, .parts,
      .journal, .svc, .ddr, .life, .boot, .tamper, .rng]))
  | .dbgRequest .. => answerComponents.append [.life, .rng]
  | .dbgResponse ..
    => answerComponents.append (descriptorComponents.append (reportComponents.append [.parts, .journal, .svc, .ddr,
      .life, .tamper, .rng]))
  | .dbgClose .. => answerComponents.append (reportComponents.append [.life])
  | .dbgChallengeExpiry .. => timedComponents.append [.dict, .life]
  | .tamperSample .. | .nightsideBurst .. | .backupLoadTest ..
    => timedComponents.append (answerComponents.append (descriptorComponents.append [.tiles, .journal, .ddr,
      .reqArea, .life, .fw, .boot, .tamper, .power, .therm]))
  | .tmpHaltRelease ..
    => answerComponents.append (reportComponents.append [.quarters, .tiles, .tmem, .journal, .vault, .svc, .tamper,
      .rng])
  | .rngHealthFail .. => descriptorComponents.append (reportComponents.append [.hif, .life, .rng])
  | .conditionerBlock .. | .rngStartupTestDone ..
    => timedComponents.append (answerComponents.append (descriptorComponents.append [.free, .tiles, .journal, .ddr,
      .life, .boot, .tamper]))
  | .drbgReseed .. => answerComponents.append [.tiles, .tmem, .life, .rng]
  | .rngReseedStall .. => reportComponents.append [.cores, .evus, .rng]
  | .rngRestart .. => answerComponents.append [.rng]
  | .rngRawMode .. => answerComponents.append (descriptorComponents.append (reportComponents.append [.life, .rng]))
  | .evrCarrier .. => timedComponents.append [.free]
  | .recorderMemFail .. => reportComponents.append [.cores, .evus, .tamper]
  | .gateCompute .. => timedComponents.append [.hif, .power]
  | .capacitanceMeasure .. => reportComponents.append [.power]
  | .esrPulse .. | .powerCapCheck .. => timedComponents.append [.power]
  | .thermalPredict .. => timedComponents.append [.power, .therm]
  | .wearMeasure .. | .wearPlan .. => timedComponents.append [.tiles, .therm]
  | .wearPlanNow .. => answerComponents.append (reportComponents.append [.tiles, .therm])
  | .batReplaced .. => answerComponents.append [.therm]
  | .tilePower .. | .tileReset .. => answerComponents.append [.tiles, .tmem, .rng]
  | .eclipseDecision .. => [.tiles, .tmem, .cores, .evus]
  | .tileWake .. => [.tiles, .tmem, .cores, .rng]
  | .tileEnable .. => answerComponents.append [.tiles]
  | .measureDrift .. => reportComponents.append [.therm]
  | .bypass .. | .idcode .. | .avbAtb .. => [.bus, .test]
  | .samplePreload .. | .extest .. => [.free, .bus, .test]
  | .avbDbg .. => [.free, .bus, .hif, .quarters, .tmem, .vault, .svc, .cores, .ddr, .reqArea, .evus, .tamper, .test]
  | .perstDeassert .. | .linkRetraining .. => reportComponents.append [.hif, .cores, .evus]
  | .adminFollowsOper .. => timedComponents.append (descriptorComponents.append [.hif, .tamper])
  | .inputReadReturn .. => descriptorComponents.append [.bus, .hif]

/-- Command i is one that carries the descriptor at ASN a of queue pair q from its home to its completion (03 R80, R83, R85; 07 R234,
R235; 13 R401). -/
def ofDescriptor (q a : Nat) (r : ReadResult) (g : Engine) (i : Instr) : Prop :=
  i ∈ [.descriptorHome q a, .keyCachePinGrant q a, .vaultFill q a, .vaultGrant q a, .inputReadReturn q a r, .stepFire q a g,
    .tileMatchingParity q a none, .tenantScriptInvoke q a, .deadlineExpiry q a, .retryBackoffExpiry q a, .gateDeferralExpiry q a,
    .random q a, .randomServe q a]

/-- Command i is one of queue pair q other than its doorbells (02 R43, R50, R71; 03 R77, R102). -/
def ofQueuePair (q n hw : Nat) (v : Word) (f : FetchResult) (ok : Bool) (bad : Option Nat) (i : Instr) : Prop :=
  i ∈ [.hifQpCtlEn q v hw, .cplErrClear q ok, .descriptorFetch q n, .descriptorArrival q f, .reseqRelease q ok bad, .coalTimeExpiry q]

/-- Command i is one of tile n (01 R22; 06 R178; 15 R436, R437, R440, R441, R445, R447). -/
def ofTile (n v : Nat) (path : Path) (w : BitVec 3) (pke : Bool) (slack : List Int) (ro : List Nat) (i : Instr) : Prop :=
  i ∈ [.tileDisagree n, .maskReseed n, .clockStep n pke, .wearMeasure n slack ro, .eclipseDecision n w, .tileWake n w,
    .tilePower path n v, .tileReset path n, .tileEnable path n v]

/-- Command i creates or removes partition p, or is its disagreement or one of its scripts (08 R246, R254, R260, R266, R272). -/
def ofPartition (path : Path) (p slot : Nat) (image : List Byte) (i : Instr) : Prop :=
  i ∈ [.create path p, .partRemove path p, .partDisagree p, .scriptImage path p slot image, .scriptRemove path p slot]

/-- An entry but for the engine that a step of it waits for to be issued again (03 R105). -/
def Entry.unretried (e : Entry) : Entry := { e with retryOn := none }

/-- A queue pair but for its pause in fetching (03 R76). -/
def Qp.unpaused (q : Qp) : Qp := { q with paused := false }

/-- A tile's store but for the disagreement that the tick watches (01 R22). -/
def TileMem.unwatched (m : TileMem) : TileMem := { m with differSince := none, disagreed := false }

/-- A partition but for the disagreement that the tick watches (08 R254). -/
def Part.unwatched (p : Part) : Part := { p with differSince := none, disagree := false }

end Sys2Proof.Machine
end

