-- ==== Sys2Proof/Certificates/Slice0/Obligations.lean ====
section
/-!
DEFINITION. The statements for the provers, by the rules of spec/ they formalise.
-/

open Sys2Proof Sys2Proof.Machine

/-- A step takes the command at the front of the queue and answers what exec answers with the rest of the queue (the
model's queue, log 2). -/
def Obligations.StepRunsTheFrontCommand : Prop :=
  ∀ (s : State) (c : Instr) (rest : List Instr), s.pending = c :: rest →
    step s = exec c { s with pending := rest }

/-- With no command waiting a step answers next: one microsecond passes and the queue stays empty (the model's choice,
log 1). -/
def Obligations.IdleStepIsOneMicrosecond : Prop :=
  ∀ s : State, s.pending = [] → ∃ t, step s = .next t ∧ t.pending = [] ∧ t.now = s.now + 1

/-- No command changes the queue of waiting commands (the model's queue, log 2). -/
def Obligations.ExecLeavesTheQueueAlone : Prop :=
  ∀ (i : Instr) (s t : State), exec i s = .next t → t.pending = s.pending

/-- ADD, ADC, SUB, SBC and ADDI in their long forms: the result in rd and all four arithmetic flags (09 R291, R294). The
next state is the whole machine with nothing else of core c changed but its pc and its cycle counts. -/
def Obligations.SumsAndDifferencesSetAllFourFlags : Prop :=
  ∀ (s : State) (c : Nat) (rd ra rb : Reg) (imm : BitVec 14), Runs s c → named [rd, ra, rb] →
    let k := coreOf s c
    let a := reg k ra.toNat
    let b := reg k rb.toNat
    let i := imm.signExtend 32
    exec (.add c (.long rd ra rb)) s = .next (landed s c (resultCore k rd (a + b)
      (sumFlags (a + b) (decide (2 ^ 32 ≤ a.toNat + b.toNat)) (a.toInt + b.toInt)) 1)) ∧
    exec (.addi c (.long rd ra imm)) s = .next (landed s c (resultCore k rd (a + i)
      (sumFlags (a + i) (decide (2 ^ 32 ≤ a.toNat + i.toNat)) (a.toInt + imm.toInt)) 1)) ∧
    exec (.sub c (.long rd ra rb)) s = .next (landed s c (resultCore k rd (a - b)
      (sumFlags (a - b) (decide (b.toNat ≤ a.toNat)) (a.toInt - b.toInt)) 1)) ∧
    (k.ctl.c = true →
      exec (.adc c rd ra rb) s = .next (landed s c (resultCore k rd (a + b + 1)
        (sumFlags (a + b + 1) (decide (2 ^ 32 ≤ a.toNat + b.toNat + 1)) (a.toInt + b.toInt + 1)) 1)) ∧
      exec (.sbc c rd ra rb) s = .next (landed s c (resultCore k rd (a - b)
        (sumFlags (a - b) (decide (b.toNat ≤ a.toNat)) (a.toInt - b.toInt)) 1))) ∧
    (k.ctl.c = false →
      exec (.adc c rd ra rb) s = .next (landed s c (resultCore k rd (a + b)
        (sumFlags (a + b) (decide (2 ^ 32 ≤ a.toNat + b.toNat)) (a.toInt + b.toInt)) 1)) ∧
      exec (.sbc c rd ra rb) s = .next (landed s c (resultCore k rd (a - b - 1)
        (sumFlags (a - b - 1) (decide (b.toNat + 1 ≤ a.toNat)) (a.toInt - b.toInt - 1)) 1)))

/-- The logic operations and the multiplications in their long forms (09 R291, R294). -/
def Obligations.LogicAndProductsSetZeroAndNegative : Prop :=
  ∀ (s : State) (c : Nat) (rd ra rb : Reg) (imm : BitVec 14), Runs s c → named [rd, ra, rb] →
    let k := coreOf s c
    let a := reg k ra.toNat
    let b := reg k rb.toNat
    let i : Word := imm.zeroExtend 32
    let lands (x : Instr) (v : Word) (n : Nat) : Prop := exec x s = .next (landed s c (resultCore k rd v (znFlags v) n))
    lands (.and c (.long rd ra rb)) (a &&& b) 1 ∧ lands (.or c (.long rd ra rb)) (a ||| b) 1 ∧
    lands (.xor c (.long rd ra rb)) (a ^^^ b) 1 ∧ lands (.andn c rd ra rb) (a &&& ~~~b) 1 ∧
    lands (.andi c rd ra imm) (a &&& i) 1 ∧ lands (.ori c rd ra imm) (a ||| i) 1 ∧
    lands (.xori c rd ra imm) (a ^^^ i) 1 ∧ lands (.mul c rd ra rb) (a * b) 3 ∧
    lands (.mulhu c rd ra rb) (BitVec.ofNat 32 (a.toNat * b.toNat / 2 ^ 32)) 3 ∧
    lands (.mulhs c rd ra rb) (((a.signExtend 64 * b.signExtend 64) >>> 32).setWidth 32) 3

/-- SHL, SHR, SAR, ROR and ROL and the long immediate forms (09 R291, R295). -/
def Obligations.ShiftsAndRotatesFollowTheCount : Prop :=
  ∀ (s : State) (c : Nat) (rd ra rb : Reg) (imm : BitVec 14), Runs s c → named [rd, ra, rb] → imm.toNat < 32 →
    let k := coreOf s c
    let a := reg k ra.toNat
    let b := (reg k rb.toNat).toNat
    let i := imm.toNat
    let lands (x : Instr) (v : Word) (carry : Option Bool) : Prop :=
      exec x s = .next (landed s c (resultCore k rd v (shiftFlags v carry) 1))
    let left (n : Nat) : Option Bool :=
      if n = 0 then none else if 32 ≤ n then some false else some (a.getLsbD (32 - n))
    let turn (n : Nat) (bit : Bool) : Option Bool := if n % 32 = 0 then none else some bit
    lands (.shl c rd ra rb) (a <<< b) (left b) ∧ lands (.shli c (.long rd ra imm)) (a <<< i) (left i) ∧
    lands (.shr c rd ra rb) (a >>> b) (rightCarry a b false) ∧
    lands (.shri c (.long rd ra imm)) (a >>> i) (rightCarry a i false) ∧
    lands (.sar c rd ra rb) (a.sshiftRight b) (rightCarry a b a.msb) ∧
    lands (.sari c (.long rd ra imm)) (a.sshiftRight i) (rightCarry a i a.msb) ∧
    lands (.ror c rd ra rb) (a.rotateRight b) (turn b (a.rotateRight b).msb) ∧
    lands (.rori c (.long rd ra imm)) (a.rotateRight i) (turn i (a.rotateRight i).msb) ∧
    lands (.rol c rd ra rb) (a.rotateLeft b) (turn b ((a.rotateLeft b).getLsbD 0))

/-- The divisions: no pair of operands traps (09 R291, R295). -/
def Obligations.DivisionsNeverTrap : Prop :=
  ∀ (s : State) (c : Nat) (rd ra rb : Reg), Runs s c → named [rd, ra, rb] →
    let k := coreOf s c
    let a := reg k ra.toNat
    let b := reg k rb.toNat
    let lands (x : Instr) (v : Word) (ov : Bool) (dz : Option Bool) : Prop :=
      exec x s = .next (landed s c (resultCore k rd v { znFlags v with v := some ov, dz := dz } 34))
    (b = 0 → lands (.divu c rd ra rb) 0 false (some true) ∧ lands (.divs c rd ra rb) 0 false (some true) ∧
      lands (.remu c rd ra rb) a false (some true) ∧ lands (.rems c rd ra rb) a false (some true)) ∧
    (b ≠ 0 → lands (.divu c rd ra rb) (BitVec.ofNat 32 (a.toNat / b.toNat)) false none ∧
      lands (.remu c rd ra rb) (BitVec.ofNat 32 (a.toNat % b.toNat)) false none ∧
      lands (.divs c rd ra rb) (BitVec.ofInt 32 (a.toInt.tdiv b.toInt)) (decide (a.toInt = -2 ^ 31 ∧ b.toInt = -1)) none ∧
      lands (.rems c rd ra rb) (BitVec.ofInt 32 (a.toInt.tmod b.toInt)) (decide (a.toInt = -2 ^ 31 ∧ b.toInt = -1)) none)

/-- Compares, selection, moves, CRCW and NOP in their long forms (09 R291, R294, R296). -/
def Obligations.ComparesSelectsAndMoves : Prop :=
  ∀ (s : State) (c : Nat) (rd ra rb : Reg) (imm : BitVec 14) (i19 : BitVec 19) (i16 : BitVec 16), Runs s c →
    named [rd, ra, rb] →
    let k := coreOf s c
    let a := reg k ra.toNat
    let b := reg k rb.toNat
    let d := reg k rd.toNat
    let i : Word := imm.signExtend 32
    let writes (x : Instr) (v : Word) (n : Nat) : Prop :=
      exec x s = .next (landed s c (resultCore k rd v FlagSet.keep n))
    let sets (x : Instr) (f : FlagSet) : Prop := exec x s = .next (landed s c (flagCore k f 1))
    sets (.nop c .long) FlagSet.keep ∧
    sets (.cmp c (.long ra rb)) (sumFlags (a - b) (decide (b.toNat ≤ a.toNat)) (a.toInt - b.toInt)) ∧
    sets (.cmpi c ra imm) (sumFlags (a - i) (decide (i.toNat ≤ a.toNat)) (a.toInt - imm.toInt)) ∧
    sets (.tst c (.long ra rb)) (znFlags (a &&& b)) ∧
    writes (.sel c rd ra rb) (if k.ctl.z then a else b) 1 ∧
    writes (.movi c (.long rd i19)) (i19.signExtend 32) 1 ∧
    writes (.movhi c rd i16) (BitVec.ofNat 32 (i16.toNat * 2 ^ 16 + d.toNat % 2 ^ 16)) 1 ∧
    writes (.crcw c rd ra) (crcSteps k.ctl d [a.extractLsb' 0 8, a.extractLsb' 8 8, a.extractLsb' 16 8, a.extractLsb' 24 8]) 2

/-- The short operations that access no memory, each beside a NOP (09 R291, R292, R294 to R296). -/
def Obligations.ShortFormsDoWhatTheirRowSays : Prop :=
  ∀ (s : State) (c : Nat) (rd x : Reg) (i : BitVec 5), Runs s c → named [rd, x] →
    let k := coreOf s c
    let d := reg k rd.toNat
    let a := reg k x.toNat
    let writes (mk : ShortForm → Instr) (v : Word) (f : FlagSet) : Prop := inPair mk s c rd x (resultCore k rd v f 1)
    let sets (mk : ShortForm → Instr) (f : FlagSet) : Prop := inPair mk s c rd x (flagCore k f 1)
    let imm : Word := i.signExtend 32
    let n := i.toNat
    let writesI (mk : ShortForm → Instr) (v : Word) (f : FlagSet) : Prop := inPair mk s c rd i (resultCore k rd v f 1)
    let odd (n : Nat) (w : Word) : Bool := decide (((List.range n).countP (fun i => w.getLsbD i)) % 2 = 1)
    inPair (fun f => .nop c (.short f)) s c 0 0 (flagCore k FlagSet.keep 1) ∧
    writes (.mov c) a FlagSet.keep ∧
    writes (fun f => .add c (.short f)) (d + a) (sumFlags (d + a) (decide (2 ^ 32 ≤ d.toNat + a.toNat)) (d.toInt + a.toInt)) ∧
    writes (fun f => .sub c (.short f)) (d - a) (sumFlags (d - a) (decide (a.toNat ≤ d.toNat)) (d.toInt - a.toInt)) ∧
    writes (fun f => .and c (.short f)) (d &&& a) (znFlags (d &&& a)) ∧
    writes (fun f => .or c (.short f)) (d ||| a) (znFlags (d ||| a)) ∧
    writes (fun f => .xor c (.short f)) (d ^^^ a) (znFlags (d ^^^ a)) ∧
    writes (.not c) (~~~a) (znFlags (~~~a)) ∧
    writes (.neg c) (-a) (sumFlags (-a) (decide (a = 0)) (-a.toInt)) ∧
    sets (fun f => .cmp c (.short f)) (sumFlags (d - a) (decide (a.toNat ≤ d.toNat)) (d.toInt - a.toInt)) ∧
    sets (fun f => .tst c (.short f)) (znFlags (d &&& a)) ∧
    writesI (fun f => .addi c (.short f)) (d + imm)
      (sumFlags (d + imm) (decide (2 ^ 32 ≤ d.toNat + imm.toNat)) (d.toInt + i.toInt)) ∧
    writesI (fun f => .movi c (.short f)) imm FlagSet.keep ∧
    writesI (fun f => .shli c (.short f)) (d <<< n)
      (shiftFlags (d <<< n) (if n = 0 then none else some (d.getLsbD (32 - n)))) ∧
    writesI (fun f => .shri c (.short f)) (d >>> n) (shiftFlags (d >>> n) (rightCarry d n false)) ∧
    writesI (fun f => .sari c (.short f)) (d.sshiftRight n) (shiftFlags (d.sshiftRight n) (rightCarry d n d.msb)) ∧
    writesI (fun f => .rori c (.short f)) (d.rotateRight n)
      (shiftFlags (d.rotateRight n) (if n = 0 then none else some (d.rotateRight n).msb)) ∧
    writes (.par c) (BitVec.ofNat 32 (b2n (odd 32 a))) FlagSet.keep ∧
    writes (.parb c) (BitVec.ofNat 32 (b2n (odd 8 a) + 2 * b2n (odd 8 (a >>> 8)) + 4 * b2n (odd 8 (a >>> 16)) +
      8 * b2n (odd 8 (a >>> 24)))) FlagSet.keep ∧
    writes (.brev c) a.reverse FlagSet.keep ∧
    writes (.brevb c) (reversedByte a 24 ++ reversedByte a 16 ++ reversedByte a 8 ++ reversedByte a 0) FlagSet.keep ∧
    writes (.bswap c) (a.extractLsb' 0 8 ++ a.extractLsb' 8 8 ++ a.extractLsb' 16 8 ++ a.extractLsb' 24 8) FlagSet.keep ∧
    writes (.crcb c) (crcSteps k.ctl d [a.extractLsb' 0 8]) FlagSet.keep

/-- LUHN and DECT, each beside a NOP (09 R297, R298). -/
def Obligations.LuhnAndDecimalisationSteps : Prop :=
  (∀ (s : State) (c : Nat) (rd x : Reg), Runs s c → named [rd, x] →
    let k := coreOf s c
    let d := (reg k rd.toNat).toNat
    let digit := (reg k x.toNat).toNat % 16
    let sum := d % 16
    let odd := d / 16 % 2
    let d' := if odd = 1 ∧ 9 < 2 * digit then 2 * digit - 9 else if odd = 1 then 2 * digit else digit
    let e := (((k.ctl.decHi ++ k.ctl.decLo) >>> (4 * digit)).toNat) % 16
    inPair (.dect c) s c rd x (resultCore k rd (BitVec.ofNat 32 e) { FlagSet.keep with v := some (decide (9 < e)) } 1) ∧
    (9 < digit ∨ 9 < sum →
      inPair (.luhn c) s c rd x (flagCore k { FlagSet.keep with v := some true } 1)) ∧
    (digit ≤ 9 → sum ≤ 9 →
      inPair (.luhn c) s c rd x (resultCore k rd (BitVec.ofNat 32 ((sum + d') % 10 + 16 * (1 - odd)))
        { FlagSet.keep with v := some false } 1))) ∧
  (∀ i, 10 ≤ i → i < 16 →
    (((CoreCtl.reset.decHi ++ CoreCtl.reset.decLo) >>> (4 * i)).toNat) % 16 = i - 10)

/-- The check of independence of a pair, and what an independent pair of register operations does (09 R288, R289). -/
def Obligations.DependentPairsFaultBeforeAnythingElse : Prop :=
  ∀ (s : State) (c : Nat) (a b : Short) (i j : Instr), Runs s c →
    shortRow c a.sop.toNat (.slotA a.rd a.x b) = some i → shortRow c b.sop.toNat (.slotB a b.rd b.x) = some j →
    let dependent := (∃ r, writesReg a r ∧ writesReg b r) ∨ (∃ r, writesReg a r ∧ readsReg b r) ∨
      (∃ f, writesFlag a.sop.toNat f ∧ writesFlag b.sop.toNat f) ∨ (usesMemory a.sop.toNat ∧ usesMemory b.sop.toNat)
    (dependent → exec i s = .next (faulted s c 2) ∧ exec j s = .next (faulted s c 2)) ∧
    (¬ dependent → ¬ usesMemory a.sop.toNat → ¬ usesMemory b.sop.toNat → a.sop ≠ 0 → b.sop ≠ 0 →
      (∀ r, readsReg a r ∨ writesReg a r ∨ readsReg b r ∨ writesReg b r → r ≤ 24) →
      let k := coreOf s c
      ∃ ra rb, shortAlu k.ctl a.sop.toNat a.rd.toNat (reg k a.rd.toNat) (reg k a.x.toNat) a.x = some ra ∧
        shortAlu k.ctl b.sop.toNat b.rd.toNat (reg k b.rd.toNat) (reg k b.x.toNat) b.x = some rb ∧
        let k' := addCycles { writeRegs (writeRegs { k with ctl := rb.flags.apply (ra.flags.apply k.ctl) } ra.regs) rb.regs
          with pc := k.pc + 4 } 1
        exec i s = .next (landed s c k') ∧ exec j s = .next (landed s c k'))

/-- The loads from data memory (09 R278, R281, R291, R292). The clause on POP ds is the model's choice, log 38. -/
def Obligations.LoadsReadDataMemory : Prop :=
  ∀ (s : State) (c : Nat) (rd ra : Reg) (imm : BitVec 14), Runs s c → named [rd, ra] →
    let k := coreOf s c
    let m (i : Nat) : Byte := Memory.get k.mem i
    let a := accessAddr k ra imm
    let p := (reg k ra.toNat).toNat
    let lands (x : Instr) (v : Word) : Prop := exec x s = .next (landed s c (resultCore k rd v FlagSet.keep 2))
    (a % 4 = 0 → a < dataBytes c → lands (.ldw c (.long rd ra imm)) (m (a + 3) ++ m (a + 2) ++ m (a + 1) ++ m a)) ∧
    (a % 2 = 0 → a < dataBytes c →
      lands (.ldh c rd ra imm) ((m (a + 1) ++ m a).zeroExtend 32) ∧
      lands (.ldhs c rd ra imm) ((m (a + 1) ++ m a).signExtend 32)) ∧
    (a < dataBytes c →
      lands (.ldb c (.long rd ra imm)) ((m a).zeroExtend 32) ∧ lands (.ldbs c rd ra imm) ((m a).signExtend 32)) ∧
    (p % 4 = 0 → p < dataBytes c →
      inPair (fun f => .ldw c (.short f)) s c rd ra
        (resultCore k rd (m (p + 3) ++ m (p + 2) ++ m (p + 1) ++ m p) FlagSet.keep 2)) ∧
    (p < dataBytes c →
      inPair (fun f => .ldb c (.short f)) s c rd ra (resultCore k rd ((m p).zeroExtend 32) FlagSet.keep 2)) ∧
    (k.ds.toNat % 4 = 0 → k.ds.toNat < dataBytes c →
      inPair (.pop c) s c 24 0 (addCycles { k with ds := k.ds + 4, pc := k.pc + 4 } 2))

/-- The stores to data memory, with every byte of it (09 R281, R291, R292). -/
def Obligations.StoresChangeOnlyTheirBytes : Prop :=
  ∀ (s : State) (c : Nat) (rd ra : Reg) (imm : BitVec 14), Runs s c → named [rd, ra] →
    Memory.wf (coreOf s c).mem = true →
    let k := coreOf s c
    let a := accessAddr k ra imm
    let p := (reg k ra.toNat).toNat
    let d := reg k rd.toNat
    let stores (x : Instr) (at' n : Nat) : Prop :=
      ∃ m, Stored k.mem m at' n d ∧ exec x s = .next (landed s c { flagCore k FlagSet.keep 1 with mem := m })
    (a % 4 = 0 → a < dataBytes c → stores (.stw c (.long rd ra imm)) a 4) ∧
    (a % 2 = 0 → a < dataBytes c → stores (.sth c rd ra imm) a 2) ∧
    (a < dataBytes c → stores (.stb c (.long rd ra imm)) a 1) ∧
    (p % 4 = 0 → p < dataBytes c → stores (.stw c (.short (.slotA rd ra nopSlot))) p 4 ∧
      stores (.stw c (.short (.slotB nopSlot rd ra))) p 4) ∧
    (p < dataBytes c → stores (.stb c (.short (.slotA rd ra nopSlot))) p 1 ∧
      stores (.stb c (.short (.slotB nopSlot rd ra))) p 1)

/-- PUSH and POP (09 R286). What they store and load is rd, by 09 R292. -/
def Obligations.PushAndPopUseTheDataStack : Prop :=
  ∀ (s : State) (c : Nat) (rd : Reg), Runs s c → named [rd] → Memory.wf (coreOf s c).mem = true →
    let k := coreOf s c
    let ds := k.ds
    let m (i : Nat) : Byte := Memory.get k.mem i
    let p := ds.toNat
    let q := (ds - 4).toNat
    let faults (mk : ShortForm → Instr) (n : Nat) : Prop :=
      exec (mk (.slotA rd 0 nopSlot)) s = .next (faulted s c n) ∧ exec (mk (.slotB nopSlot rd 0)) s = .next (faulted s c n)
    (p % 4 ≠ 0 → faults (.push c) 5 ∧ faults (.pop c) 5) ∧
    (p % 4 = 0 → dataBytes c ≤ q → faults (.push c) 6) ∧
    (p % 4 = 0 → dataBytes c ≤ p → faults (.pop c) 6) ∧
    (p % 4 = 0 → q < dataBytes c → ∃ mem, Stored k.mem mem q 4 (reg k rd.toNat) ∧
      inPair (.push c) s c rd 0 (addCycles { k with ds := ds - 4, pc := k.pc + 4, mem := mem } 1)) ∧
    (p % 4 = 0 → p < dataBytes c → rd.toNat ≠ 24 →
      inPair (.pop c) s c rd 0 (addCycles { writeReg { k with ds := ds + 4 } rd.toNat
        (m (p + 3) ++ m (p + 2) ++ m (p + 1) ++ m p) with pc := k.pc + 4 } 2)) ∧
    (64 ≤ c → ∀ n, n = 5 ∨ n = 6 → (coreOf (faulted s c n) c).ds = ds)

/-- Where a load or a store faults by its address alone (09 R278, R281, R305). -/
def Obligations.AccessesOffTheMapFault : Prop :=
  ∀ (s : State) (c : Nat) (rd ra : Reg) (imm : BitVec 14) (i : Instr) (n : Nat), Runs s c → named [rd, ra] →
    (i, n) ∈ longAccesses c rd ra imm →
    let a := accessAddr (coreOf s c) ra imm
    (a % n ≠ 0 → exec i s = .next (faulted s c 5)) ∧
    (a % n = 0 → ¬ onMap c a → exec i s = .next (faulted s c 6)) ∧
    (a % n = 0 → c < 64 → c % 4 = 3 → 0x10000 ≤ a → a ≤ 0x10FFF → exec i s = .next (faulted s c 7))

/-- The branch (09 R293; its target and its cycles are those of 09 R291). -/
def Obligations.BranchTakesItsCondition : Prop :=
  ∀ (s : State) (c : Nat) (cond : BitVec 4) (disp : BitVec 20), Runs s c →
    let k := coreOf s c
    let holds : List Bool :=
      let z := k.ctl.z
      let n := k.ctl.n
      let cy := k.ctl.c
      let v := k.ctl.v
      [true, z, !z, cy, !cy, n, !n, v, !v, cy && !z, !cy || z, n == v, n != v, !z && n == v, z || n != v, k.ctl.dz]
    (holds[cond.toNat]? = some true →
      exec (.b c cond disp) s = .next (landed s c (addCycles { k with pc := k.pc + 4 * disp.signExtend 32 } 2))) ∧
    (holds[cond.toNat]? = some false →
      exec (.b c cond disp) s = .next (landed s c (addCycles { k with pc := k.pc + 4 } 1)))

/-- Calls, jumps by a register and returns (09 R285; the window's moves and cycles are those of 09 R283, R284, R291). -/
def Obligations.CallsAndReturnsMoveTheWindow : Prop :=
  ∀ (s : State) (c : Nat) (ra : Reg) (disp : BitVec 20), Runs s c → named [ra] →
    let k := coreOf s c
    let a := reg k ra.toNat
    (k.ret.length < 32 →
      (∃ k', Called k k' (k.pc + 4 * disp.signExtend 32) ∧ exec (.call c disp) s = .next (landed s c k')) ∧
      (∃ k', Called k k' a ∧ exec (.callr c ra) s = .next (landed s c k'))) ∧
    (32 ≤ k.ret.length →
      exec (.call c disp) s = .next (faulted s c 3) ∧ exec (.callr c ra) s = .next (faulted s c 3)) ∧
    exec (.jmpr c ra) s = .next (landed s c (addCycles { k with pc := a } 2)) ∧
    (∀ p rest, k.ret = p :: rest →
      exec (.ret c) s = .next (landed s c
        (addCycles { k with pc := p, ret := rest, f := k.f - 1, b := min k.b (k.f - 1) } (2 + 16 * (k.b - (k.f - 1)))))) ∧
    (k.ret = [] → exec (.ret c) s = .next (faulted s c 4))

/-- MFC and MTC over the whole table of control registers (09 R280). -/
def Obligations.ControlRegistersFollowTheirTable : Prop :=
  ∀ (s : State) (c : Nat) (rd ra cr : Reg), Runs s c → named [rd, ra] →
    let k := coreOf s c
    let n := cr.toNat
    (∀ v, mayReadCr c n → (controlWords k c)[n]? = some v →
      exec (.mfc c rd cr) s = .next (landed s c (resultCore k rd v FlagSet.keep 1))) ∧
    (mayWriteCr c n →
      exec (.mtc c cr ra) s = .next (landed s c
        (addCycles { k with pc := k.pc + 4, ctl := controlAfter k.ctl n (reg k ra.toNat) } 1))) ∧
    (n ≤ 13 → ¬ mayReadCr c n → exec (.mfc c rd cr) s = .next (faulted s c 7)) ∧
    (n ≤ 13 → ¬ mayWriteCr c n → exec (.mtc c cr ra) s = .next (faulted s c 7)) ∧
    (13 < n → exec (.mfc c rd cr) s = .next (faulted s c 1) ∧ exec (.mtc c cr ra) s = .next (faulted s c 1))

/-- IRET and WFI (09 R306, R311, R313, R314). The clause on IRET without a context is the model's reading (log 39). -/
def Obligations.ReturnFromInterruptRestoresTheContext : Prop :=
  ∀ (s : State) (c : Nat), Runs s c →
    let k := coreOf s c
    let u := (unitOf c).1
    let i := (unitOf c).2
    (c < 64 → c % 4 = 3 → exec (.iret c) s = .next (faulted s c 7) ∧ exec (.wfi c) s = .next (faulted s c 7)) ∧
    (¬ (c < 64 ∧ c % 4 = 3) →
      (deliverable s u i = none → exec (.wfi c) s = .next (landed s c (addCycles { k with wait := .wfi } 1))) ∧
      ((deliverable s u i).isSome = true →
        exec (.wfi c) s = .next (afterTimers s (deliverAll (modCore s c (fun _ => addCycles { k with pc := k.pc + 4 } 1)) u) c)) ∧
      (k.ictx = [] → exec (.iret c) s = .next (landed s c (addCycles { k with pc := k.pc + 4 } 2))) ∧
      (∀ x rest, k.ictx = x :: rest →
        (x.source = 256 →
          ∃ v, (coreOf v c).pc = k.ctl.faultPc ∧ (coreOf v c).ictx = rest ∧ (coreOf v c).f = k.f - 2 ∧
            flagsWord (coreOf v c).ctl = flagsWord (setFlagsWord k.ctl x.flags) ||| (flagsWord k.ctl &&& 16) ∧ (evuCoreOf v u i).runpri = x.runpri ∧
            (coreOf v c).mem = k.mem ∧ (coreOf v c).ctl.cycle = k.ctl.cycle + BitVec.ofNat 32 (2 + 16 * (k.b - (k.f - 2))) ∧
            exec (.iret c) s = .next (afterTimers s (deliverAll v u) c)) ∧
        (x.source ≠ 256 → selectSource (handlerEnded s c x) u i = none →
          ∃ v, (coreOf v c).pc = x.pc ∧ (coreOf v c).ictx = rest ∧ (coreOf v c).f = k.f - 2 ∧
            flagsWord (coreOf v c).ctl = flagsWord (setFlagsWord k.ctl x.flags) ||| (flagsWord k.ctl &&& 16) ∧ (evuCoreOf v u i).runpri = x.runpri ∧
            x.source ∉ (evuOf v u).active ∧ (coreOf v c).mem = k.mem ∧
            (coreOf v c).ctl.cycle = k.ctl.cycle + BitVec.ofNat 32 (2 + 16 * (k.b - (k.f - 2))) ∧
            exec (.iret c) s = .next (afterTimers s (deliverAll v u) c)) ∧
        (∀ n, x.source ≠ 256 → selectSource (handlerEnded s c x) u i = some n →
          ∃ v, (coreOf v c).pc = (evuCoreOf s u i).vbase + BitVec.ofNat 32 (16 * n) ∧
            (coreOf v c).ictx = { x with source := n } :: rest ∧ (coreOf v c).f = k.f ∧
            flagsWord (coreOf v c).ctl = flagsWord k.ctl ∧ (evuCoreOf v u i).runpri = (srcOf s u n).prio ∧
            (evuCoreOf v u i).cur = n ∧ n ∈ (evuOf v u).active ∧ (coreOf v c).mem = k.mem ∧
            (coreOf v c).ctl.cycle = k.ctl.cycle + 2 ∧ exec (.iret c) s = .next (afterTimers s (deliverAll v u) c))))

/-- Undefined registers and shift immediates (09 R290). -/
def Obligations.UndefinedRegistersFault : Prop :=
  ∀ (s : State) (c : Nat) (rd ra rb cr : Reg) (imm : BitVec 14) (i19 : BitVec 19) (i16 : BitVec 16), Runs s c →
    (∀ i l, (i, l) ∈ registerWords c rd ra rb imm i19 i16 → ¬ named l → exec i s = .next (faulted s c 1)) ∧
    (¬ named [rd, ra] → ∀ i n, (i, n) ∈ longAccesses c rd ra imm → exec i s = .next (faulted s c 1)) ∧
    (¬ named [rd] → exec (.mfc c rd cr) s = .next (faulted s c 1)) ∧
    (¬ named [ra] → exec (.mtc c cr ra) s = .next (faulted s c 1)) ∧
    (32 ≤ imm.toNat → ∀ i ∈ [Instr.shli c (.long rd ra imm), .shri c (.long rd ra imm), .sari c (.long rd ra imm),
      .rori c (.long rd ra imm)], exec i s = .next (faulted s c 1))

/-- The frame of the register operations of an Eloa core: the whole rest of the machine (09 R280, R291, R307). -/
def Obligations.RegisterWordsTouchNothingElse : Prop :=
  ∀ (s : State) (c : Nat) (rd ra rb cr : Reg) (imm : BitVec 14) (i19 : BitVec 19) (i16 : BitVec 16) (cond : BitVec 4)
    (disp : BitVec 20), Runs s c → named [rd, ra, rb] → imm.toNat < 32 → mayReadCr c cr.toNat → mayWriteCr c cr.toNat →
    0 < (coreOf s c).ret.length → (coreOf s c).ret.length < 32 →
    ∀ i t, i ∈ (registerWords c rd ra rb imm i19 i16).map (fun x => x.1) ++
        [.b c cond disp, .call c disp, .ret c, .mfc c rd cr, .mtc c cr ra, .nop c .long] → exec i s = .next t →
      { t with cores := s.cores, evus := s.evus } = s ∧
      ∀ d, (coreOf t d).mem = (coreOf s d).mem ∧ (coreOf t d).code = (coreOf s d).code ∧
        ((unitOf d).1 ≠ (unitOf c).1 → coreOf t d = coreOf s d) ∧
        (d ≠ c → (coreOf t d).g = (coreOf s d).g ∧ (coreOf t d).ds = (coreOf s d).ds ∧ (coreOf t d).ret = (coreOf s d).ret ∧
          flagBits (coreOf t d).ctl = flagBits (coreOf s d).ctl ∧ (coreOf t d).tickets = (coreOf s d).tickets ∧
          (coreOf t d).desc = (coreOf s d).desc)

/-- KOP: its checks in order and the step it issues (09 R299, R300, R305; 03 R87). The order of the checks and what the
reserved parts of a block are is the model's reading, log 40. -/
def Obligations.KopIssuesAStep : Prop :=
  ∀ (s : State) (c : Nat) (rd ra rb : Reg) (func : BitVec 9), Runs s c → named [rd, ra, rb] → ra.toNat % 2 = 0 →
    ra.toNat < 24 →
    let k := coreOf s c
    let a := (reg k rb.toNat).toNat
    let i := Instr.kop c rd ra rb func
    let key := (reg k ra.toNat).toNat + 2 ^ 32 * (reg k (ra.toNat + 1)).toNat
    let m (n : Nat) : Nat := (Memory.get k.mem (a + n)).toNat
    let opt (x : Nat) : Option Nat := if x = 0xFFFF then none else some x
    let block := (List.range 40).map (fun n => Memory.get k.mem (a + n))
    let tk : Ticket := { func := func.toNat, key := key, inA := opt (m 0 + 256 * m 1), inB := opt (m 2 + 256 * m 3),
                         inline := (block.drop 8).take (min 32 (m 4)), sensOut := decide (m 5 % 2 = 1),
                         param := m 6 + 256 * m 7, stage := 0, held := none, tok := none, arrived := false }
    (64 ≤ c → exec i s = .next (faulted s c 7)) ∧
    (c < 64 → 64 ≤ k.tickets.length → exec i s = .next (faulted s c 10)) ∧
    (c < 64 → k.tickets.length < 64 →
      (a % 8 ≠ 0 → exec i s = .next (faulted s c 5)) ∧
      (a % 8 = 0 → 0x2000 < a + 40 → exec i s = .next (faulted s c 6)) ∧
      (a % 8 = 0 → a + 40 ≤ 0x2000 →
        ((∃ n ∈ tk.waitsFor, k.tickets.length ≤ n) → exec i s = .next (faulted s c 8)) ∧
        ((∀ n ∈ tk.waitsFor, n < k.tickets.length) → kopArgsOk tk (decide (32 < m 4 ∨ 2 ≤ m 5)) = false →
          exec i s = .next (faulted s c 9)) ∧
        ((∀ n ∈ tk.waitsFor, n < k.tickets.length) → kopArgsOk tk (decide (32 < m 4 ∨ 2 ≤ m 5)) = true →
          (c % 4 ≠ 3 ∨ operandsHeld k + operandCount tk ≤ 16 →
            exec i s = .next (landed s c (resultCore { k with tickets := k.tickets ++ [tk] } rd
              (BitVec.ofNat 32 k.tickets.length) FlagSet.keep 11))) ∧
          (c % 4 = 3 → 16 < operandsHeld k + operandCount tk → exec i s = .next (afterTimers s s c)))))

/-- WAITT, RDT, RND and the arrival of a token (09 R301, R302, R315; 13 R398, R401). -/
def Obligations.TokensAndRandomWordsReachScripts : Prop :=
  (∀ (s : State) (c : Nat) (rd ra rb : Reg), Runs s c → named [rd, ra, rb] →
    let k := coreOf s c
    let i := (reg k ra.toNat).toNat
    let a := (reg k rb.toNat).toNat
    let d := if c < 64 then c / 16 else 4
    let x := (drbgOf s d).drawn
    let word := Config.randomByte d (x + 3) ++ Config.randomByte d (x + 2) ++ Config.randomByte d (x + 1) ++ Config.randomByte d x
    let rndOut (v : Word) (ov : Bool) : EloaCore := resultCore k rd v { FlagSet.keep with v := some ov } 1
    (64 ≤ c → exec (.waitt c rd ra) s = .next (faulted s c 7) ∧ exec (.rdt c rd ra rb) s = .next (faulted s c 7)) ∧
    (c < 64 → k.tickets.length ≤ i →
      exec (.waitt c rd ra) s = .next (faulted s c 8) ∧ exec (.rdt c rd ra rb) s = .next (faulted s c 8)) ∧
    (∀ tk tok, c < 64 → k.tickets[i]? = some tk → tk.tok = some tok → tk.arrived = true →
      exec (.waitt c rd ra) s = .next (landed s c (resultCore k rd
        (BitVec.ofNat 32 (tok.status + 2 ^ 16 * tok.value.length + 2 ^ 22 * tok.kind + 2 ^ 25 * b2n tok.sens))
        { FlagSet.keep with z := some (decide (tok.status = 0)) } 1)) ∧
      (tok.sens = true → exec (.rdt c rd ra rb) s = .next (landed s c (rndOut 0 true))) ∧
      (tok.sens = false → 0x2000 < a + tok.value.length → exec (.rdt c rd ra rb) s = .next (faulted s c 6)) ∧
      (tok.sens = false → a + tok.value.length ≤ 0x2000 →
        exec (.rdt c rd ra rb) s = .next (landed s c (resultCore { k with mem := Memory.write k.mem a tok.value } rd
          (BitVec.ofNat 32 tok.value.length) { FlagSet.keep with v := some false } (1 + (tok.value.length + 3) / 4))))) ∧
    (∀ tk, c < 64 → k.tickets[i]? = some tk → (tk.arrived = false ∨ tk.tok = none) →
      exec (.waitt c rd ra) s = .next (landed s c { k with wait := .waitt rd.toNat i }) ∧
      exec (.rdt c rd ra rb) s = .next (landed s c { k with wait := .rdt rd.toNat i a })) ∧
    ((drbgOf s d).state = 1 → (drbgOf s d).out < 2 ^ 30 →
      exec (.rnd c rd) s = .next (afterTimers s
        (modCore (modDrbg s d (fun y => y.take 4)) c (fun _ => { rndOut word false with drew := true })) c)) ∧
    ((drbgOf s d).state = 0 → s.rng.state = 2 ∨ s.rng.state = 3 →
      exec (.rnd c rd) s = .next (landed s c { rndOut 0 true with drew := true })) ∧
    ((drbgOf s d).state = 0 → s.rng.state ≠ 2 → s.rng.state ≠ 3 →
      exec (.rnd c rd) s = .next (landed s c { k with wait := .rnd rd.toNat, drew := true }))) ∧
  (∀ (s : State) (c i rd : Nat) (tk : Ticket) (tok : Token), c < 64 → (coreOf s c).tickets[i]? = some tk →
    tk.tok = some tok → tk.arrived = false → s.tamper.halt = false → (∀ n, (srcOf s (c / 4) n).mask = true) →
    (coreOf s c).wait = .waitt rd i →
    ∃ t, exec (.tokenArrival c i) s = .next t ∧
      (coreOf t c).tickets = (coreOf s c).tickets.set i { tk with arrived := true } ∧ (coreOf t c).wait = .none ∧
      (coreOf t c).pc = (coreOf s c).pc + 4 ∧ (coreOf t c).ctl.z = decide (tok.status = 0) ∧
      (rd < 25 → reg (coreOf t c) rd =
        BitVec.ofNat 32 (tok.status + 2 ^ 16 * tok.value.length + 2 ^ 22 * tok.kind + 2 ^ 25 * b2n tok.sens)))

/-- How a script ends by its own words or by its budget (08 R270, R271; 09 R303; 04 R111). -/
def Obligations.ScriptsEndWithOneCompletion : Prop :=
  (∀ (s : State) (c : Nat) (ra : Reg) (imm : BitVec 16) (e : Entry), Runs s c → named [ra] → coreHolds s c e →
    let k := coreOf s c
    let a := (reg k ra.toNat).toNat
    let m (n : Nat) : Nat := (Memory.get k.mem (a + n)).toNat
    let src := m 8 + 2 ^ 8 * m 9 + 2 ^ 16 * m 10 + 2 ^ 24 * m 11
    (∃ t, exec (.abort c imm) s = .next t ∧ scriptEnded s t c e false (Cpl.fail 0x83 imm.toNat)) ∧
    (a % 8 ≠ 0 → exec (.endOp c ra) s = .next (faulted s c 5)) ∧
    (a % 8 = 0 → 0x2000 < a + 16 → exec (.endOp c ra) s = .next (faulted s c 6)) ∧
    (a % 8 = 0 → a + 16 ≤ 0x2000 → (∃ tk ∈ k.tickets, tk.arrived = false) →
      exec (.endOp c ra) s = .next (landed s c (addCycles { k with wait := .endAt a } 4))) ∧
    (a % 8 = 0 → a + 16 ≤ 0x2000 → (∀ tk ∈ k.tickets, tk.arrived = true) → m 0 = 0 → m 1 = 0 → m 4 ≤ 32 → m 5 = 0 →
      m 6 = 0 → m 7 = 0 → (∀ n < 4, m (12 + n) = 0) → src + m 4 ≤ 0x2000 →
      ∃ t, exec (.endOp c ra) s = .next t ∧
        scriptEnded s t c e true { Cpl.ok ((List.range (m 4)).map (fun n => Memory.get k.mem (src + n))) with
                                   detail := m 2 + 256 * m 3 })) ∧
  (∀ (s : State) (c : Nat) (e : Entry), coreHolds s c e → c % 4 = 3 → (coreOf s c).ctl.budget = 0 →
    e.cpl = none →
    ∃ t, exec (.scriptBudgetExceeded c) s = .next t ∧ scriptEnded s t c e false (Cpl.fail 0x81 0))

/-- The functions of KOP (09 R299, R300; 03 R84, R85, R88; 05 R143, R159; 06 R206). Which registers an op-list's operands load is the
model's choice (log 82). -/
def Obligations.StepsEmitTheirToken : Prop :=
  (∀ (s : State) (c i func st : Nat) (e : Entry) (tk : Ticket) (x : Instr), c < 64 → kopReady s c i func = some (e, tk) →
    inputFailed (coreOf s c) tk = some st → (func, x) ∈ kopCommands c i → emitsStatus x s c i e st) ∧
  (∀ (s s' : State) (c i : Nat) (e : Entry) (tk : Ticket) (r : KeyRec),
    let ready (f : Nat) (n : KeyNeed) (alg : Nat → Bool) : Prop := kopMayFire s c i f e tk ∧ keyHeld s s' c i e tk n alg r
    let a := inputValue s' (coreOf s' c) e tk.inA
    let b := inputValue s' (coreOf s' c) e tk.inB
    let block := if tk.inA.isSome then a else tk.inline
    let text := a ++ tk.inline
    let n := tk.param % 256
    let quota := tblGet 0 (partOf s (qpOf s e.qp).partition).quota e.quarter
    let cipherAlg (x : Nat) : Bool := isTdes x || isAes x
    let hash (x : Nat) : (List Byte → List Byte) × Nat :=
      if x = 0 then (sha256, 64) else if x = 1 then (sha384, 128) else if x = 2 then (sha512, 128) else (sha3_256, 136)
    let mac : List Byte := (cmac r.cipher text).take n
    let keyed : List Byte := (hmac (hash (tk.param / 256)).1 (hash (tk.param / 256)).2 r.key text).take n
    (ready 0x001 (.use uEnc) cipherAlg → block.length = r.cipher.size →
      holdsValue (.kopEncBlock c i) s c i e (r.cipher.enc block)) ∧
    (ready 0x002 (.use uDec) cipherAlg → block.length = r.cipher.size → tk.sensOut = false →
      holdsValue (.kopDecBlock c i) s c i e (r.cipher.dec block)) ∧
    (ready 0x002 (.use uDec) cipherAlg → block.length = r.cipher.size → tk.sensOut = true →
      (tmemOf s' (e.tile.getD 0)).sens.length < 256 → holdsSens (.kopDecBlock c i) s c i e (r.cipher.dec block)) ∧
    (ready 0x010 (.use uMacGen) cipherAlg → text.length ≤ 32 → 4 ≤ n → n ≤ r.cipher.size →
      holdsValue (.kopCmacGen c i) s c i e mac) ∧
    (ready 0x011 (.use uMacVer) cipherAlg → text.length ≤ 32 → 4 ≤ n → n ≤ r.cipher.size →
      holdsStatus (.kopCmacVer c i) s c i e (if mac = b then 0 else 0x13)) ∧
    (ready 0x012 (.use uMacGen) (· == 0x20) → text.length ≤ 32 → 10 ≤ n → n ≤ 32 → tk.param / 256 ≤ 3 →
      holdsValue (.kopHmacGen c i) s c i e keyed) ∧
    (ready 0x013 (.use uMacVer) (· == 0x20) → text.length ≤ 32 → 10 ≤ n → n ≤ 32 → tk.param / 256 ≤ 3 →
      holdsStatus (.kopHmacVer c i) s c i e (if keyed = b then 0 else 0x13)) ∧
    (∀ pan, ready 0x020 KeyNeed.pinIn (fmtAlg tk.param) → kopPan tk.param (slice tk.inline 16 10) = some pan →
      let v := pinOpenField tk.param r.cipher pan (slice tk.inline 0 (fmtSize tk.param))
      pinFieldBad tk.param v = none → (tmemOf s' (e.tile.getD 0)).sens.length < 256 → holdsSens (.pinOpen c i) s c i e v) ∧
    (∀ pan, ready 0x021 KeyNeed.pinOut (fmtAlg tk.param) → sensIn s' c tk.inA = true → kopPan tk.param tk.inline = some pan →
      (nibbles (slice a 0 1)).getD 0 0 = tk.param → pinFieldBad tk.param a = none →
      holdsValue (.pinSeal c i) s c i e (pinSealField tk.param r.cipher pan a)) ∧
    (ready 0x030 (.use uDerive) cipherAlg → 2 ≤ quota →
      let derived : KeyRec := { r with handle := 0, usage := tk.param, exportRule := 0, parent := r.handle,
                                       anc := childAnc e.capture r,
                                       mat := fit r.keyLen (Config.pkBytes "KDF_CMAC" [r.key, tk.inline]) }
      let entry := stepEntry (qpOf s e.qp).partition e (.transient e.qp e.asn (i + 1)) derived
      (cacheFor s' e (fun m => { m with cache := entry :: m.cache })).isSome = true →
      holdsKey (.kdfCmac c i) s c i e (.transient e.qp e.asn (i + 1))) ∧
    (∀ o m, ready 0x040 (.use uUnwrap) (fun _ => true) → inputReady e = true → e.input = some o →
      let off := field tk.inline 0 4
      let blk := (o.data.drop off).take (blkLen (o.data.drop off))
      off + 16 ≤ o.data.length → blkLen blk ≤ blk.length →
      findBlock (tmemOf s' (e.tile.getD 0)) (qpOf s e.qp).partition r.handle (e.capture.getD 0) (sha3_256 blk) = some m →
      holdsKey (.kbOpen c i) s c i e m.name) ∧
    (ready 0x060 (oplistNeed tk.param) (fun _ => true) → tk.key ≠ 0 →
      runsOplist (.pkeRun c i) s i e [a, b, tk.inline])) ∧
  (∀ (s s' : State) (c i : Nat) (e : Entry) (tk : Ticket),
    let a := inputValue s (coreOf s c) e tk.inA
    let text := a ++ tk.inline
    let hashes : List (Nat × List Byte) := [(0x01, sha256 text), (0x02, sha384 text), (0x03, sha512 text),
      (0x11, sha3_256 text), (0x12, sha3_384 text), (0x13, sha3_512 text), (0x21, shake128 text 32), (0x22, shake256 text 32)]
    let ready (f : Nat) : Prop := kopMayFire s c i f e tk ∧ engineTakes s s' c i e tk
    (∀ h, ready 0x050 → (tk.param, h) ∈ hashes → (∀ j, tk.inA = some j → (tokenOf s c j).map (·.sens) = some false) →
      holdsValue (.kopHash c i) s c i e h) ∧
    (ready 0x060 → tk.key = 0 → runsOplist (.pkeRun c i) s i e [a, inputValue s (coreOf s c) e tk.inB, tk.inline]) ∧
    (∀ o, ready 0x070 → inputReady e = true → e.input = some o → field tk.inline 0 4 + tk.param ≤ o.data.length →
      emitsValue (.inRead c i) s c i e ((o.data.drop (field tk.inline 0 4)).take tk.param)) ∧
    (∀ o, ready 0x070 → inputReady e = true → e.input = some o → o.data.length < field tk.inline 0 4 + tk.param →
      emitsStatus (.inRead c i) s c i e 0x09))

/-- EVU_EVENT and EVU_PEND_SET (09 R308 to R312). -/
def Obligations.EventsBecomePendingAndAreDelivered : Prop :=
  (∀ (s : State) (u n : Nat) (level : Bool), u < 16 → n < 0x0C → allMasked s u → (evuOf s u).pend.Pairwise (· < ·) →
    let x := srcOf s u n
    let old := x.level
    let edge := (x.sense = 2 ∧ old = false ∧ level = true) ∨ (x.sense = 3 ∧ old = true ∧ level = false) ∨
      (x.sense = 4 ∧ old ≠ level)
    let on (l : Bool) := (x.sense = 0 ∧ l = true) ∨ (x.sense = 1 ∧ l = false)
    ∃ t, exec (.evuEvent u n level) s = .next t ∧ srcOf t u n = { x with level := level } ∧
      ((edge ∨ on level) → n ∈ (evuOf t u).pend) ∧ (on old → ¬ on level → n ∉ (evuOf t u).pend) ∧
      (¬ edge → ¬ on old → ¬ on level → (n ∈ (evuOf t u).pend ↔ n ∈ (evuOf s u).pend))) ∧
  (∀ (s : State) (c k n : Nat) (v : Word), c < 64 → c % 4 ≠ 3 → allMasked s (c / 4) → k < 2 → n < 32 →
    v.getLsbD n = true → sourceListed (c / 4) (32 * k + n) = true → (srcOf s (c / 4) (32 * k + n)).sense ≤ 4 →
    ∃ t, exec (.evuPendSet c k v) s = .next t ∧ 32 * k + n ∈ (evuOf t (c / 4)).pend) ∧
  (∀ (s : State) (u j n : Nat) (old : EloaCore), u < 16 → j < 3 → n < 0x0C → old = coreOf s (4 * u + j) →
    old.stopped = false → old.dbg = 0 → old.desc.isSome = true → (∀ a, old.wait ≠ .endAt a) → (evuOf s u).pend = [] → n ∉ (evuOf s u).active →
    (∀ i, i ≠ n → 2 ≤ (srcOf s u i).sense ∧ (srcOf s u i).mask = true) →
    let x := srcOf s u n
    let r := evuCoreOf s u j
    x.sense = 2 → x.level = false → x.mask = false → x.target = j → r.runpri = 31 → r.thresh < x.prio →
    ∃ t, exec (.evuEvent u n true) s = .next t ∧
      let k := coreOf t (4 * u + j)
      k.pc = r.vbase + BitVec.ofNat 32 (16 * n) ∧
      k.ictx = { pc := old.pc, flags := BitVec.ofNat 32 (flagBits old.ctl), f := old.f, runpri := 31, source := n } :: old.ictx ∧
      k.f = old.f + 2 ∧ k.wait = .none ∧ n ∈ (evuOf t u).active ∧ (n ≠ 4 + j → n ≠ 8 + j → n ∉ (evuOf t u).pend) ∧
      (evuCoreOf t u j).runpri = x.prio ∧ (evuCoreOf t u j).cur = n)

/-- What a data command's work ends in is posted (02 R62, R68; 03 R85; 04 R110, R111, R117; 13 R401). -/
def Obligations.DataCommandsAreAnswered : Prop :=
  ∀ (s : State) (q a : Nat) (e : Entry) (x : DataRow), x ∈ dataRows → dataReady s q a x.code e →
    ∀ v r u, takeEngine s e = some v → x.work v (ctxOf v e) = (r, u) →
      ∃ t, exec (x.cmd q a) s = .next t ∧
        (match r with
        | .fail st det => answered t q a (Cpl.fail st det) ∧ (entryOf t q a).map (fun y => y.committed) = some true ∧
            t.journal = u.journal
        | .fin c => answered t q a c ∧ (entryOf t q a).map (fun y => y.committed) = some true ∧ t.journal = u.journal
        | .commit c eff => answered t q a c ∧ (entryOf t q a).map (fun y => y.committed) = some false ∧
            (match eff with
            | .nonceUse _ b i => unitWaits t q a c (.nonceUse (e.quarter * 16384 + nextUse u e.quarter) b i)
            | _ => unitWaits t q a c eff)
        | .wait => (entryOf t q a).map (fun y => (y.rngWait, y.cpl)) = some (true, none) ∧ t.journal = s.journal)

/-- The commands of class 0x01 (06 R180 to R182, R187). -/
def Obligations.CipherCommandsApplyTheirMode : Prop :=
  ∀ (s : State) (q a : Nat) (e : Entry) (o : Operands) (code : Nat), dataReady s q a code e → unusedZero e.desc →
    let d := e.desc
    let p := (qpOf s e.qp).partition
    let k := (keyAt s (ctxOf s e) 0).cipher
    let n := dParamN d
    let tag := n / 256
    let aad := field d 0x7C 4
    let nonce := hardwareNonce s p (e.nonce.getD 0)
    let counter (x : List Byte) : List Byte := nonce ++ ctrMode k (nonce ++ zeros 4) x
    let used : Prop := e.nonce.isSome
    (∀ x iv lo f, (x, code, iv, lo, f) ∈ plainModes q a k → dSgl d = false → lo ≤ n → n ≤ 32 → dInLen d = iv + n →
      (iv ≠ 0 → zeroAt d (0x40 + k.size) (0x40 + iv) = true) → (code ≠ 0x0105 → n % k.size = 0) →
      posts x s q a (Cpl.ok (f (slice d 0x40 iv) (slice d (0x40 + iv) n)))) ∧
    (∀ x iv lo f, (x, code, iv, lo, f) ∈ plainModes q a k → dSgl d = true → n = 0 → e.input = some o → o.data ≠ [] →
      (iv ≠ 0 → zeroAt d (0x60 + k.size) (0x60 + iv) = true) → zeroAt d (0x60 + iv) 0x80 = true →
      (code ≠ 0x0105 → o.data.length % k.size = 0) → o.data.length ≤ dOutTotal d →
      posts x s q a (listed [] (f (slice d 0x60 iv) o.data))) ∧
    (code = 0x0106 → used → dSgl d = false → 1 ≤ n → n ≤ 16 → dInLen d = n →
      ∃ t, exec (.aesCtrHw q a) s = .next t ∧ answered t q a (Cpl.ok (counter (slice d 0x40 n))) ∧
        unitWaits t q a (Cpl.ok (counter (slice d 0x40 n)))
          (.nonceUse (e.quarter * 16384 + nextUse s e.quarter) e.asn 0)) ∧
    (code = 0x0106 → used → dSgl d = true → n = 0 → e.input = some o → o.data ≠ [] → o.data.length ≤ 8192 →
      o.data.length ≤ dOutTotal d → zeroAt d 0x60 0x80 = true →
      posts (.aesCtrHw q a) s q a (listed nonce (ctrMode k (nonce ++ zeros 4) o.data))) ∧
    (code = 0x0107 → used → dSgl d = true → n = 256 * tag → 12 ≤ tag → tag ≤ 16 → e.input = some o → aad ≤ 2 ^ 20 →
      aad ≤ o.data.length → o.data.length - aad ≤ 8192 → o.data.length - aad ≤ dOutTotal d → zeroAt d 0x60 0x7C = true →
      let c := gcmCrypt k nonce (o.data.drop aad)
      posts (.aesGcmEnc q a) s q a (listed (nonce ++ (gcmTag k nonce (o.data.take aad) c).take tag) c)) ∧
    (code = 0x0108 → dSgl d = true → n = 256 * tag → 12 ≤ tag → tag ≤ 16 → e.input = some o → aad ≤ 2 ^ 20 →
      aad ≤ o.data.length → o.data.length - aad ≤ dOutTotal d → zeroAt d (0x60 + tag) 0x70 = true →
      let iv := slice d 0x70 12
      let agrees := (gcmTag k iv (o.data.take aad) (o.data.drop aad)).take tag = slice d 0x60 tag
      (agrees → posts (.aesGcmDec q a) s q a (listed [] (gcmCrypt k iv (o.data.drop aad)))) ∧
      (¬ agrees → posts (.aesGcmDec q a) s q a { Cpl.fail 0x13 0 with out := zeros (dOutTotal d) }))

/-- The MAC and hash commands (05 R159, R160; 06 R192; 02 R68). -/
def Obligations.MacsAndHashesAnswerTheirDigest : Prop :=
  (∀ (s : State) (q a code : Nat) (e : Entry) (n len pad h : Nat), dataReady s q a code e → unusedZero e.desc → n < 256 →
    len < 256 → dParamN e.desc = n + 2 ^ 8 * len + 2 ^ 16 * pad + 2 ^ 20 * h → (dSgl e.desc = true → n = 0) →
    ∀ gen cg ver cv lo hi maxPad maxHash mac,
      (gen, cg, ver, cv, lo, hi, maxPad, maxHash, mac) ∈ macTable q a (keyAt s (ctxOf s e) 0) → lo ≤ len → len ≤ hi →
      pad ≤ maxPad → h ≤ maxHash →
      let d := e.desc
      let m := messageOf e n
      let t := (mac pad h m).take len
      let given := if dSgl d then slice d 0x60 len else slice d (0x40 + n) len
      (code = cg → (dSgl d = false → dInLen d = n) → (dSgl d = true → zeroAt d 0x60 0x80 = true) →
        posts gen s q a (Cpl.ok t)) ∧
      (code = cv → (dSgl d = false → dInLen d = n + len) → (dSgl d = true → zeroAt d (0x60 + len) 0x80 = true) →
        (t = given → posts ver s q a (Cpl.ok [])) ∧ (t ≠ given → posts ver s q a (Cpl.fail 0x13 0)))) ∧
  (∀ (s : State) (q a code : Nat) (e : Entry) (n out : Nat), dataReady s q a code e → unusedZero e.desc → n < 256 →
    out < 2 ^ 13 → dParamN e.desc = n + 2 ^ 8 * out → (dSgl e.desc = true → n = 0) → (dSgl e.desc = false → dInLen e.desc = n) →
    ∀ x len f, (x, code, len, f) ∈ hashTable q a → (len = 0 → 1 ≤ out ∧ out ≤ 4096) → (len ≠ 0 → out = 0) →
      let l := if len = 0 then out else len
      let digest := f (messageOf e n) l
      let room := if dSgl e.desc then dOutTotal e.desc else 0
      (l ≤ 32 → posts x s q a (Cpl.ok digest)) ∧
      (32 < l → digest.length ≤ room → posts x s q a (listed [] digest)) ∧
      (32 < l → room < digest.length → posts x s q a (Cpl.fail 0x0A 0)))

/-- The commands of the PCIe functions and the link (02 R32, R37, R38, R46, R49, R53; 04 R120; 17 R459). -/
def Obligations.ResetsAndTheLinkLeaveWhatTheySay : Prop :=
  (∀ s : State, ∃ t, exec .pf0FunctionLevelReset s = .next t ∧ hostForgotten t) ∧
  (∀ s : State, s.hif.perst = false → ∃ t, exec .perstAssert s = .next t ∧ t.hif.perst = true ∧ t.hif.linkUp = false ∧
    (s.power.main = true → hostForgotten t)) ∧
  (∀ (s : State) (vf : Nat), 1 ≤ vf → vf ≤ 255 →
    (∃ t, exec (.vfFunctionLevelReset vf) s = .next t ∧ tblGet false t.hif.bme vf = false ∧ tblGet false t.hif.ats vf = false ∧
      (∀ v, v ≠ vf → tblGet false t.hif.bme v = tblGet false s.hif.bme v ∧ tblGet false t.hif.ats v = tblGet false s.hif.ats v) ∧
      (∀ i < 2048, tblFind t.hif.msix (vf * 2048 + i) = none) ∧
      (∀ q, qpOf t q = (let x := qpOf s q
        if x.assigned ∧ x.func = vf then
          { x with tail := x.wm % 2 ^ 32, cqHead := x.wm % 2 ^ 32, irqMask := false, badDb := 0, badFetch := 0,
                   cplErr := false, tailWritten := false, headWritten := false, fetching := 0, paused := false,
                   pendCount := 0, pendSince := 0, replaying := false }
        else x)) ∧
      (s.hif.replayActive = false → { t with qps := s.qps, hif := s.hif } = s ∧
        { t.hif with bme := s.hif.bme, ats := s.hif.ats, msix := s.hif.msix } = s.hif)) ∧
    (∃ t, exec (.busMasterEnableSet vf) s = .next t ∧ { t with hif := s.hif } = s ∧ { t.hif with bme := s.hif.bme } = s.hif ∧
      tblGet false t.hif.bme vf = true ∧ ∀ v, v ≠ vf → tblGet false t.hif.bme v = tblGet false s.hif.bme v)) ∧
  (∀ (s : State) (f p : Nat), f ≤ 255 → s.hif.invals.length < 32 →
    let used := ∃ r ∈ s.hif.readWait, r.hdr.translated = true ∧ r.hdr.func = f ∧ r.hdr.addr / 4096 = p
    ∃ t, exec (.atsInvalidation f p) s = .next t ∧
      t.hif.atc = s.hif.atc.filter (fun x => !(x.func == f && x.page == p)) ∧
      (¬ used → sentNow s t (.atsDone f p) ∧ (f, p) ∉ t.hif.invals) ∧ (used → (f, p) ∈ t.hif.invals)) ∧
  (∀ (s : State) (speed width : Nat), 1 ≤ speed → speed ≤ 5 → width ∈ [1, 2, 4, 8, 16] → s.power.main = true →
    (s.hif.perst = true → ∃ t, exec (.perstDeassert speed width) s = .next t ∧ trained s t speed width ∧
      t.hif.retrains = s.hif.retrains) ∧
    (s.hif.perst = false → ∃ t, exec (.linkRetraining speed width) s = .next t ∧ trained s t speed width ∧
      t.hif.retrains = (s.hif.retrains + 1) % 2 ^ 32))

/-- MAIN_POWER_LOSS and POWER_GOOD_START (04 R120, R132; 11 R355, R356, R365; 12 R385, R391; 13 R402; 14 R413). -/
def Obligations.PowerLossAndStartUpKeepWhatIsHeld : Prop :=
  (∀ (s : State) (returned : List (Nat × Option Nat)), s.power.main = true →
    ∃ t, exec (.mainPowerLoss returned) s = .next t ∧ t.power.main = false ∧ t.power.lostAt = s.now ∧ t.entries = [] ∧
      t.journal.units = [] ∧ t.journal.cleanMark = true ∧ t.evr.buffer = [] ∧ t.evr.saved = s.evr.opMs ∧ t.cores = [] ∧
      t.ddr = [] ∧ t.reqArea = [] ∧ t.hif = { Hif.reset with perst := true } ∧ t.vault.slots = [] ∧ t.boot.booted = false ∧
      t.fmp.sessions = [] ∧ t.life.scope = 0 ∧ t.fw.running = false ∧
      (s.power.backupMv = 0 → t.life.bbram = false ∧ t.vault.rs = none ∧ t.vault.kek = none) ∧
      ∀ x ∈ s.qps, x.2.assigned = true → x.2.headWait = false → x.2.w ≠ x.2.wm →
        (s.hif.reads.length < 512 ∨ (x.2.func, pasidOf x.2) ∈ returned) →
        BusMsg.flushRead x.2.func (pasidOf x.2) ∈ t.bus) ∧
  (∀ (s : State) (i : StartInfo), s.boot.booted = false → s.boot.held = none →
    (pendingTarget (otpWord s.life) = 0 → ∃ t, exec (.powerGoodStart i) s = .next t ∧ t.boot.booted = true ∧ t.power.main = true ∧
      t.evr.powerCycles = min (2 ^ 24 - 1) (s.evr.powerCycles + 1) ∧ t.rng.testing = true ∧ t.rng.state = 0 ∧
      t.fmp.serving = true ∧ t.tamper.halt = t.tamper.latch ∧ t.boot.startUs = s.now) ∧
    (pendingTarget (otpWord s.life) ∉ [0, 3, 6] → ∃ t, exec (.powerGoodStart i) s = .next t ∧ t.boot.booted = false ∧
      t.boot.step = 5 ∧ t.boot.held.isSome = true ∧ t.power.main = true ∧ pendingTarget (otpWord t.life) ≠ 0))

/-- The three doorbells (02 R39, R46 to R49, R73; 04 R122, R123). -/
def Obligations.DoorbellsMoveTheirPointers : Prop :=
  (∀ (s : State) (pg : DbPage) (width : Nat) (v : Word), pageOk pg = true → pageQp s pg = none →
    ∀ i ∈ [Instr.hifDbSqTail pg width v, .hifDbCqHead pg width v, .hifDbIrqCtl pg width v],
      exec i s = .next { s with hif := { s.hif with strayDb := min (2 ^ 32 - 1) (s.hif.strayDb + 1),
                                                     strayTotal := (s.hif.strayTotal + 1) % 2 ^ 32 } }) ∧
  (∀ (s : State) (pg : DbPage) (width : Nat) (v : Word) (q : Nat), pageOk pg = true → pageQp s pg = some q →
    (qpOf s q).depthLog2 < 32 →
    let x := qpOf s q
    let n := v.toNat
    let d := 2 ^ x.depthLog2
    let tail := Instr.hifDbSqTail pg 4 v
    let head := Instr.hifDbCqHead pg 4 v
    let irq := Instr.hifDbIrqCtl pg 4 v
    let ahead (a b : Nat) : Nat := (a + (2 ^ 32 - b % 2 ^ 32)) % 2 ^ 32
    let tail0 := if x.tailWritten = true ∨ ahead x.tail x.wm ≤ d then x.tail else x.wm % 2 ^ 32
    let head0 := if x.headWritten = true then x.cqHead else x.wm % 2 ^ 32
    let tailFits := ahead n x.wm ≤ d ∧ ahead tail0 x.wm ≤ ahead n x.wm
    let firstFits := ahead n (x.wm + (2 ^ 48 - d)) ≤ 3 * d / 2
    (width ≠ 4 → ∀ i ∈ [Instr.hifDbSqTail pg width v, .hifDbCqHead pg width v, .hifDbIrqCtl pg width v],
      ∃ t, exec i s = .next t ∧ doorbellRefused s t q) ∧
    (tailFits → exec tail s = .next (withQp s q (fun y => { y with tail := n, tailWritten := true }))) ∧
    (¬ tailFits → ∃ t, exec tail s = .next t ∧ doorbellRefused s t q) ∧
    (x.headWait = false → ahead n head0 ≤ ahead x.w head0 →
      exec head s = .next (withQp s q (fun y => { y with cqHead := n, headWritten := true }))) ∧
    (x.headWait = false → ¬ ahead n head0 ≤ ahead x.w head0 → ∃ t, exec head s = .next t ∧ doorbellRefused s t q) ∧
    (x.headWait = true → firstFits → x.wm < 2 ^ 48 → ∃ t, exec head s = .next t ∧ (qpOf t q).headWait = false ∧
      (qpOf t q).cqHead = n ∧ (qpOf t q).w % 2 ^ 32 = n ∧
      ((qpOf t q).w + 2 ^ 48 + d - x.wm) % 2 ^ 48 ≤ 3 * d / 2) ∧
    (x.headWait = true → ¬ firstFits → ∃ t, exec head s = .next t ∧ doorbellRefused s t q) ∧
    (¬ (x.irqMask = true ∧ v.getLsbD 0 = false ∧ x.pendCount ≠ 0) →
      exec irq s = .next (withQp s q (fun y => { y with irqMask := v.getLsbD 0 }))) ∧
    (x.irqMask = true → v.getLsbD 0 = false → x.pendCount ≠ 0 →
      ∃ t, exec irq s = .next t ∧ qpOf t q = { x with irqMask := false, pendCount := 0 } ∧
        (t.bus = .msix x.func x.vector :: s.bus ∨
         (t.bus = s.bus ∧ ∃ e, tblFind t.hif.msix (x.func * 2048 + x.vector) = some e ∧ e.pending = true))))

/-- The register commands of the host (00 R11, R12; 02 R40, R50, R51, R53, R56, R66, R70; 03 R101; 06 R194, R209). -/
def Obligations.RegisterAccessesFollowTheirFields : Prop :=
  (∀ (s : State) (q : Nat), q < 16384 →
    let x := qpOf s q
    (∀ hw,
      (enRefused s q = false → ∃ t, exec (.hifQpCtlEn q 1 hw) s = .next t ∧ qpOf t q = errsSet hw { x with en := true }) ∧
      (enRefused s q = true → x.en = false →
        ∃ t, exec (.hifQpCtlEn q 1 hw) s = .next t ∧ qpOf t q = errsSet hw { x with cfgErr := true } ∧ t.hif.isr.getLsbD 6 = true) ∧
      (∃ t, exec (.hifQpCtlEn q 0 hw) s = .next t ∧ qpOf t q = errsSet hw { x with en := false }) ∧
      (∃ t, exec (.hifQpCtlEn q 0xE hw) s = .next t ∧
        qpOf t q = errsSet hw { x with en := false, fetchErr := false, dbErr := false, cfgErr := false } ∧
        (hw / 2 % 16 ≠ 0 → t.hif.isr.getLsbD 6 = true))) ∧
    (x.cplErr = true → ∃ t, exec (.cplErrClear q true) s = .next t ∧ (qpOf t q).cplErr = false ∧ (qpOf t q).en = x.en) ∧
    (∀ e c, x.cplErr = true → entryOf s q x.w = some e → e.cpl = some c →
      releasableButHead (withQp s q (fun y => { y with cplErr := false })) { x with cplErr := false } e = true → headAllows x e.asn = true →
      ∃ t, exec (.cplErrClear q false) s = .next t ∧ (qpOf t q).cplErr = true ∧ (entryOf t q x.w).isSome = true)) ∧
  (∀ (s : State) (hw hw2 : Nat),
    let reads (a : RegAddr) (width : Nat) : Instr := .rcRegisterRead (.host a width) hw hw2
    let value (v : List Byte) : State := { s with bus := .value v :: s.bus }
    (∃ t, exec (reads (.bar2 0x02C) 4) s = .next t ∧ t.bus = .value (leBytes 4 s.hif.strayDb) :: s.bus ∧
      t.hif.strayDb = min (2 ^ 32 - 1) hw) ∧
    (∀ pg q, pageOk pg = true → pageQp s pg = some q → ∃ t, exec (reads (.bar0 pg 0x20) 4) s = .next t ∧
      t.bus = .value (leBytes 4 ((qpOf s q).badDb + 2 ^ 16 * (qpOf s q).badFetch)) :: s.bus ∧
      qpOf t q = { qpOf s q with badDb := min 0xFFFF hw, badFetch := min 0xFFFF hw2 }) ∧
    exec (reads (.bar2 0) 4) s = .next (value [0x34, 0x51, 0x10, 0x01]) ∧
    exec (reads (.bar2 0x020) 4) s = .next (value (leBytes 4 s.hif.isr.toNat)) ∧
    exec (reads (.config 0 .deviceId) 2) s = .next (value [0x34, 0x51]) ∧
    (∀ off width, off < 2 ^ 20 → ¬ (width = 4 ∧ off % 4 = 0) → ¬ (width = 8 ∧ off % 8 = 0) →
      exec (reads (.bar2 off) width) s = .next (value (zeros width))) ∧
    (∀ c, c < 4 → ∃ t, exec (.rcRegisterRead (.svcLock c) hw hw2) s = .next t ∧ t.bus = .value (leBytes 4 (svcLockWord s)) :: s.bus ∧
      t.svc = { s.svc with forced := decide (0 < hw) }) ∧
    (∀ n, n < 16 → ∃ t, exec (.rcRegisterRead (.tilePairSts n) hw hw2) s = .next t ∧
      t.bus = .value (leBytes 4 (tilePairSts s n)) :: s.bus ∧ (tileOf t n).mism0 = min 255 hw ∧ (tileOf t n).mism1 = min 255 hw2) ∧
    (∀ n k, n < 16 → k < 2 → ∃ t, exec (.rcRegisterRead (.pkeCoreSts n k) hw hw2) s = .next t ∧
      t.bus = .value (leBytes 4 (pkeCoreSts s n k)) :: s.bus ∧ ((tileOf t n).pkeCore k).checkErr = min 255 hw ∧
      ((tileOf t n).pkeCore k).faultCount = min 255 hw2)) ∧
  (∀ (s : State) (v : BitVec 64) (q k hw : Nat),
    let n := v.toNat % 2 ^ 32
    let w (off : Nat) : Instr := .registerWrite (.bar2 off) 4 v hw
    exec (w 0x008) s = .next (withHif s (fun h => { h with fetchEn := n.testBit 0, atsUse := n.testBit 1 })) ∧
    (∃ t, exec (w 0x020) s = .next t ∧ t.hif.isr = (s.hif.isr &&& ~~~(v.truncate 8)) ||| BitVec.ofNat 8 hw) ∧
    exec (w 0x024) s = .next (withHif s (fun h => { h with ier := v.truncate 8 })) ∧
    exec (w 0x1004) s = .next (withHif s (fun h => { h with mbx := { h.mbx with reqLen := n % 2 ^ 12 } })) ∧
    (k < 2048 → ∀ width ≤ 8, k + width ≤ 2048 → exec (.registerWrite (.bar2 (0x2000 + k)) width v hw) s =
      .next (withHif s (fun h => { h with mbx := { h.mbx with
        reqBuf := Memory.write h.mbx.reqBuf k (leBytes width v.toNat) } }))) ∧
    (q < 16384 → (qpOf s q).en = false → (qpOf s q).wm = nextAsnReg (qpOf s q) →
      exec (w (0x80000 + 32 * q + 4)) s =
        .next (withQp s q (fun x => { x with sqBase := n * 2 ^ 32 + x.sqBase % 2 ^ 32 }))) ∧
    (q < 16384 → ((qpOf s q).en = true ∨ (qpOf s q).wm ≠ nextAsnReg (qpOf s q)) → exec (w (0x80000 + 32 * q + 4)) s = .next s) ∧
    (∀ f i, f ≤ 255 → i < (if f = 0 then 2048 else 64) →
      let e := tblGet { addr := 0, data := 0, masked := true, pending := false } s.hif.msix (f * 2048 + i)
      exec (.registerWrite (.bar4 f (16 * i + 8)) 4 v hw) s = .next (withHif s (fun h => { h with
        msix := tblSet h.msix (f * 2048 + i) { e with data := v.truncate 32 } })) ∧
      (v.getLsbD 0 = false → e.pending = true → exec (.registerWrite (.bar4 f (16 * i + 12)) 4 v hw) s =
        .next { s with hif := { s.hif with msix := tblSet s.hif.msix (f * 2048 + i) { e with masked := false, pending := false } },
                       bus := .msix f i :: s.bus })) ∧
    (∀ f, f ≤ 255 → exec (.registerWrite (.config f .atsEnable) 4 v hw) s =
      .next (withHif s (fun h => { h with ats := tblSet h.ats f (v.toNat.testBit 0) }))) ∧
    (∀ pg, exec (.registerWrite (.bar0 pg 0) 4 v hw) s = exec (.hifDbSqTail pg 4 (v.truncate 32)) s ∧
      exec (.registerWrite (.bar0 pg 4) 4 v hw) s = exec (.hifDbCqHead pg 4 (v.truncate 32)) s ∧
      exec (.registerWrite (.bar0 pg 0x1C) 4 v hw) s = exec (.hifDbIrqCtl pg 4 (v.truncate 32)) s)) ∧
  (∀ s : State,
    let m := s.hif.mbx
    (m.busy = false → 1 ≤ m.reqLen → m.reqLen ≤ 2048 →
      ∃ t, exec .mbxSubmit s = .next t ∧ t.hif.mbx = { m with busy := true, applied := false }) ∧
    (m.busy = true ∨ m.reqLen = 0 ∨ 2048 < m.reqLen →
      exec .mbxSubmit s = .next (withHif s (fun h => { h with mbx := { m with seqErr := true } }))) ∧
    (m.busy = true → m.applied = false → (∀ o, s.vault.op = some o → o.path ≠ some .tunnel) →
      ∃ t, exec .mbxAbort s = .next t ∧ replied s t .tunnel 0x0013 []) ∧
    (m.busy = true → (m.applied = true ∨ ∃ o, s.vault.op = some o ∧ o.path = some .tunnel) →
      ∃ t, exec .mbxAbort s = .next t ∧ replied s t .tunnel 0x0000 []))

/-- The partition commands (08 R254 to R257, R277; 04 R127, R128; 02 R53, R55). -/
def Obligations.PartitionCommandsRunAsPermitted : Prop :=
  ∀ (s : State) (via : Via) (p : Nat), p < 4096 → (partOf s p).created = true →
    let e := effectiveOf s p
    let ms := if viaMs via = 0 then objNat s (0x4000 + p) 0x09 1000 else viaMs via
    let refused (t : State) : Prop := match via with
      | .pcmd _ => t.hif.pcmdRefused = true ∧ t.hif.pcmdReason = 1 ∧ t.parts = s.parts
      | .dict path => (partOf t p).reason = 1 ∧ (partOf t p).outcome = 3 ∧ (partOf t p).admin = (partOf s p).admin ∧
          replied s t path 0 []
    (canCommand s via p 1 →
      (e = 0 → ∃ t, exec (.suspend via p) s = .next t ∧ planes s t p 1 1) ∧
      (e ≠ 0 → ∃ t, exec (.suspend via p) s = .next t ∧ refused t)) ∧
    (canCommand s via p 2 →
      (e = 1 → (∀ q ∈ homesOf s p, operIn s p q = 1) →
        ∃ t, exec (.resume via p) s = .next t ∧ planes s t p 0 0 ∧
          (if partQuiet s p = true ∨ forPcmd s via p = false then (partOf t p).cmd = none ∧ (partOf t p).outcome = 1
          else (partOf t p).outcome = 4 ∧ ∃ c, (partOf t p).cmd = some c ∧ c.action = 2 ∧ c.viaPcmd = true)) ∧
      (e ≠ 1 ∨ (∃ q ∈ homesOf s p, operIn s p q ≠ 1) → ∃ t, exec (.resume via p) s = .next t ∧ refused t)) ∧
    (canCommand s via p 3 →
      (e = 0 ∨ e = 1 → ∃ t, exec (.drain via p) s = .next t ∧ planes s t p 2 (if partQuiet s p then 1 else 2) ∧
        ∀ q ∈ homesOf s p, tblFind (quarterOf t q).drain p = some (s.now + ms * 1000)) ∧
      (e ≠ 0 → e ≠ 1 → ∃ t, exec (.drain via p) s = .next t ∧ refused t)) ∧
    (canCommand s via p 4 →
      (e = 0 ∨ e = 1 ∨ e = 2 → ∃ t, exec (.squash via p) s = .next t ∧ (partOf t p).admin = 3 ∧
        (∀ q ∈ homesOf s p, operIn t p q = 1 ∨ operIn t p q = 3) ∧
        ∀ q ∈ (partOf s p).qps, (qpOf s q).headWait = false → squashed t q) ∧
      (e ≠ 0 → e ≠ 1 → e ≠ 2 → ∃ t, exec (.squash via p) s = .next t ∧ refused t))

/-- The life of a partition and the agreement of its planes (08 R246, R247, R254 to R257, R260; 04 R127, R128; 10 R338). -/
def Obligations.PartitionsAreCreatedRemovedAndKeptInStep : Prop :=
  (∀ (s : State) (path : Path) (p : Nat), p < 4096 → granted s path .wo (0x4000 + p) 0x05 (leBytes 1 5) →
    let homes := pickHomes (quartersUp s) ((List.range 4).map (fun q => (q, qpsHomed s q))) (objNat s (0x4000 + p) 0x10 1)
    let barred := lifeCycle s = 2 ∨ lifeCycle s = 4 ∨ lifeCycle s = 6
    (barred → ∃ t, exec (.create path p) s = .next t ∧ t.parts = s.parts ∧ replied s t path 0x0009 []) ∧
    (¬ barred → ∀ r, createCheck s p homes = some r → ∃ t, exec (.create path p) s = .next t ∧
      (partOf t p).created = (partOf s p).created ∧ (partOf t p).reason = r ∧ (partOf t p).outcome = 3 ∧ t.qps = s.qps ∧
      replied s t path 0 []) ∧
    (¬ barred → createCheck s p homes = none → ∃ t, exec (.create path p) s = .next t ∧
      (partOf t p).created = true ∧ (partOf t p).admin = 1 ∧
      (partOf t p).incarnation = (partOf s p).incarnation + 1 ∧ (partOf t p).outcome = 1 ∧
      (partOf t p).qps.length = objNat s (0x4000 + p) 0x10 1 ∧
      (∀ q ∈ (partOf t p).qps, (qpOf t q).assigned = true ∧ (qpOf t q).partition = p ∧ (qpOf t q).en = false ∧
        (qpOf t q).home ∈ homes ∧ (qpOf t q).wm = 0 ∧ (qpOf t q).next = 0 ∧ (qpOf t q).w = 0 ∧
        operIn t p (qpOf t q).home = 1) ∧ replied s t path 0 [])) ∧
  (∀ (s : State) (path : Path) (p : Nat), p < 4096 → granted s path .rwq (0x4000 + p) 0xE0 (leBytes 1 1) →
    let may := (partOf s p).created = true ∧ effectiveOf s p = 1 ∧ inflightOf s p = 0 ∧ partQuiet s p = true
    (lifeCycle s ≤ 2 → path ≠ .tunnel → may →
      ∃ t, exec (.partRemove path p) s = .next t ∧ (partOf t p).created = false ∧ (partOf t p).qps = [] ∧
        (partOf t p).extents = [] ∧ (partOf t p).journalExtents = [] ∧
        (partOf t p).incarnation = (partOf s p).incarnation ∧
        (∀ q ∈ (partOf s p).qps, (qpOf t q).assigned = false ∧ (qpOf t q).en = false) ∧
        (∀ r ∈ t.journal.records, r.qp ∉ (partOf s p).qps) ∧
        (∀ n, (tmemOf t n).cache = (tmemOf s n).cache.filter (fun x => x.colour != p)) ∧ replied s t path 0 []) ∧
    ((lifeCycle s ≤ 2 ∧ path ≠ .tunnel) ∨ lifeCycle s = 3 → ¬ may →
      ∃ t, exec (.partRemove path p) s = .next t ∧ (partOf t p).created = (partOf s p).created ∧ (partOf t p).outcome = 3 ∧
        (partOf t p).reason = (if (partOf s p).created = true then 1 else 3) ∧ replied s t path 0x0009 []) ∧
    (lifeCycle s ≤ 2 → path = .tunnel → ∃ t, exec (.partRemove path p) s = .next t ∧ t.parts = s.parts ∧ replied s t path 0x0006 []) ∧
    (lifeCycle s = 3 → may → roomToPropose s (0x4000 + p) 0xE0 (leBytes 1 1) →
      ∃ t, exec (.partRemove path p) s = .next t ∧ proposed s t path (0x4000 + p) 0xE0 (leBytes 1 1) ∧ t.parts = s.parts) ∧
    (4 ≤ lifeCycle s → ∃ t, exec (.partRemove path p) s = .next t ∧ t.parts = s.parts ∧ replied s t path 0x0009 [])) ∧
  (∀ (s : State) (q p : Nat), q < 4 → p < 4096 →
    (tblFind (quarterOf s q).drain p = none → exec (.drainDeadlineExpiry q p) s = .next s) ∧
    (∀ due, tblFind (quarterOf s q).drain p = some due →
      ∃ t, exec (.drainDeadlineExpiry q p) s = .next t ∧ tblFind (quarterOf t q).drain p = none ∧ due ≤ t.now ∧ s.now ≤ t.now ∧
        (operIn s p q = 2 → workRemains s p q = true → (operIn t p q = 1 ∨ operIn t p q = 3) ∧
          ∀ x ∈ homedIn s p q, (qpOf s x).headWait = false → squashed t x) ∧
        (operIn s p q ≠ 2 ∨ workRemains s p q = false → operIn t p q = operIn s p q ∧ t.entries = s.entries))) ∧
  (∀ (s : State) (p : Nat), p < 4096 →
    (partDiffers s p = false → exec (.partDisagree p) s = .next s ∧ exec (.adminFollowsOper p) s = .next s) ∧
    (partDiffers s p = true → (partOf s p).differSince.isSome = true ∨ s.boot.booted = true →
      ∃ t, exec (.partDisagree p) s = .next t ∧ (∀ n, (partOf s p).differSince = some n → n + 100000 ≤ t.now) ∧
        (partOf t p).disagree = true ∧
        (partOf t p).disagreeCount = (if (partOf s p).disagree = true then (partOf s p).disagreeCount
          else ((partOf s p).disagreeCount + 1) % 2 ^ 32) ∧
        ((partOf s p).disagree = false → t.hif.isr.getLsbD 4 = true)) ∧
    (partDiffers s p = true → ∃ t, exec (.adminFollowsOper p) s = .next t ∧
      (∀ q ∈ homesOf s p, operIn s p q ≤ (partOf t p).admin) ∧ (∃ q ∈ homesOf s p, operIn s p q = (partOf t p).admin) ∧
      (∀ q ∈ homesOf s p, operIn t p q = (partOf t p).admin ∨ ((partOf t p).admin = 3 ∧ operIn t p q = 1)) ∧
      (partDiffers t p = false → (partOf s p).differSince.isSome = true → (partOf t p).disagree = false) ∧
      (∀ c, (partOf s p).cmd = some c → (partOf t p).admin = 1 → c.action = 3 ∨ c.action = 4 →
        (partOf t p).cmd = none ∧
        (partOf t p).outcome = (if c.deadlined = true ∧ (partOf s p).lastCancelled ≠ 0 then 2 else 1))))

/-- The dispatcher up to acceptance (02 R42 to R44, R50, R61, R62; 03 R76 to R79, R82, R91 to R93; 04 R123, R124). -/
def Obligations.DescriptorsAreFetchedAcceptedAndTimed : Prop :=
  (∀ (s : State) (q n : Nat), q < 16384 → 0 < n → fetchPermitted s q = true → fetchPaused s q = false →
    (qpOf s q).fetching = 0 →
    let x := qpOf s q
    let k := min (min n 32) (min (tailAhead x) (2 ^ x.depthLog2 - x.next % 2 ^ x.depthLog2))
    ∃ t, exec (.descriptorFetch q n) s = .next t ∧ 0 < k ∧ (qpOf t q).fetching = k ∧ t.entries = s.entries ∧
      asked s t q none (x.sqBase + 128 * (x.next % 2 ^ x.depthLog2)) (128 * k)) ∧
  (∀ (s : State) (q : Nat) (d : List Byte), awaits s q → d.length = 128 →
    let x := qpOf s q
    let p := x.partition
    let se := ((rowOf s p d).map (fun r => r.se)).getD false
    ((decision s q d).1 = .yes → entryOf s q x.next = none →
      ∃ t e, exec (.descriptorArrival q (.bytes d)) s = .next t ∧ (qpOf t q).next = (x.next + 1) % 2 ^ 48 ∧
        entryOf t q x.next = some e ∧ e.desc = d ∧ e.tile = none ∧
        (∀ r, doneRecord s q x.next = some r → e.cpl = some (replayCpl r)) ∧
        (doneRecord s q x.next = none → unitQueued s q x.next = true → e.cpl = none ∧ e.deadline = none) ∧
        (doneRecord s q x.next = none → unitQueued s q x.next = false →
          e.cpl = (earlyFail s p d).map (fun f => Cpl.fail f.1 f.2) ∧
          (earlyFail s p d = none → e.se = se ∧ e.deadline = (if dDeadline d = 0 then none else some (s.now + dDeadline d)) ∧
            (if se = true ∧ s.power.gate = 1 then ∃ k, e.park = .l6 (s.now + 100) k else e.park = .none))) ∧
        tblFind (quarterOf t x.home).ops p = some { tokens := (bucketNow s p x.home false).tokens - 1024, last := s.now } ∧
        ((decision s q d).2 ≠ 0 → tblFind (quarterOf t x.home).pke p =
          some { tokens := (bucketNow s p x.home true).tokens - ((decision s q d).2 * 1024 : Nat), last := s.now })) ∧
    ((decision s q d).1 = .pause →
      ∃ t, exec (.descriptorArrival q (.bytes d)) s = .next t ∧ (qpOf t q).next = x.next ∧ (qpOf t q).paused = true ∧
        (qpOf t q).fetching = 0 ∧ t.entries = s.entries ∧ tblFind (quarterOf t x.home).ops p = some (bucketNow s p x.home false)) ∧
    (∀ pke tick, (decision s q d).1 = .refill pke tick →
      ∃ t k, exec (.descriptorArrival q (.bytes d)) s = .next t ∧ (qpOf t q).next = x.next ∧ t.entries = s.entries ∧
        tblFind (quarterOf t x.home).l5 (2 * p + b2n pke) =
          some (max (tblGet (0, 0) (quarterOf s x.home).l5 (2 * p + b2n pke)).1 tick, k) ∧
        tblFind (quarterOf t x.home).ops p = some (bucketNow s p x.home false))) ∧
  (∀ (s : State) (q : Nat), q < 16384 → (qpOf s q).fetching ≠ 0 → readsSent s q none = true →
    ∃ t, exec (.descriptorArrival q .error) s = .next t ∧ (qpOf t q).fetchErr = true ∧ t.hif.isr.getLsbD 6 = true ∧
      (qpOf t q).badFetch = min 0xFFFF ((qpOf s q).badFetch + 1) ∧ t.entries = s.entries) ∧
  (∀ (s : State) (q p k tick n : Nat), q < 4 → p < 4096 → l5Head s q = some (k, tick, n) →
    (k / 2 = p → ∃ t, exec (.bucketRefillExpiry q p) s = .next t ∧ tblFind (quarterOf t q).l5 k = none ∧ t.now = max s.now tick) ∧
    (k / 2 ≠ p → exec (.bucketRefillExpiry q p) s = .next s)) ∧
  (∀ (s : State) (q a : Nat) (e : Entry), q < 16384 → entryOf s q a = some e →
    (∀ tick n, e.park = .l6 tick n →
      (isHead (tick, n) (l6List s e.quarter) = true →
        ∃ t, exec (.gateDeferralExpiry q a) s = .next t ∧ t.now = max s.now tick ∧
          (s.power.gate = 0 → entryOf t q a = some { e with park := .none }) ∧
          (s.power.gate ≠ 0 → ∃ k, entryOf t q a = some { e with park := .l6 (t.now + 100) k })) ∧
      (isHead (tick, n) (l6List s e.quarter) = false → exec (.gateDeferralExpiry q a) s = .next s)) ∧
    (∀ tick, e.deadline = some tick →
      (isHead (tick, e.dseq) (deadlineList s e) = true →
        ∃ t, exec (.deadlineExpiry q a) s = .next t ∧ t.now = max s.now tick ∧
          (e.fired = false → e.cpl = none → unitQueued s q a = false → answered t q a (Cpl.fail 0x0004 0)) ∧
          (e.fired = true ∨ e.cpl.isSome = true ∨ unitQueued s q a = true → t.entries = s.entries)) ∧
      (isHead (tick, e.dseq) (deadlineList s e) = false → exec (.deadlineExpiry q a) s = .next s)))

/-- Homing and what a homed descriptor waits for (02 R59, R60, R62; 03 R80, R86, R471; 05 R139; 06 R183, R184; 07 R219,
R233 to R237). -/
def Obligations.HomedDescriptorsGetWhatTheyWaitFor : Prop :=
  (∀ (s : State) (q a : Nat) (e : Entry) (r : CmdRow), q < 16384 → entryOf s q a = some e →
    let p := (qpOf s q).partition
    let n := declaredFor (dCmd e.desc)
    let late := e.fired = false ∧ ∃ d, e.deadline = some d ∧ d ≤ s.now
    let spent := r.nonce = true ∧ noncesGone s p = true ∧ drawNonce (nonceHold s e.quarter p) = none
    let ran := e.freshTile = true ∧ tilesOf s e.quarter ≠ [] ∧ ∀ n ∈ tilesOf s e.quarter, n ∈ e.tilesRun
    rowOf s p e.desc = some r → homeable s e = true →
    (late → ∃ t, exec (.descriptorHome q a) s = .next t ∧ answered t q a (Cpl.fail 0x0004 0)) ∧
    (¬ late → spent → ∃ t, exec (.descriptorHome q a) s = .next t ∧ answered t q a (Cpl.fail 0x0002 0)) ∧
    (¬ late → ¬ spent → ran → ∃ t, exec (.descriptorHome q a) s = .next t ∧ answered t q a (Cpl.fail 0x00F0 0)) ∧
    (¬ late → ¬ spent → ¬ ran → ∀ tile shared u line nonce k, chooseTile s e p n = some (tile, shared) → secureNeeds s e p r = some (u, line, nonce, k) →
      ∃ t x, exec (.descriptorHome q a) s = .next t ∧ entryOf t q a = some x ∧ x.tile = some tile ∧
        (x.cpl = none → x.capture = some (quarterOf s e.quarter).rvs ∧ x.matching = n ∧ x.fromShared = shared ∧
          x.line = line ∧ x.nonce = nonce ∧ x.records = k)) ∧
    (¬ late → ¬ spent → ¬ ran → ∀ c, chooseTile s e p n = some c → secureNeeds s e p r = none → exec (.descriptorHome q a) s = .next s) ∧
    (¬ late → ¬ spent → ¬ ran → chooseTile s e p n = none → (tilesOf s e.quarter).any (mayTake s e) = true →
      ∃ t, exec (.descriptorHome q a) s = .next t ∧ (q, a) ∈ (quarterOf t e.quarter).matchQ ∧ t.entries = s.entries) ∧
    (¬ late → ¬ spent → ¬ ran → chooseTile s e p n = none → (tilesOf s e.quarter).any (mayTake s e) = false →
      exec (.descriptorHome q a) s = .next s)) ∧
  (∀ (s : State) (q p : Nat), q < 4 → p < 4096 → journalUp s = true → (partOf s p).created = true →
    (quarterOf s q).failed = false → noncesGone s p = false →
    let h := nonceHold s q p
    let k := nextBlock s p
    (h.block = none → ∃ t, exec (.nonceBlockReserve q p) s = .next t ∧ nextBlock t p = k + 1 ∧
      nonceHold t q p = { block := some k, used := 0, further := none }) ∧
    (h.block.isSome = true → h.further = none → 32768 ≤ h.used → ∃ t, exec (.nonceBlockReserve q p) s = .next t ∧
      nextBlock t p = k + 1 ∧ nonceHold t q p = { h with further := some k }) ∧
    (h.block.isSome = true → h.further.isSome = true ∨ h.used < 32768 → exec (.nonceBlockReserve q p) s = .next s)) ∧
  (∀ (s : State) (q a n : Nat) (e : Entry), q < 16384 → entryOf s q a = some e → e.tile = some n → s.tamper.halt = false →
    let p := (qpOf s q).partition
    (e.script = .none ∨ e.script = .waiting → (tmemOf s n).pinQ.find? (fun x => (qpOf s x.1).partition == p) = some (q, a) →
      (pinAll s n p (tblGet 0 (partOf s p).quota e.quarter) (q, a) e.desc).isSome = true →
      ∃ t x, exec (.keyCachePinGrant q a) s = .next t ∧ entryOf t q a = some x ∧ (q, a) ∉ (tmemOf t n).pinQ ∧
        (x.cpl = none → ∀ y ∈ keysNamed s p e.desc, cacheBlocks y.2 ≠ 0 →
          ∃ c ∈ (tmemOf t n).cache, c.isKey p y.2.handle = true ∧ (q, a) ∈ c.pins)) ∧
    (∀ l k y, e.cpl = none → (q, a) ∉ (tmemOf s n).pinQ → fillTurn s n p → scanKeys s e n = (l, .fill k) →
      (keysOf e.desc).find? (fun x => x.k == k) = some y →
      (∀ st, checkKeyField s p (e.capture.getD 0) e.desc y = .error st →
        ∃ t, exec (.vaultFill q a) s = .next t ∧ answered t q a (Cpl.fail st k)) ∧
      (∀ r, checkKeyField s p (e.capture.getD 0) e.desc y = .ok r →
        ∃ t x, exec (.vaultFill q a) s = .next t ∧ entryOf t q a = some x ∧ (x.cpl = none → k ∈ x.keysReady) ∧
          ∀ c ∈ (tmemOf t n).cache, c.isKey p r.handle = true → c.filled = true ∧ c.key = r)) ∧
    (∀ r, e.cpl = none → inputReady e = false → readsSent s q (some a) = true →
      (∀ o, checkLists e.desc r = .ok o → readPlace (readsBack s q (some a)) = true → ∃ t, exec (.inputReadReturn q a r) s = .next t ∧
        entryOf t q a = some { e with input := some o } ∧
        ∀ g ∈ o.ins, ∀ y ∈ cutDma g.len s.hif.maxRead g.addr g.len, ∃ h, sentNow s t (.read h y.2) ∧ h.addr = y.1 ∧
          h.func = (qpOf s q).func ∧ h.pasid = pasidOf (qpOf s q)) ∧
      (∀ st det, checkLists e.desc r = .error (st, det) → ∃ t, exec (.inputReadReturn q a r) s = .next t ∧
        answered t q a (match firstBadKey s e p (keysOf e.desc) with
          | some f => Cpl.fail f.1 f.2
          | none => Cpl.fail st det)))) ∧
  (∀ (s : State) (q a : Nat) (e : Entry) (g : Grant), q < 16384 → entryOf s q a = some e → e.cpl = none → g ∈ s.vault.grants →
    g.holder = (q, a) → ∃ t, exec (.vaultGrant q a) s = .next t ∧ entryOf t q a = some { e with grant := true }) ∧
  (∀ (s : State) (n c : Nat), n < 16 → entriesNamed s → freeCore s n = some c → coreWaiters s n ≠ [] →
    (∀ i, (srcOf s n i).mask = true) →
    ∃ t, exec (.scriptCoreAssign n) s = .next t ∧ ∃ e ∈ coreWaiters s n,
      (∀ x ∈ coreWaiters s n, (qpOf s x.qp).partition = (qpOf s e.qp).partition → e.asn ≤ x.asn) ∧
      entryOf t e.qp e.asn = some { e with script := .core c } ∧
      coreOf t c = { EloaCore.script with
        code := (coreOf s c).code, dbg := (coreOf s c).dbg, desc := some (e.qp, e.asn), mem := Memory.write [] 0x1F80 e.desc })

/-- Steps, the umpire, public-key and hash runsIn (03 R83, R85, R90, R93 to R98; 06 R190, R191, R196, R200, R206 to R209). -/
def Obligations.StepsRunAndAreCompared : Prop :=
  (∀ (s : State) (q a n : Nat) (e : Entry), q < 16384 → entryOf s q a = some e → e.tile = some n →
    (∀ g, bodyReady s e = false ∨ dClass e.desc = 0x0D → exec (.stepFire q a g) s = .next s) ∧
    (bodyReady s e = true → dClass e.desc ≠ 0x0D →
      (∀ k i, k < 2 → nextStep e .lane = some i → pairRun (tmemOf s n) k = none → pairQuar (tileOf s n) k = false →
        turnOf s (tmemOf s n).rrPair (readyFor s n .lane) = some e →
        ∃ t, exec (.stepFire q a (.pair k)) s = .next t ∧ hasFired t q a ∧
          pairRun (tmemOf t n) k = some { qp := q, asn := a, step := i, left := laneBlocks e.desc, ops := stepOps s n e i,
                                          shares := (drawShares (tmemOf s n) q a (laneBlocks e.desc)).1 } ∧
          (tmemOf t n).mask = (drawShares (tmemOf s n) q a (laneBlocks e.desc)).2) ∧
      (∀ k i left, k < 2 → nextStep e .pke = some i → (pkeOf (tileOf s n) k).busy = false → (pkeOf (tileOf s n) k).loaded = true →
        pkeTurn s n (readyFor s n .pke) = some ((qpOf s q).partition, left) →
        lowestOf s (readyFor s n .pke) (qpOf s q).partition = some e →
        (k = 1 ∨ isPkGenerate (dCmd e.desc) = false →
          ∃ t, exec (.stepFire q a (.pke k)) s = .next t ∧ hasFired t q a ∧ (pkeOf (tileOf t n) k).busy = true ∧
            runsIn (pkeOf (tileOf t n) k).run q a i) ∧
        (k = 0 → isPkGenerate (dCmd e.desc) = true → exec (.stepFire q a (.pke k)) s = .next s)) ∧
      (∀ i, nextStep e .hash = some i → ∃ t, exec (.stepFire q a .hash) s = .next t ∧ hasFired t q a ∧
        ((tmemOf s n).hashRun = none → (tmemOf s n).hashWait = [] → runsIn (tmemOf t n).hashRun q a i) ∧
        ((tmemOf s n).hashRun ≠ none → (tmemOf t n).hashRun = (tmemOf s n).hashRun ∧
          ∃ y ∈ (tmemOf t n).hashWait, y.qp = q ∧ y.asn = a ∧ y.step = i)) ∧
      ((nextStep e .lookup).isSome = true ∨ (nextStep e .check).isSome = true ∨ (nextStep e .build).isSome = true →
        ∃ t i, exec (.stepFire q a .fixed) s = .next t ∧ hasFired t q a ∧ stepOver t q a i e ∧
          (nextStep e .lookup = some i ∨ nextStep e .check = some i ∨ nextStep e .build = some i)))) ∧
  (∀ (s : State) (n k : Nat) (r : StepRun) (e : Entry), n < 16 → k < 2 → entryOf s r.qp r.asn = some e →
    pairRun (tmemOf s n) k = some r →
    (r.kop = false → ∃ t, exec (.laneStepDone n k true) s = .next t ∧ stepOver t r.qp r.asn r.step e) ∧
    (∀ c x y, r.kop = true → e.script = .core c → (coreOf s c).tickets[r.step]? = some x → x.held = some y →
      ∃ t, exec (.laneStepDone n k true) s = .next t ∧ (coreOf t c).tickets[r.step]? = some { x with tok := some y, held := none }) ∧
    (e.tile = some n → e.cpl = none →
      (e.redispatched = false → e.mism = 0 → pairQuar (tileOf s n) (1 - k) = false →
        ∃ t x, exec (.laneStepDone n k false) s = .next t ∧ entryOf t r.qp r.asn = some x ∧ x.mism = 1 ∧ x.cpl = none ∧
          mismatches t n k = min 255 (mismatches s n k + 1) ∧
          (x.retryOn = some (1 - k, { r with shares := [] }) ∨ runsIn (pairRun (tmemOf t n) (1 - k)) r.qp r.asn r.step) ∧
          (pairRun (tmemOf s n) (1 - k) = none → noRetries s n → runsIn (pairRun (tmemOf t n) (1 - k)) r.qp r.asn r.step)) ∧
      (e.redispatched = false → e.mism ≠ 0 ∨ pairQuar (tileOf s n) (1 - k) = true → otherTile s e n →
        ∃ t x, exec (.laneStepDone n k false) s = .next t ∧ entryOf t r.qp r.asn = some x ∧ x.tile = none ∧
          x.redispatched = true ∧ n ∈ x.tilesRun ∧ x.mism = e.mism + 1 ∧
          (if l4Count s e.quarter < 1024 then ∃ m, x.park = .l4 (s.now + 2) m else x.park = .none)) ∧
      (e.redispatched = true ∨ ((e.mism ≠ 0 ∨ pairQuar (tileOf s n) (1 - k) = true) ∧ ¬ otherTile s e n) →
        pairQuar (tileOf s n) (1 - k) = false ∨ (∃ m ∈ tilesOf s (n / 4), m ≠ n) →
        ∃ t, exec (.laneStepDone n k false) s = .next t ∧ answered t r.qp r.asn (Cpl.fail 0x00F0 0)))) ∧
  (∀ (s : State) (n k : Nat) (r : StepRun) (e : Entry), n < 16 → k < 2 → entryOf s r.qp r.asn = some e →
    (pkeOf (tileOf s n) k).run = some r →
    (streamOpen (tmemOf s n) k = true → exec (.pkeOplistDone n k .ends) s = .next s) ∧
    (streamOpen (tmemOf s n) k = false → ∃ t, exec (.pkeOplistDone n k .ends) s = .next t ∧
      match (oplistRun s n k e r).1 with
      | .done _ _ => r.kop = false → stepOver t r.qp r.asn r.step e
      | .fault m => answered t r.qp r.asn (Cpl.fail 0x0073 m) ∧ (pkeOf (tileOf t n) k).lastFault = m ∧
          (pkeOf (tileOf t n) k).faultCount = min 255 ((pkeOf (tileOf s n) k).faultCount + 1)
      | .limit => answered t r.qp r.asn (Cpl.fail 0x0072 0)
      | .waits => t = s) ∧
    (∃ t, exec (.pkeOplistDone n k .parity) s = .next t ∧ answered t r.qp r.asn (Cpl.fail 0x0073 7) ∧
      (pkeOf (tileOf t n) k).lastFault = 7) ∧
    ((pkeOf (tileOf s n) k).checked = true →
      ∃ t, exec (.pkeOplistDone n k .checkFailed) s = .next t ∧ answered t r.qp r.asn (Cpl.fail 0x00F0 0)) ∧
    ((pkeOf (tileOf s n) k).checked = false → e.tile = some n → e.cpl = none → noRetries s n →
      let o := if isPkGenerate (dCmd e.desc) = true then 1 else 1 - k
      ∃ t x, exec (.pkeOplistDone n k .checkFailed) s = .next t ∧ entryOf t r.qp r.asn = some x ∧ x.cpl = none ∧
        (pkeOf (tileOf t n) k).checkErr = min 255 ((pkeOf (tileOf s n) k).checkErr + 1) ∧
        (o ≠ k → (pkeOf (tileOf s n) o).busy = true ∨ (pkeOf (tileOf s n) o).loaded = false → x.retryOn = some (2 + o, r)) ∧
        ((o = k ∨ (pkeOf (tileOf s n) o).busy = false) → (pkeOf (tileOf s n) o).loaded = true →
          (pkeOf (tileOf t n) o).run = some r ∧ (pkeOf (tileOf t n) o).checked = true ∧
          (pkeOf (tileOf t n) o).file = operandFile r.ops))) ∧
  (∀ (s : State) (n : Nat) (r : StepRun) (e : Entry), n < 16 → entryOf s r.qp r.asn = some e → (tmemOf s n).hashRun = some r →
    (r.left ≤ 1 → r.core = none → r.kop = false →
      ∃ t, exec (.hashBlockDone n true) s = .next t ∧ stepOver t r.qp r.asn r.step e) ∧
    (r.left ≤ 1 → r.core.isSome = true → ∃ t, exec (.hashBlockDone n true) s = .next t ∧ t.entries = s.entries) ∧
    (1 < r.left → ∃ t, exec (.hashBlockDone n true) s = .next t ∧ t.entries = s.entries ∧
      ((tmemOf t n).hashRun = some { r with left := r.left - 1 } ∨ { r with left := r.left - 1 } ∈ (tmemOf t n).hashWait)) ∧
    ((tmemOf s n).hashRetry = false → ∃ t, exec (.hashBlockDone n false) s = .next t ∧ (tmemOf t n).hashRetry = true ∧
      (tmemOf t n).hashRun = some r ∧ t.entries = s.entries) ∧
    ((tmemOf s n).hashRetry = true → ∃ t, exec (.hashBlockDone n false) s = .next t ∧ answered t r.qp r.asn (Cpl.fail 0x00F1 0))) ∧
  (∀ (s : State) (q a : Nat) (e : Entry), q < 16384 → entryOf s q a = some e →
    (∀ tick m, e.park = .l4 tick m →
      (isHead (tick, m) (l4List s e.quarter) = true → ∃ t, exec (.retryBackoffExpiry q a) s = .next t ∧ t.now = max s.now tick ∧
        entryOf t q a = some { e with park := .none }) ∧
      (isHead (tick, m) (l4List s e.quarter) = false → exec (.retryBackoffExpiry q a) s = .next s)) ∧
    (e.tile.isSome = true → e.cpl = none →
      ∃ t, exec (.tileMatchingParity q a none) s = .next t ∧ answered t q a (Cpl.fail 0x00F1 0))) ∧
  (∀ (s : State) (q a c : Nat),
    (∀ e, c < 64 → coreEntry s c = some e → e.tile.isSome = true → e.cpl = none →
      ∃ t, exec (.tileMatchingParity q a (some c)) s = .next t ∧ answered t e.qp e.asn (Cpl.fail 0x00F1 0)) ∧
    (64 ≤ c → c < 68 → exec (.tileMatchingParity q a (some c)) s = .next { takeFault s c 12 with pending := s.pending }))

/-- Tile and quarter failure (01 R16, R21, R22; 03 R99, R100; 04 R123; 06 R178; 16 R452). -/
def Obligations.TilesAndQuartersFailAndRecover : Prop :=
  (∀ (s : State) (n : Nat), n < 16 → entriesNamed s →
    ((tileOf s n).fenced = false →
      (∃ t, exec (.keyCacheEccError n) s = .next t ∧ fencedFor s t n 1) ∧
      (homedOn s n ≠ [] → s.tamper.halt = false → ∃ t, exec (.watchdogExpiry n) s = .next t ∧ fencedFor s t n 2 ∧
        (tmemOf s n).heart + 100 ≤ t.now)) ∧
    ((tileOf s n).fenced = true → exec (.keyCacheEccError n) s = .next s) ∧
    ((tileOf s n).fenced = true ∨ homedOn s n = [] ∨ s.tamper.halt = true → exec (.watchdogExpiry n) s = .next s)) ∧
  (∀ (s : State) (q : Nat), q < 4 →
    ((quarterOf s q).failed = true → exec (.quarterStateError q) s = .next s) ∧
    ((quarterOf s q).failed = false → ∃ t, exec (.quarterStateError q) s = .next t ∧ quarterFailed t q 1) ∧
    (hasSend s q = false ∨ s.tamper.halt = true → exec (.hostFabricSilence q) s = .next s) ∧
    ((quarterOf s q).failed = false → hasSend s q = true → s.tamper.halt = false →
      ∃ t, exec (.hostFabricSilence q) s = .next t ∧ quarterFailed t q 3 ∧ (quarterOf s q).lastSend + 1000 ≤ t.now)) ∧
  (∀ (s : State) (q home : Nat), q < 16384 →
    let x := qpOf s q
    x.assigned = true → (quarterOf s x.home).failed = true → journalUp s = false ∨ (∀ u ∈ s.journal.units, u.quarter ≠ x.home) →
    (∀ y ∈ s.qps, y.2.assigned = true → y.2.home = x.home → q ≤ y.1) → minBy (qpsHomed s) (quartersUp s) = some home →
    ∃ t, exec (.queuePairRehome q) s = .next t ∧ (qpOf t q).home = home ∧
      ((tblFind (partOf s x.partition).quota home).isSome = true → operIn s x.partition home ≠ 3 →
        (qpOf t q).next = x.w ∧ (qpOf t q).flushed = x.w ∧ (qpOf t q).replayTop = journalTop s q x.w)) ∧
  (∀ (s : State) (n : Nat), n < 16 →
    (tileDiffers s n = false → exec (.tileDisagree n) s = .next s) ∧
    (tileDiffers s n = true → (tmemOf s n).differSince.isSome = true ∨ s.boot.booted = true →
      ∃ t, exec (.tileDisagree n) s = .next t ∧ (tmemOf t n).disagreed = true ∧
        ∀ k, (tmemOf s n).differSince = some k → k + 100000 ≤ t.now)) ∧
  (∀ (s : State) (n : Nat), n < 16 →
    ((tileOf s n).power ≠ 0 ∨ ((tmemOf s n).maskSeeded = false ∧ (tmemOf s n).moduleArea = none) → exec (.maskReseed n) s = .next s) ∧
    ((tileOf s n).power = 0 → (tmemOf s n).maskSeeded = true ∨ (tmemOf s n).moduleArea.isSome = true →
      let u := if (tmemOf s n).maskSeeded then advanceTo s ((tmemOf s n).maskAt + 2 ^ 32 / max 1 (tileOf s n).tclk) else s
      ∃ t, exec (.maskReseed n) s = .next t ∧
        match drawRandom u (n / 4) 32 with
        | .bytes b _ => (tmemOf t n).maskSeeded = true ∧ (tmemOf t n).maskAt = u.now ∧
            (tmemOf t n).mask = fit 16 (Config.maskSeed b) ∧ (drbgOf u (n / 4)).drawn + 32 ≤ (drbgOf t (n / 4)).drawn
        | _ => (tmemOf t n).mask = (tmemOf u n).mask ∧ (tmemOf t n).maskSeeded = (tmemOf s n).maskSeeded))

/-- RANDOM (13 R401, R406, R407; 04 R118). -/
def Obligations.RandomDescriptorsAreServedInTurn : Prop :=
  (∀ (s : State) (q a : Nat) (e : Entry), randomWaits s q a e →
    let n := dParamN e.desc % 2 ^ 14
    let d := drbgOf s e.quarter
    let served (x : Instr) : Prop := ∃ t, exec x s = .next t ∧ randomServed s t q a e ∧
      (drbgOf t e.quarter).drawn = d.drawn + n ∧ (drbgOf t e.quarter).buf = d.buf - n
    let parked (x : Instr) : Prop := ∃ t y k, exec x s = .next t ∧ entryOf t q a = some y ∧ y.park = .l7 (s.now + 1) k ∧ y.cpl = none
    let blocked (x : Instr) : Prop := ∃ t, exec x s = .next t ∧ answered t q a { Cpl.fail 0x0006 0 with cflags := 2 }
    (∀ st det, randomBad e.desc = some (st, det) → ∃ t, exec (.random q a) s = .next t ∧ answered t q a (Cpl.fail st det)) ∧
    (∀ x, x = .random q a ∧ (e.records ≠ 0 ∨ (reserveRecords s (qpOf s q).partition (randomRecords e.desc)).isSome = true) ∨
        x = .randomServe q a ∧ e.records ≠ 0 → randomBad e.desc = none →
      (d.state = 1 → n ≤ d.buf → served x) ∧
      (d.state = 1 → d.buf < n → parked x) ∧
      (d.state = 0 → s.rng.state = 2 ∨ s.rng.state = 3 → blocked x) ∧
      (d.state = 0 → s.rng.state ≠ 2 → s.rng.state ≠ 3 → parked x))) ∧
  (∀ (s : State) (q p : Nat) (e : Entry), q < 4 → s.tamper.halt = false → entriesNamed s → (drbgOf s q).state = 1 →
    rrNext (quarterOf s q).rrL7 (l7Parts s q) = some p → l7First s q p = some e →
    dParamN e.desc % 2 ^ 14 ≤ (drbgOf s q).buf →
    ∃ t, exec (.rngDeferralTick q) s = .next t ∧ randomServed s t e.qp e.asn e) ∧
  (∀ (s : State) (q : Nat), q < 4 → (∀ e ∈ s.entries, e.quarter = q → onL7 e = false) → exec (.rngDeferralTick q) s = .next s)

/-- The random source (13 R397, R399 to R405, R408 to R410). -/
def Obligations.TheRandomSourceStartsFailsAndReseeds : Prop :=
  (∀ (s : State), s.rng.testing = true →
    ∃ t, exec (.rngStartupTestDone .passed) s = .next t ∧ t.rng.testing = false ∧ t.rng.fails = 0 ∧
      s.rng.testAt + 2048 ≤ t.now ∧ (∀ i ∈ [4, 0, 1], (drbgOf t i).state = 1)) ∧
  (∀ (s : State), s.rng.testing = false → exec (.rngStartupTestDone .passed) s = .next s) ∧
  (∀ (s : State) (n : Nat) (apt : Bool), n < 8 → entriesNamed s →
    let failed (x : Instr) : Prop :=
      ∃ t, exec x s = .next t ∧ t.rng.failures = min (2 ^ 32 - 1) (s.rng.failures + 1) ∧
        t.rng.lastFail = n + (if apt then 8 else 0) + (if s.rng.testing then 16 else 0) ∧
        (s.rng.state = 2 ∨ s.rng.state = 3 → { t.rng with failures := s.rng.failures, lastFail := s.rng.lastFail } = s.rng) ∧
        (s.rng.state ≠ 2 → s.rng.state ≠ 3 → readersReleased s t ∧
          (s.rng.testing = true → 2 ≤ s.rng.fails → sourceIn t 2 false) ∧
          (s.rng.testing = true → s.rng.fails < 2 → sourceIn t 0 true ∧ t.rng.fails = s.rng.fails + 1) ∧
          (s.rng.testing = false → s.rng.fails < 3 → sourceIn t 0 true ∧ t.rng.fails = s.rng.fails))
    failed (.rngHealthFail n apt) ∧ (s.rng.testing = true → failed (.rngStartupTestDone (.failed n apt)))) ∧
  (∀ (s : State), s.rng.testing = true → exec .conditionerBlock s = .next s) ∧
  (∀ (s : State) (i : Nat),
    let u := condBlock s
    let d := drbgOf u i
    blockFor u = some i →
    (d.blocks = 0 → ∃ t, exec .conditionerBlock s = .next t ∧ (drbgOf t i).blocks = 1 ∧ (drbgOf t i).state = d.state) ∧
    (d.blocks = 1 → u.rng.state = 1 → ∃ t, exec .conditionerBlock s = .next t ∧ (drbgOf t i).blocks = 2) ∧
    (d.blocks = 1 → u.rng.state = 0 → ∃ t, exec .conditionerBlock s = .next t ∧ (drbgOf t i).state = 1 ∧
      (drbgOf t i).blocks = 0 ∧ ((∀ j < 5, j ≠ i → (drbgOf u j).state ≠ 0) → t.rng.state = 1))) ∧
  (∀ (s : State) (i : Nat), i < 5 →
    ((drbgOf s i).state ≠ 0 → (drbgOf s i).blocks = 2 → ∃ t, exec (.drbgReseed i) s = .next t ∧ (drbgOf t i).state = 1 ∧
      (drbgOf t i).blocks = 0 ∧ t.rng.reseeds = (s.rng.reseeds + 1) % 2 ^ 32) ∧
    ((drbgOf s i).state = 1 → 2 ^ 30 ≤ (drbgOf s i).out → ∃ t, exec (.rngReseedStall i) s = .next t ∧
      drbgOf t i = { drbgOf s i with state := 2 } ∧ t.rng.stalls = (s.rng.stalls + 1) % 2 ^ 32)) ∧
  (∀ (s : State) (n : Nat) (e : Estimates), n < 8 →
    ∃ t, exec (.rngEstimatePublish n e) s = .next t ∧ tblFind t.rng.est n = some e ∧ tblGet 0 s.rng.estAt n + 131072 ≤ t.now) ∧
  (∀ (s : State) (path : Path), granted s path .wo 0x6800 0x04 [1] →
    (s.rng.state = 2 → ∃ t, exec (.rngRestart path) s = .next t ∧ sourceIn t 0 true ∧ t.rng.fails = 0 ∧ replied s t path 0 []) ∧
    (s.rng.state ≠ 2 → ∃ t, exec (.rngRestart path) s = .next t ∧ t.rng = s.rng ∧ replied s t path 0x0006 [])) ∧
  (∀ (s : State) (path : Path) (on : Bool), granted s path .rwq 0x6800 0x07 [if on then 1 else 0] →
    (lifeCycle s ≤ 2 → path ≠ .tunnel →
      (on = true → s.rng.state ≠ 3 → entriesNamed s →
        ∃ t, exec (.rngRawMode path on) s = .next t ∧ sourceIn t 3 false ∧ readersReleased s t ∧ replied s t path 0 []) ∧
      (on = decide (s.rng.state = 3) → ∃ t, exec (.rngRawMode path on) s = .next t ∧ t.rng = s.rng ∧ replied s t path 0 []) ∧
      (on = false → s.rng.state = 3 →
        ∃ t, exec (.rngRawMode path on) s = .next t ∧ sourceIn t 0 true ∧ replied s t path 0 [])) ∧
    (lifeCycle s = 3 → roomToPropose s 0x6800 0x07 [if on then 1 else 0] →
      ∃ t, exec (.rngRawMode path on) s = .next t ∧ proposed s t path 0x6800 0x07 [if on then 1 else 0] ∧ t.rng = s.rng) ∧
    (4 ≤ lifeCycle s → ∃ t, exec (.rngRawMode path on) s = .next t ∧ t.rng = s.rng ∧ replied s t path 0x0009 []))

/-- The re-sequencer and the journal controller (02 R64 to R72; 03 R102; 04 R111 to R119; 06 R186; 07 R227). -/
def Obligations.CompletionsAreReleasedCountedAndCommitted : Prop :=
  (∀ (s : State) (q : Nat) (e : Entry) (c : Cpl), q < 16384 →
    let x := qpOf s q
    entryOf s q x.w = some e → e.cpl = some c → releasableButHead s x e = true →
    let slot := x.cqBase + 64 * (x.w % 2 ^ x.depthLog2)
    let outs := (e.input.map (fun o => o.outs)).getD []
    (headAllows x x.w = true →
      (∃ t, exec (.reseqRelease q true none) s = .next t ∧ (qpOf t q).w = (x.w + 1) % 2 ^ 48 ∧ (squashWaits s q = false → entryOf t q x.w = none) ∧
        written s t x false slot (cplBytes x x.w (dTag e.desc) c) ∧ ∀ y ∈ spread outs c.out, written s t x true y.1 y.2) ∧
      (∀ i, ∃ t, exec (.reseqRelease q true (some i)) s = .next t ∧ (qpOf t q).w = (x.w + 1) % 2 ^ 48 ∧
        (squashWaits s q = false → entryOf t q x.w = none) ∧ written s t x false slot (cplBytes x x.w (dTag e.desc) (if c.out = [] then c else Cpl.fail 0x0008 i))) ∧
      (∀ o, ∃ t, exec (.reseqRelease q false o) s = .next t ∧ (qpOf t q).cplErr = true ∧ (qpOf t q).w = x.w ∧
        t.hif.isr.getLsbD 6 = true ∧
        entryOf t q x.w = some { e with cpl := some (match o with
          | none => { c with out := [] }
          | some i => if c.out = [] then c else Cpl.fail 0x0008 i) })) ∧
    (headAllows x x.w = false → ∀ b o, exec (.reseqRelease q b o) s = .next s)) ∧
  (∀ (s : State) (q : Nat), q < 16384 → (qpOf s q).coalTime ≠ 0 → (qpOf s q).pendCount ≠ 0 → (qpOf s q).irqMask = false →
    ∃ t, exec (.coalTimeExpiry q) s = .next t ∧ (qpOf t q).pendCount = 0 ∧
      (qpOf s q).pendSince + (qpOf s q).coalTime ≤ t.now ∧ signalled s t (qpOf s q).func (qpOf s q).vector) ∧
  (∀ (s : State) (f : Nat) (p : Option Nat), s.hif.reads.length < 512 → ∃ t, exec (.flushingReadReturn f p) s = .next t ∧
    sentNow s t (.flushRead f p) ∧ ∀ q, qpOf t q = { qpOf s q with
      flushed := if (qpOf s q).func = f ∧ pasidOf (qpOf s q) = p then (qpOf s q).w else (qpOf s q).flushed }) ∧
  (∀ (s : State) (f : Nat) (p : Option Nat), 512 ≤ s.hif.reads.length → exec (.flushingReadReturn f p) s = .next s) ∧
  (∀ (s : State), journalUp s = true → ∃ t, exec .watermarkBatch s = .next t ∧ t.journal.batch = s.journal.batch + 1 ∧
    (∀ q, (qpOf s q).assigned = true → (qpOf t q).wm = (qpOf s q).flushed) ∧
    ∀ r ∈ t.journal.records, r.state ≠ 0 → r ∈ s.journal.records ∧ passed (qpOf t r.qp) r.asn = false) ∧
  (∀ (s : State), journalUp s = false → exec .watermarkBatch s = .next s ∧ exec .commitUnit s = .next s) ∧
  (∀ (s : State), nextUnit s = none → exec .commitUnit s = .next s) ∧
  (∀ (s : State) (u : CUnit), journalUp s = true → nextUnit s = some u → (batchOf s u).isSome = true →
    ∃ t i, exec .commitUnit s = .next t ∧ t.journal.isn = s.journal.isn + 1 ∧ t.journal.records = s.journal.records ∧
      { u with extDone := i } ∈ t.journal.units ∧ t.entries = s.entries) ∧
  (∀ (s : State) (u : CUnit), journalUp s = true → nextUnit s = some u → batchOf s u = none →
    ∃ t, exec .commitUnit s = .next t ∧ t.journal.isn = s.journal.isn + 1 ∧ t.journal.units = s.journal.units.erase u ∧
      (∃ r ∈ t.journal.records, r.isn = s.journal.isn ∧ r.state = 2 ∧ r.qp = u.rcd.qp ∧ r.asn = u.rcd.asn ∧ r.cpl = u.rcd.cpl) ∧
      (∀ e, entryOf s u.rcd.qp u.rcd.asn = some e → ∃ x, entryOf t u.rcd.qp u.rcd.asn = some x ∧ x.committed = true ∧
        x.journalled = true ∧ x.cpl.isSome = true ∧ x.grant = false) ∧
      (∀ i r l, u.rcd.effect = .record i r l → slotOf t i = nextVersion s i r) ∧
      (∀ w a n, u.rcd.effect = .nonceUse w a n → (s.journal.devA = true → tblFind t.journal.useA w = some s.journal.isn) ∧
        (s.journal.devB = true → tblFind t.journal.useB w = some s.journal.isn))) ∧
  (∀ (s : State), s.journal.devA = true →
    (s.journal.devB = true → ∃ t, exec (.journalDeviceFail 0) s = .next t ∧ t.journal = { s.journal with devA := false } ∧
      t.hif.failed = s.hif.failed) ∧
    (s.journal.devB = false → ∃ t, exec (.journalDeviceFail 0) s = .next t ∧ t.journal.devA = false ∧
      t.hif.failed = true ∧ t.hif.dpOpen = false)) ∧
  (∀ (s : State) (d : Nat), d < 2 → (if d = 0 then s.journal.devA else s.journal.devB) = false →
    exec (.journalDeviceFail d) s = .next s)

/-- Checkpoints and key operations (07 R214, R229, R230, R238 to R243; 10 R338). -/
def Obligations.KeyOperationsAndCheckpointsRun : Prop :=
  (∀ (s : State) (page i : Nat) (l : Line) (v : Sealed), page < 65536 → noKeyOps s → s.power.main = true →
    rrNext s.vault.rrCkpt (dirtyHolders s) = some (slotHolder s (64 * page)) → tblFind s.vault.lines i = some l →
    (i, l) ∈ s.vault.lines → lineDirty l = true → l.slot / 64 = page → lineVersion l = some v →
    (∀ j m, tblFind s.vault.lines j = some m → m.slot = l.slot → j = i) →
    ∃ t, exec (.checkpoint page) s = .next t ∧ tblFind t.vault.lines i = none ∧ tblFind t.vault.img0 l.slot = some v ∧
      tblFind t.vault.img1 l.slot = some v ∧
      (programPage s.vault.map0 s.vault.next0 page).1 = t.vault.map0 ∧ (programPage s.vault.map1 s.vault.next1 page).1 = t.vault.map1) ∧
  (∀ (s : State) (page : Nat), page < 65536 →
    s.power.main = false ∨ rrNext s.vault.rrCkpt (dirtyHolders s) ≠ some (slotHolder s (64 * page)) →
    exec (.checkpoint page) s = .next s) ∧
  (∀ (s : State) (path : Path) (action : Nat), granted s path .wo 0x5010 0x02 (leBytes 1 action) →
    let o := opOf s path false action
    (action < 1 ∨ 2 < action → ∃ t, exec (.keyOpAction path action) s = .next t ∧ t.vault = s.vault ∧ replied s t path 0x0008 []) ∧
    (action = 1 ∨ action = 2 → noKeyOps s → opRecord s o = none →
      ∃ t, exec (.keyOpAction path action) s = .next t ∧ t.vault.keyOpResult = 0x0012 ∧ replied s t path 0 []) ∧
    (noKeyOps s → ∀ i r, canRevoke s o i r →
      (action = 1 → ∃ t, exec (.keyOpAction path action) s = .next t ∧ revoked s t i r ∧ t.vault.keyOpResult = 0 ∧
        replied s t path 0 []) ∧
      (action = 2 → keyPinned s o.handle = false → r.extCount = 0 →
        ∃ t, exec (.keyOpAction path action) s = .next t ∧ destroyed s t i o.handle (r.lgen == 65535) ∧ t.vault.keyOpResult = 0 ∧
          replied s t path 0 []))) ∧
  (∀ (s : State) (path : Path) (action : Nat), action = 1 ∨ action = 2 → granted s path .rwq 0x5011 0x02 (leBytes 1 action) →
    let o := opOf s path true action
    (identityHandle s = true → ∃ t, exec (.modKeyOpAction path action) s = .next t ∧ t.vault = s.vault ∧ replied s t path 0x0006 []) ∧
    (identityHandle s = false →
      (∀ i r, lifeCycle s ≤ 2 → path ≠ .tunnel → noKeyOps s → canRevoke s o i r →
        (action = 1 → ∃ t, exec (.modKeyOpAction path action) s = .next t ∧ revoked s t i r ∧ t.vault.modKeyOpResult = 0 ∧
          replied s t path 0 []) ∧
        (action = 2 → keyPinned s o.handle = false → r.extCount = 0 →
          ∃ t, exec (.modKeyOpAction path action) s = .next t ∧ destroyed s t i o.handle (r.lgen == 65535) ∧
            t.vault.modKeyOpResult = 0 ∧ replied s t path 0 [])) ∧
      (lifeCycle s = 3 → roomToPropose s 0x5011 0x02 (leBytes 1 action) →
        ∃ t, exec (.modKeyOpAction path action) s = .next t ∧ proposed s t path 0x5011 0x02 (leBytes 1 action) ∧
          t.vault = s.vault) ∧
      (4 ≤ lifeCycle s → ∃ t, exec (.modKeyOpAction path action) s = .next t ∧ t.vault = s.vault ∧ replied s t path 0x0009 []))) ∧
  (∀ (s : State) (o : KeyOp) (i : Nat) (r : KeyRec), s.vault.op = some o → s.vault.waiting = [] → o.action = 2 →
    opRecord s o = some (i, r) → r.extCount = 0 → keyPinned s o.handle = false →
    (trustedCommit s i (freedRecord r (hSlot r.handle) (hGen r.handle) o.retire)).isSome = true →
    ∃ t, exec .keyDestroyFree s = .next t ∧ destroyed s t i o.handle o.retire) ∧
  (∀ (s : State), noKeyOps s → exec .keyDestroyFree s = .next s)

/-- The service engine's lock and operations (06 R193 to R195). That an ordinary release clears FORCED, and the numbers 1, 2 and 3 of
the engine statuses, are the model's choices (log 25). -/
def Obligations.TheServiceLockIsAskedForGrantedAndForced : Prop :=
  (∀ (s : State) (c : Nat), c < 4 →
    exec (.svcAcquire c) s = .next (withSvc s (fun v => { v with req := v.req ||| BitVec.ofNat 4 (2 ^ c) })) ∧
    exec (.svcCancel c) s = .next (withSvc s (fun v => { v with req := v.req &&& ~~~(BitVec.ofNat 4 (2 ^ c)) })) ∧
    (s.svc.held = true → s.svc.owner = c →
      exec (.svcRelease c) s = .next (withSvc s (fun v => { v with held := false, op := none, forced := false }))) ∧
    (¬ (s.svc.held = true ∧ s.svc.owner = c) → exec (.svcRelease c) s = .next s) ∧
    (c ≠ 0 → exec (.svcForce c) s = .next (withSvc s (fun v => { v with ignoredForces := v.ignoredForces + 1 })))) ∧
  (∀ (s : State), (s.svc.held = true → exec (.svcForce 0) s = .next (withSvc s forcedFree)) ∧
    (s.svc.held = false → exec (.svcForce 0) s = .next s)) ∧
  (∀ (s : State) (n : Nat), s.svc.held = false → 1 ≤ n → n ≤ 4 → s.svc.req.getLsbD ((s.svc.owner + n) % 4) = true →
    (∀ m, 1 ≤ m → m < n → s.svc.req.getLsbD ((s.svc.owner + m) % 4) = false) →
    let c := (s.svc.owner + n) % 4
    ∃ t, exec .svcGrant s = .next t ∧ t.svc.held = true ∧ t.svc.owner = c ∧ t.svc.since = s.now ∧
      t.svc.req = s.svc.req &&& ~~~(BitVec.ofNat 4 (2 ^ c)) ∧ t.svc.forced = s.svc.forced ∧ t.entries = s.entries) ∧
  (∀ (s : State), s.svc.held = true →
    ∃ t, exec .svcLockTimeout s = .next t ∧ t.svc = forcedFree s.svc ∧ s.svc.since + 50001 ≤ t.now ∧ s.now ≤ t.now) ∧
  (∀ (s : State) (x : SvcOp) (n : Nat), s.svc.op = some x →
    let named := (∃ y, tblFind s.svc.slots n = some y ∧ y.trusted = decide (x.core = 0)) ∧ (x.slot = none ∨ x.slot = some n)
    (named →
      (∃ t, exec (.svcOperationDone true n) s = .next t ∧ tblFind t.svc.status x.core = some 1 ∧ t.svc.op = some ⟨x.core, false, none⟩) ∧
      (x.again = false → exec (.svcOperationDone false n) s =
        .next (withSvc s (fun v => { v with op := some ⟨x.core, true, some n⟩ }))) ∧
      (x.again = true → ∃ t, exec (.svcOperationDone false n) s = .next t ∧ tblFind t.svc.status x.core = some 2 ∧
        t.svc.op = some ⟨x.core, false, none⟩)) ∧
    (¬ named → ∀ agree, exec (.svcOperationDone agree n) s = .next s))

/-- The management bus (10 R319 to R326, R338, R348). -/
def Obligations.TheManagementPortServesItsBus : Prop :=
  (∀ (s : State) (node role scope index : Nat) (body : List Byte), canSend s = true → 1 ≤ node → node ≤ 127 →
    let x : Instr := .fmpHello node role scope index body
    let good := shutOut s node = false ∧ helloOk role scope index = true ∧ helloBodyOk body = true
    (∀ sid, good → freeSid (withoutAttempt s node) = some sid → (drbgOf s 4).state = 1 → (drbgOf s 4).out < 2 ^ 30 →
      let h := handshake s sid (helloBytes role scope index body) (nextBytes s 4 112)
      1 ≤ sid ∧ sid ≤ 32 ∧ ∃ t, exec x s = .next t ∧
        (∃ a ∈ t.fmp.attempts, a.node = node ∧ a.sid = sid ∧ a.role = role ∧ a.scope = scope ∧ a.index = index ∧ a.since = s.now ∧
          a.th2 = h.th2 ∧ a.keys = h.keys)) ∧
    (∀ sid, good → freeSid (withoutAttempt s node) = some sid → drawRandom s 4 112 = .waits →
      ∃ t, exec x s = .next t ∧ ∃ y ∈ t.fmp.hellos, y.node = node ∧ y.body = body ∧ y.since = s.now) ∧
    (good → freeSid (withoutAttempt s node) = none ∨ drawRandom s 4 112 = .blocked →
      ∃ t, exec x s = .next t ∧ t.fmp.attempts = (withoutAttempt s node).fmp.attempts) ∧
    (¬ good → ∃ t, exec x s = .next t ∧ t.fmp.attempts = s.fmp.attempts)) ∧
  (∀ (s : State) (node : Nat) (ec pq : List Byte), canSend s = true → 1 ≤ node → node ≤ 127 →
    (s.fmp.attempts.find? (fun x => x.node == node) = none →
      ∃ t, exec (.fmpFinish node ec pq) s = .next t ∧ t.fmp.attempts = s.fmp.attempts ∧ t.fmp.sessions = s.fmp.sessions) ∧
    ∀ a, s.fmp.attempts.find? (fun x => x.node == node) = some a →
    (finishOk s a ec pq = true → ∃ t, exec (.fmpFinish node ec pq) s = .next t ∧ (∀ x ∈ t.fmp.attempts, x.node ≠ node) ∧
      ∃ x ∈ t.fmp.sessions, x.sid = a.sid ∧ x.node = node ∧ x.role = a.role ∧ x.scope = a.scope ∧ x.index = a.index ∧
        x.opened = s.evr.opMs ∧ x.keys = a.keys) ∧
    (finishOk s a ec pq = false → ∃ t, exec (.fmpFinish node ec pq) s = .next t ∧ (∀ x ∈ t.fmp.attempts, x.node ≠ node) ∧
      (if 4 ≤ (s.fmp.fails.filter (fun x => x.1 == node && decide (s.now < x.2 + 60000000))).length then
        (node, s.now + 60000000) ∈ t.fmp.ignored
      else (node, s.now) ∈ t.fmp.fails))) ∧
  (∀ (s : State) (node next : Nat) (x : FmpTx), canSend s = true → 1 ≤ node → node ≤ 127 → next ≤ 63 → txOf s node = some x →
    let n := x.acked + (next + 64 - x.acked % 64) % 64
    (n ≤ x.sent → n ≠ x.segs → ∃ t y, exec (.fmpAck node x.xfer next 0) s = .next t ∧ txOf t node = some y ∧ y.acked = n ∧
      y.resends = 0 ∧ y.sent = max x.sent (min x.segs (n + 32))) ∧
    (n ≤ x.sent → n = x.segs → ∃ t, exec (.fmpAck node x.xfer next 0) s = .next t ∧ transferEnded s t) ∧
    (n ≤ x.sent → ∃ t y, exec (.fmpAck node x.xfer next 1) s = .next t ∧ txOf t node = some y ∧ y.acked = n ∧
      y.sent = max n (min x.segs (n + 32))) ∧
    (∃ t, exec (.fmpAck node x.xfer next 2) s = .next t ∧ transferEnded s t) ∧
    (x.resends < 3 → ∃ t y, exec (.fmpAckTimeout node) s = .next t ∧ x.since + 50000 ≤ t.now ∧ txOf t node = some y ∧
      y.acked = x.acked ∧ y.resends = x.resends + 1 ∧ y.sent = max x.acked (min x.segs (x.acked + 32))) ∧
    (3 ≤ x.resends → ∃ t, exec (.fmpAckTimeout node) s = .next t ∧ transferEnded s t)) ∧
  (∀ (s : State) (node : Nat),
    (∀ x segs, s.fmp.rx.find? (fun y => y.node == node) = some x → ∃ t, exec (.fmpPartialTimeout node segs) s = .next t ∧
      x.since + 1000000 ≤ t.now ∧ ∀ y ∈ t.fmp.rx, y.node ≠ node) ∧
    (∀ segs, s.fmp.rx.find? (fun y => y.node == node) = none → canSend s = true → 1 ≤ node → node ≤ 127 → 0 < segs →
      ∃ t x, exec (.fmpPartialTimeout node segs) s = .next t ∧ t.fmp.rx.find? (fun y => y.node == node) = some x ∧ x.since = s.now ∧
        x.next = segs % 64 ∧ t.fmp.framesRx = (s.fmp.framesRx + segs) % 2 ^ 32 ∧
        t.fmp.framesTx = (s.fmp.framesTx + segs / 32) % 2 ^ 32) ∧
    (∀ a, s.fmp.attempts.find? (fun y => y.node == node) = some a → ∃ t, exec (.fmpHandshakeTimeout node) s = .next t ∧
      a.since + 10000000 ≤ t.now ∧ ∀ y ∈ t.fmp.attempts, y.node ≠ node) ∧
    (∀ x, s.fmp.ignored.find? (fun y => y.1 == node) = some x → ∃ t, exec (.fmpLockoutEnd node) s = .next t ∧ x.2 ≤ t.now ∧
      shutOut t node = false) ∧
    (∀ x, sessionOf s node = some x → ∃ t, exec (.fmpIdleExpiry node) s = .next t ∧
      x.last + 1000000 * objNat s 0x1110 0x02 600 ≤ t.now ∧ sessionEnded t node)) ∧
  (∀ (s : State) (node role scope index : Nat) (b c : List Byte), s.fmp.serving = false →
    exec (.fmpHello node role scope index b) s = .next s ∧ exec (.fmpFinish node b c) s = .next s ∧
      exec .fmpHeartbeat s = .next s ∧ (∀ tec rec, exec (.fmpBusOff tec rec) s = .next s) ∧ exec .fmpDupNode s = .next s) ∧
  (∀ (s : State), s.fmp.serving = true →
    (∃ t, exec .fmpHeartbeat s = .next t ∧ s.fmp.beat + 1000000 ≤ t.now ∧ t.fmp.beat = t.now ∧
      (s.fmp.busState ≠ 2 → sentNow s t (.frame (128 * 7 + s.fmp.node % 128) 0 (beatBytes s)))) ∧
    (∀ tec rec, s.fmp.busState ≠ 2 → ∃ t, exec (.fmpBusOff tec rec) s = .next t ∧ t.fmp.tec = tec ∧ t.fmp.rxErr = rec ∧
      t.fmp.busState = (if 255 < tec then 2 else if 127 < tec ∨ 127 < rec then 1 else 0) ∧
      t.fmp.busOff = (if 255 < tec then (s.fmp.busOff + 1) % 2 ^ 32 else s.fmp.busOff)) ∧
    (∀ tec rec, s.fmp.busState = 2 → ∃ t, exec (.fmpBusOff tec rec) s = .next t ∧ s.fmp.offAt + 1408 ≤ t.now ∧ t.fmp.busState = 0 ∧
      t.fmp.tec = 0 ∧ t.fmp.rxErr = 0 ∧ t.fmp.busOff = s.fmp.busOff) ∧
    (s.fmp.busState ≠ 2 → ∃ t, exec .fmpDupNode s = .next t ∧ t.fmp.dupNode = (s.fmp.dupNode + 1) % 2 ^ 32)) ∧
  (∀ (s : State) (node role scope index : Nat) (b c : List Byte), s.fmp.busState = 2 →
    exec (.fmpHello node role scope index b) s = .next s ∧ exec (.fmpFinish node b c) s = .next s ∧
      (∀ x n k, exec (.fmpAck node x n k) s = .next s) ∧ exec .fmpDupNode s = .next s) ∧
  (∀ (s : State) (path : Path) (v : Nat), granted s path .rwb 0x1100 0x04 (leBytes 1 v) →
    (v = 1 → ∃ t, exec (.fmpPortRestart path v) s = .next t ∧ t.fmp.sessions = [] ∧ t.fmp.attempts = [] ∧ t.fmp.tx = [] ∧
      t.fmp.serving = true ∧ t.fmp.node = objNat s 0x1100 0x01 1 ∧ t.fmp.rate = objNat s 0x1100 0x02 8 ∧
      t.fmp.term = objNat s 0x1100 0x03 1 ∧ replied s t path 0 []) ∧
    (v ≠ 1 → ∃ t, exec (.fmpPortRestart path v) s = .next t ∧ replied s t path 0x0008 []))

/-- Requests to the dictionary (10 R326 to R335; 11 R375; 13 R408; 14 R421; 17 R470). -/
def Obligations.RequestsAreAnsweredWithTheObject : Prop :=
  (∀ (s : State) (path : Path) (idx sub : Nat) (o : Obj) (r : Role), names s path 1 idx sub o r →
    let u := received s path 1 idx sub 0
    (readBar s r path idx sub o = 0 →
      (∀ v w, readAt s path true 0 → readSnap u path idx sub o none = .ok (v, w) →
        ∃ t, exec (.read path idx sub true 0) s = .next t ∧ sentNow s t (.response path 0 (firstPiece path v))) ∧
      (∀ n x, 0 < n → s.dict.xfers.find? (isXfer path false idx sub) = some x → x.pos = n → path = .tunnel → readAt s path false n →
        ∃ t, exec (.read path idx sub false n) s = .next t ∧ sentNow s t (.response path 0 ((x.data.drop n).take 2032))) ∧
      (idx = 0x6800 → sub = 9 → readAt s path true 0 → ∃ t, exec (.rngRawData path) s = .next t ∧ sentNow s t (.response path 0 (firstPiece path
        (if s.rng.state = 3 then (List.range 4096).map (fun i => Config.rawByte (s.rng.raw + i)) else [])))) ∧
      (idx = 0x2040 → sub = 3 → readAt s path true 0 → (∀ v, attValue u = .ok v →
        ∃ t, exec (.attStatement path) s = .next t ∧ sentNow s t (.response path 0 (firstPiece path v))) ∧
        (∀ c, attValue u = .error c → ∃ t, exec (.attStatement path) s = .next t ∧ replied s t path c [])) ∧
      (idx = 0x7001 → sub = 3 → readAt s path true 0 → ∃ t, exec (.evrRecords path) s = .next t ∧
        sentNow s t (.response path 0 (firstPiece path (recordsFrom s (cursorOf s path))))) ∧
      (idx = 0xA0F0 → sub = 2 → readAt s path true 0 → ∀ n, ∃ t, exec (.atbRaw path n) s = .next t ∧
        sentNow s t (.response path 0 (firstPiece path (leBytes 2 n)))))) ∧
  (∀ (s : State) (path : Path) (idx sub : Nat) (o : Obj) (r : Role), names s path 3 idx sub o r →
    (readRight r idx = true → ∃ t, exec (.info path idx sub) s = .next t ∧ replied s t path 0 (infoBytes o)) ∧
    (readRight r idx = false → ∃ t, exec (.info path idx sub) s = .next t ∧ replied s t path 0x0006 [])) ∧
  (∀ (s : State) (path : Path) (idx sub : Nat) (o : Obj) (r : Role) (v : List Byte), names s path 2 idx sub o r → v.length ≤ 2032 →
    (path = .tunnel → mbxCarries s (inOne v) = true) →
    let u := received s path 2 idx sub v.length
    let c := writeRight s r o.acc idx sub v
    (c ≠ 0 → ∃ t, exec (.write path idx sub (inOne v)) s = .next t ∧ replied s t path c []) ∧
    (c = 0 → o.acc = .rw → keepsValue path idx sub v u → accessBar u idx sub = false →
      (valueCode u idx sub o v = 0 → stateBar u idx sub v = false →
        ∃ t, exec (.write path idx sub (inOne v)) s = .next t ∧ replied s t path 0 [] ∧
          tblFind t.dict.store (idx * 256 + sub) = some v) ∧
      (valueCode u idx sub o v ≠ 0 → ∃ t, exec (.write path idx sub (inOne v)) s = .next t ∧
        replied s t path (valueCode u idx sub o v) [])) ∧
    (∀ t, c = 0 → path ≠ .tunnel → ownRow path idx sub v s = some (.next t) → valueCode u idx sub o v = 0 →
      exec (.write path idx sub (inOne v)) s = .next { t with pending := s.pending })) ∧
  (∀ (s : State) (path : Path) (idx sub : Nat) (r : Role), askerOf s path 1 idx sub = some r → 0xF000 ≤ idx → readAt s path true 0 →
    s.fw.recovery = false → tunnelOff s path = false →
    (readRight r idx = false ∨ diagReach s idx false = false →
      ∃ t, exec (.read path idx sub true 0) s = .next t ∧ replied s t path 0x0006 []) ∧
    (readRight r idx = true → diagReach s idx false = true → ∃ t c v, exec (.read path idx sub true 0) s = .next t ∧
      replied s t path c v ∧ (c = 0 ∨ c = 1 ∧ v = []))) ∧
  (∀ (s : State) (path : Path), tunnelOff s path = false →
    ((askerOf s path 4 0 0).isSome = true → ∃ t, exec (.cancel path) s = .next t ∧ (∀ x ∈ t.dict.xfers, x.path ≠ path) ∧ (∀ o ∈ t.vault.waiting, o.path ≠ some path) ∧
      replied s t path 0 []) ∧
    (∀ sid, (askerOf s path 5 0 0).isSome = true → path = .session sid → ∃ t, exec (.close path) s = .next t ∧ sessionEnded t sid ∧ sentNow s t (.response path 0 [])) ∧
    ((askerOf s path 5 0 0).isSome = true → path = .tunnel → ∃ t, exec (.close path) s = .next t ∧ replied s t path 0x0005 [])) ∧
  (∀ (s : State) (path : Path) (x : DictXfer), x ∈ s.dict.xfers → x.path = path →
    ∃ t, exec (.segmentTimeout path) s = .next t ∧ ∀ y ∈ t.dict.xfers, y ∈ s.dict.xfers ∧
      (y.path = path → t.now < y.last + 5000000))

/-- Quorum requests, ceremonies and script slots (10 R338 to R345, R349; 08 R266 to R268, R272). -/
def Obligations.QuorumCeremonyAndScriptSlotsFollowTheirWrites : Prop :=
  (∀ (s : State) (path : Path) (no who : Nat) (ec pq : List Byte) (r : QReq), granted s path .rwb 0x5210 0x01 [] →
    custodianOf s path = some (r.scope, who) → tblFind s.dict.reqs (no % 64) = some r → r.reqNo = no → r.state = 1 →
    s.evr.opMs < r.expires → r.due = none →
    let l := insertAsc who r.approvals
    let ok := entrySigsOk (rosterEntry s r.scope who) (reqStatement s r) ec pq
    (ok = true → who ∉ r.approvals → l.length < max r.need (quorumM s r.scope) →
      ∃ t, exec (.qrmApprove path no who ec pq) s = .next t ∧ tblFind t.dict.reqs (no % 64) = some { r with approvals := l } ∧
        replied s t path 0 []) ∧
    (ok = true → who ∉ r.approvals → max r.need (quorumM s r.scope) ≤ l.length →
      ∃ t, exec (.qrmApprove path no who ec pq) s = .next t ∧
        tblFind t.dict.reqs (no % 64) = some { r with approvals := l, due := some (nextTick s) } ∧ replied s t path 0 []) ∧
    (ok = true → who ∈ r.approvals → ∃ t, exec (.qrmApprove path no who ec pq) s = .next t ∧ t.dict.reqs = s.dict.reqs ∧
      replied s t path 0 []) ∧
    (ok = false → ∃ t, exec (.qrmApprove path no who ec pq) s = .next t ∧ t.dict.reqs = s.dict.reqs ∧ replied s t path 0x000F [])) ∧
  (∀ (s : State) (n : Nat) (r : QReq), n < 64 → tblFind s.dict.reqs n = some r → r.state = 1 →
    (r.due = none → ∃ t, exec (.quorumExpiry n) s = .next t ∧ requestEnded t n r 4 0x000D) ∧
    (∀ path, granted s path .wo (0x5220 + n) 7 [1] → path = r.origin → r.live = true →
      ∃ t, exec (.qrqWithdraw path n) s = .next t ∧ requestEnded t n r 5 0x000E ∧ replied s t path 0 []) ∧
    (∀ path, granted s path .wo (0x5220 + n) 7 [1] → path ≠ r.origin ∨ r.live = false →
      ∃ t, exec (.qrqWithdraw path n) s = .next t ∧ t.dict.reqs = s.dict.reqs ∧ replied s t path 0x0005 [])) ∧
  (∀ (s : State) (n d : Nat) (r : QReq), s.pending = [] →
    let u := pumpKeyOps (elapse s 1)
    let a := if sha3_384 r.value = r.digest then (applyRwq u r.origin r.index r.sub r.value).1 else 0x000E
    tblFind u.dict.reqs n = some r → r.state = 1 → r.due = some d → d ≤ u.now →
    (∀ x ∈ u.dict.reqs, x.1 ≠ n → x.2.due = none) →
    (quorumReached u r = true → ∃ t x, step s = .next t ∧ tblFind t.dict.reqs n = some x ∧ x.state = (if a = 0 then 2 else 3) ∧
      x.result = a) ∧
    (quorumReached u r = false → ∃ t, step s = .next t ∧ tblFind t.dict.reqs n = some { r with due := none })) ∧
  (∀ (s : State) (path : Path) (v : List Byte), granted s path .rwq 0x5100 0x01 v → v.length = 24 → cerOpenOk v = true →
    cerBusy s = false →
    let may := field v 0 2 = 0xFFFF ∨ (partOf s (field v 0 2)).created = true
    (lifeCycle s ≤ 2 → path ≠ .tunnel → may →
      ∃ t, exec (.cerOpen path v) s = .next t ∧ t.dict.cer.state = 1 ∧ t.dict.cer.scope = field v 0 2 ∧
        t.dict.cer.alg = field v 2 1 ∧ t.dict.cer.count = field v 3 1 ∧ t.dict.cer.template = slice v 8 16 ∧
        t.dict.cer.values = [] ∧ replied s t path 0 []) ∧
    (lifeCycle s ≤ 3 → lifeCycle s = 3 ∨ path ≠ .tunnel → ¬ may →
      ∃ t, exec (.cerOpen path v) s = .next t ∧ t.dict.cer = s.dict.cer ∧ t.dict.reqs = s.dict.reqs ∧ replied s t path 0x0009 []) ∧
    (lifeCycle s = 3 → may → roomToPropose s 0x5100 0x01 v →
      ∃ t, exec (.cerOpen path v) s = .next t ∧ proposed s t path 0x5100 0x01 v ∧ t.dict.cer = s.dict.cer)) ∧
  (∀ (s : State) (path : Path) (v : List Byte) (who : Nat), ceremonyWriter s path 0x04 v 1 who →
    let c := s.dict.cer
    let k := slice v 4 (cerKeyLen c.alg)
    let all := c.values ++ [(field v 0 1, k)]
    let sum := combine { c with values := all }
    (∀ w ∈ c.writers, w.2 ≠ who) → (∀ x ∈ c.values, x.1 ≠ field v 0 1) → v.length = 44 → componentOk c v = true →
    slice v 36 5 = kcvOf c.alg k →
    (all.length ≠ c.count → ∃ t, exec (.cerComponent path v) s = .next t ∧ t.dict.cer.values = all ∧
      t.dict.cer.writers = c.writers ++ [(pathNo path, who)] ∧ t.dict.cer.state = 1 ∧ replied s t path 0 []) ∧
    (all.length = c.count → weakKey c.alg sum = false → ∃ t, exec (.cerComponent path v) s = .next t ∧ t.dict.cer.state = 2 ∧
      t.dict.cer.key = sum ∧ t.dict.cer.kcv = kcvOf c.alg sum ∧ replied s t path 0 []) ∧
    (all.length = c.count → weakKey c.alg sum = true → ∃ t, exec (.cerComponent path v) s = .next t ∧ ceremonyAborted t ∧
      replied s t path 0x0011 [])) ∧
  (∀ (s : State) (path : Path) (v : List Byte) (who : Nat), ceremonyWriter s path 0x06 v 2 who → v.length = 5 →
    let c := s.dict.cer
    (v ≠ c.kcv → ∃ t, exec (.cerConfirm path v) s = .next t ∧ ceremonyAborted t ∧ replied s t path 0x0010 []) ∧
    (∀ h i r, v = c.kcv → cerTemplate c.alg c.template = some h → cerRecord s (cerNewKey c h) = some (i, r) →
      (trustedCommit s i r).isSome = true →
      ∃ t, exec (.cerConfirm path v) s = .next t ∧ t.dict.cer.state = 3 ∧ t.dict.cer.key = [] ∧ t.dict.cer.result = r.handle ∧
        slotOf t i = nextVersion s i r ∧ replied s t path 0 [])) ∧
  (∀ (s : State), cerBusy s = true →
    (∃ t, exec .cerTimeout s = .next t ∧ ceremonyAborted t) ∧
    (∀ path, granted s path .rwb 0x5100 0x08 [1] → (∀ x, custodianOf s path = some x → x.1 = s.dict.cer.scope) →
      ∃ t, exec (.cerAbort path) s = .next t ∧ ceremonyAborted t ∧ replied s t path 0 [])) ∧
  (∀ (s : State) (path : Path) (p n : Nat), p < 4096 → 1 ≤ n → n ≤ 64 →
    (∀ v, granted s path .wo (0x4000 + p) (0x4F + n) v →
      ∃ t, exec (.scriptImage path p n v) s = .next t ∧ replied s t path (scriptBar s p n v) [] ∧
        (scriptBar s p n v ≠ 0 → t.parts = s.parts ∧ t.ddr = s.ddr) ∧
        (scriptBar s p n v = 0 → ∃ a, scriptPlace s = some a ∧ tblFind (partOf t p).scripts n = some (scriptOf a v) ∧
          t.ddr = Memory.write s.ddr a v)) ∧
    (granted s path .wo (0x4000 + p) 0xD0 (leBytes 1 n) → (partOf s p).created = true →
      ∃ t, exec (.scriptRemove path p n) s = .next t ∧ tblFind (partOf t p).scripts n = none ∧ replied s t path 0 []))

/-- Tenant scripts from the check to the start (02 R62; 08 R265, R269, R270; 09 R282). -/
def Obligations.TenantScriptsAreInvokedAndLoaded : Prop :=
  (∀ (s : State) (q a : Nat) (e : Entry), q < 16384 → entryOf s q a = some e → invokeReady s e = true → e.script = .none →
    (e.image = none → ∃ t, exec (.tenantScriptInvoke q a) s = .next t ∧ answered t q a (Cpl.fail 0x0082 0)) ∧
    (∀ x, e.image = some x →
      ((∀ k < 4, bit x.keys k = true ∨ dKey e.desc k = 0) →
        ∃ t, exec (.tenantScriptInvoke q a) s = .next t ∧ entryOf t q a = some { e with script := .waiting } ∧
          t.cores = s.cores) ∧
      (∀ k < 4, bit x.keys k = false → dKey e.desc k ≠ 0 → (∀ j < k, bit x.keys j = true ∨ dKey e.desc j = 0) →
        ∃ t, exec (.tenantScriptInvoke q a) s = .next t ∧ answered t q a (Cpl.fail 0x0003 (dKeyOff k))))) ∧
  (∀ (s : State) (n : Nat) (e : Entry) (x : Script), n < 16 → entriesNamed s → tenantTurn s n = some e → e.image = some x →
    let c := 4 * n + 3
    let copied := Memory.read s.ddr x.addr x.len
    let kept := (tmemOf s n).scriptImage = some x.meas
    let b := if kept then x.image.take x.len else copied
    let size := field b 0x08 4
    ((coreOf s c).desc = none → kept ∨ sha3_384 copied = x.meas →
      ∃ t, exec (.tenantScriptLoad n e.qp e.asn) s = .next t ∧ entryOf t e.qp e.asn = some { e with script := .core c } ∧
        (tmemOf t n).rrTenant = (qpOf s e.qp).partition ∧ (tmemOf t n).scriptImage = some x.meas ∧
        coreOf t c = { EloaCore.script with
          code := Memory.write [] 0 (slice b 0x40 size)
          mem := Memory.write (Memory.write [] 0 (slice b (0x40 + size) (field b 0x0C 4))) 0x1F80 e.desc
          desc := some (e.qp, e.asn), dbg := (coreOf s c).dbg, ctl := { CoreCtl.reset with budget := e.budget }
          seenBudget := e.budget }) ∧
    ((coreOf s c).desc = none → ¬ kept → sha3_384 copied ≠ x.meas →
      ∃ t, exec (.tenantScriptLoad n e.qp e.asn) s = .next t ∧ answered t e.qp e.asn (Cpl.fail 0x00F1 0) ∧
        (tmemOf t n).scriptImage = none) ∧
    ((coreOf s c).desc.isSome = true → exec (.tenantScriptLoad n e.qp e.asn) s = .next s))

/-- Firmware update (11 R358 to R360, R367; 10 R337, R338). -/
def Obligations.FirmwareIsUpdatedActivatedAndFallsBack : Prop :=
  (∀ (s : State) (path : Path) (n : Nat), granted s path .wo 0x2020 0x02 (leBytes 4 n) →
    (1 ≤ n → n ≤ 16777216 → s.fw.state ≠ 1 → s.fw.state ≠ 4 → ∃ t, exec (.fwUpdStart path n) s = .next t ∧
      t.fw = { (modBank s (otherBank s) (fun _ => { present := true, images := [] })).fw with
        state := 1, result := 0, total := n, recv := [] } ∧ replied s t path 0 []) ∧
    (1 ≤ n → n ≤ 16777216 → s.fw.state = 1 ∨ s.fw.state = 4 →
      ∃ t, exec (.fwUpdStart path n) s = .next t ∧ t.fw = s.fw ∧ replied s t path 0x000B []) ∧
    (n = 0 ∨ 16777216 < n → ∃ t, exec (.fwUpdStart path n) s = .next t ∧ t.fw = s.fw ∧ replied s t path 0x0008 [])) ∧
  (∀ (s : State) (path : Path) (x : List Byte), granted s path .wo 0x2020 0x03 x →
    let b := otherBank s
    let v := s.fw.recv ++ x
    let u := modBank s b (fun k => { k with images := imagesIn 4096 v })
    let r := bankResult u b
    (1 ≤ x.length → x.length ≤ 65536 → s.fw.state = 1 →
      (s.fw.total < v.length → ∃ t, exec (.fwUpdData path x) s = .next t ∧
        t.fw = { s.fw with state := 3, result := 0x0008 } ∧ replied s t path 0x0008 []) ∧
      (v.length < s.fw.total → ∃ t, exec (.fwUpdData path x) s = .next t ∧ t.fw = { s.fw with recv := v } ∧
        replied s t path 0 []) ∧
      (v.length = s.fw.total → ∃ t, exec (.fwUpdData path x) s = .next t ∧
        t.fw = { u.fw with recv := v, state := if r = 0 then 2 else 3, result := r } ∧
        bankOf t (1 - b) = bankOf s (1 - b) ∧ replied s t path 0 [])) ∧
    (1 ≤ x.length → x.length ≤ 65536 → s.fw.state ≠ 1 →
      ∃ t, exec (.fwUpdData path x) s = .next t ∧ t.fw = s.fw ∧ replied s t path 0x0009 []) ∧
    (x.length = 0 ∨ 65536 < x.length →
      ∃ t, exec (.fwUpdData path x) s = .next t ∧ t.fw = s.fw ∧ replied s t path 0x0007 [])) ∧
  (∀ (s : State) (path : Path), granted s path .rwq 0x2020 0x06 (leBytes 1 1) →
    (lifeCycle s ≤ 2 ∧ path ≠ .tunnel ∨ lifeCycle s = 3 →
      (transitioning s = true → ∃ t, exec (.fwUpdActivate path) s = .next t ∧ t.fw = s.fw ∧ t.dict.reqs = s.dict.reqs ∧
        replied s t path 0x000B []) ∧
      (transitioning s = false → s.fw.state ≠ 2 → ∃ t, exec (.fwUpdActivate path) s = .next t ∧ t.fw = s.fw ∧
        t.dict.reqs = s.dict.reqs ∧ replied s t path 0x0009 [])) ∧
    (lifeCycle s ≤ 2 → path ≠ .tunnel → transitioning s = false → s.fw.state = 2 →
        ((∃ k ∈ [1, 3, 4], imageOf s 0 k ≠ imageOf s 1 k) → ∃ t, exec (.fwUpdActivate path) s = .next t ∧
          t.fw = { s.fw with state := 4 } ∧ replied s t path 0 []) ∧
        ((∀ k ∈ [1, 3, 4], imageOf s 0 k = imageOf s 1 k) → ∃ t, exec (.fwUpdActivate path) s = .next t ∧
          t.fw.boot = otherBank s ∧ t.fw.state = 0 ∧ t.fw.newSince = some s.evr.opMs ∧ t.fw.previous = some s.fw.boot ∧
          (∀ x ∈ t.fmp.sessions, x.role ≠ 1) ∧
          (∀ x ∈ s.fmp.sessions, x.role ≠ 1 → ∃ y ∈ t.fmp.sessions, y.sid = x.sid ∧ y.role = x.role) ∧
          (∀ m, 1 ≤ m → m ≤ 3 → (coreOf t (64 + m)).mem = [] ∧
            (coreOf t (64 + m)).code = codeFrom 2 (bodyOf s (otherBank s) 2) (64 + m)) ∧
          t.hif.dpOpen = s.hif.dpOpen ∧ t.hif.mbx.busy = false ∧ sentNow s t (.response path 0 []))) ∧
    (lifeCycle s ≤ 2 → path = .tunnel →
      ∃ t, exec (.fwUpdActivate path) s = .next t ∧ t.fw = s.fw ∧ replied s t path 0x0006 []) ∧
    (lifeCycle s = 3 → transitioning s = false → s.fw.state = 2 → roomToPropose s 0x2020 0x06 (leBytes 1 1) → ∃ t, exec (.fwUpdActivate path) s = .next t ∧
      proposed s t path 0x2020 0x06 (leBytes 1 1) ∧ t.fw = s.fw) ∧
    (lifeCycle s = 3 → transitioning s = false → s.fw.state = 2 → ¬ roomToPropose s 0x2020 0x06 (leBytes 1 1) → ∃ t, exec (.fwUpdActivate path) s = .next t ∧
      t.dict.reqs = s.dict.reqs ∧ t.fw = s.fw ∧ replied s t path 0x000B []) ∧
    (3 < lifeCycle s → ∃ t, exec (.fwUpdActivate path) s = .next t ∧ t.fw = s.fw ∧ replied s t path 0x0009 [])) ∧
  (∀ (s : State) (n : Nat), s.fw.newSince = some n →
    (∀ b, s.fw.previous = some b → ∃ t, exec .fwReadyTimeout s = .next t ∧ t.fw.boot = b ∧ t.fw.state = 3 ∧
      t.fw.newSince = none ∧ t.fw.previous = none ∧ (∀ x ∈ t.fmp.sessions, x.role ≠ 1) ∧
      (∀ m, 1 ≤ m → m ≤ 3 → (coreOf t (64 + m)).code = codeFrom 2 (bodyOf s b 2) (64 + m)) ∧
      (s.power.main = true → n + 10000 ≤ t.evr.opMs)) ∧
    (∃ t, exec .fwSecverRaise s = .next t ∧ t.fw.newSince = none ∧ t.fw.previous = none ∧ t.fw.boot = s.fw.boot ∧
      (s.power.main = true → n + 600000 ≤ t.evr.opMs) ∧
      t.fw.floors = [1, 2, 3, 4].map (fun k => match imageOf s s.fw.boot k with
        | some i => max i.secVersion (s.fw.floors.getD (k - 1) 0)
        | none => s.fw.floors.getD (k - 1) 0))) ∧
  (∀ (s : State), (s.fw.newSince = none → exec .fwSecverRaise s = .next s) ∧
    (s.fw.newSince = none ∨ s.fw.previous = none → exec .fwReadyTimeout s = .next s))

/-- Life cycle and debug (11 R361 to R372; 16 R451, R453). -/
def Obligations.LifeCycleTransitionsAndDebugAccess : Prop :=
  (∀ (s : State) (path : Path) (k : Nat), granted s path .rwq 0x2000 0x04 (leBytes 1 k) → 1 ≤ k → k ≤ 6 →
    (lifeCycle s ≤ 2 → path ≠ .tunnel →
      (transitioning s = false → mayTarget s k →
        ∃ t, exec (.lcTarget path k) s = .next t ∧ t.life = { s.life with request := some k } ∧ replied s t path 0 []) ∧
      (transitioning s = false → ¬ mayTarget s k →
        ∃ t, exec (.lcTarget path k) s = .next t ∧ t.life = s.life ∧ replied s t path 0x0009 []) ∧
      (transitioning s = true → k ≠ 6 →
        ∃ t, exec (.lcTarget path k) s = .next t ∧ t.life = s.life ∧ replied s t path 0x000B []) ∧
      (transitioning s = true → k = 6 → s.life.zeroised = false → s.life.request ≠ some 6 →
        ∃ t, exec (.lcTarget path k) s = .next t ∧ t.life = { s.life with request := some 6 } ∧ replied s t path 0 [])) ∧
    (lifeCycle s = 3 →
      (transitioning s = true → k ≠ 6 → ∃ t, exec (.lcTarget path k) s = .next t ∧ t.life = s.life ∧ t.dict.reqs = s.dict.reqs ∧
        replied s t path 0x000B []) ∧
      (transitioning s = false → transitionBar s k false ≠ 0 → ∃ t, exec (.lcTarget path k) s = .next t ∧ t.life = s.life ∧
        t.dict.reqs = s.dict.reqs ∧ replied s t path 0x0009 [])) ∧
    (lifeCycle s = 3 → transitioning s = false → transitionBar s k false = 0 → roomToPropose s 0x2000 0x04 (leBytes 1 k) →
      ∃ t, exec (.lcTarget path k) s = .next t ∧ t.life = s.life ∧ proposed s t path 0x2000 0x04 (leBytes 1 k)) ∧
    (4 ≤ lifeCycle s →
      ∃ t, exec (.lcTarget path k) s = .next t ∧ t.life = s.life ∧ replied s t path 0x0009 [])) ∧
  (∀ (s : State) (k : Nat), k = max (pendingTarget (otpWord s.life)) (s.life.request.getD 0) → 1 ≤ k → k ≤ 6 →
    (kekReady s k = true →
      ∃ t, exec .lcTransition s = .next t ∧ burnt s t (2 ^ (2 * k - 2) + 2 ^ (2 * k - 1)) ∧ t.life.request = none ∧
        t.fmp.sessions = [] ∧ t.life.scope = 0 ∧ lifeCycle t = otpState (otpWord t.life) ∧ t.life.mirror = k ∧
        (s.boot.held = none → t.hif.dpOpen = false ∧ (∀ x ∈ t.cores, x.2.dbg = 0) ∧ (s.boot.booted = true → t.life.barred = true) ∧
          (k ≠ 3 → tenancyErased s t) ∧ (k = 3 → t.parts = s.parts ∧ t.vault.slots = s.vault.slots) ∧
          t.vault.kek = (if k = 3 then s.vault.kek else if k = 6 then none else some (nextBytes s 4 32)) ∧
          (k = 6 → t.vault.rs = none ∧ t.life.bbram = false)) ∧
        (s.boot.held.isSome = true → transitioning t = false → t.boot.booted = true ∧ t.boot.step = 11 ∧ t.boot.held = none)) ∧
    (kekReady s k = false →
      ∃ t, exec .lcTransition s = .next t ∧ burnt s t (2 ^ (2 * k - 2)) ∧ t.life.request = s.life.request ∧
        t.hif.dpOpen = false ∧ t.fmp.sessions = [] ∧ (s.rng.state = 3 → t.rng.state = 0 ∧ t.rng.testing = true))) ∧
  (∀ (s : State), s.life.request = none → pendingTarget (otpWord s.life) = 0 → s.boot.held = none →
    exec .lcTransition s = .next s) ∧
  (∀ (s : State) (path : Path) (n : Nat), granted s path .rwb 0x2010 0x01 (leBytes 1 n) →
    (n ∈ [1, 2, 0x11, 0x12, 0x13, 0x14, 0x15, 0x16] →
      ((drbgOf s 4).state = 1 → (drbgOf s 4).out < 2 ^ 30 →
        let b := challengeBytes s n (nextBytes s 4 32)
        ∃ t, exec (.dbgRequest path n) s = .next t ∧ b.length = 112 ∧ tblFind t.dict.store 0x201002 = some b ∧
          t.life = { s.life with challenge := some ⟨n, sha3_384 b, s.evr.opMs, lifeCycle s⟩ } ∧ replied s t path 0 []) ∧
      ((drbgOf s 4).state = 0 → ∃ t, exec (.dbgRequest path n) s = .next t ∧ t.life = s.life ∧ replied s t path 0x0009 []) ∧
      ((drbgOf s 4).state ≠ 0 → ¬ ((drbgOf s 4).state = 1 ∧ (drbgOf s 4).out < 2 ^ 30) →
        ∃ t, exec (.dbgRequest path n) s = .next t ∧ t.life = { s.life with dbgWait := s.life.dbgWait ++ [(path, n)] })) ∧
    (n ∉ [1, 2, 0x11, 0x12, 0x13, 0x14, 0x15, 0x16] →
      ∃ t, exec (.dbgRequest path n) s = .next t ∧ t.life = s.life ∧ replied s t path 0x0008 [])) ∧
  (∀ (s : State) (path : Path) (v : List Byte), granted s path .rwb 0x2010 0x03 v →
    (v.length ≠ 4787 →
      ∃ t, exec (.dbgResponse path v) s = .next t ∧ t.life = s.life ∧ replied s t path 0x0007 []) ∧
    (v.length = 4787 → s.life.challenge = none →
      ∃ t, exec (.dbgResponse path v) s = .next t ∧ t.life = s.life ∧ replied s t path 0x000F []) ∧
    (∀ c, v.length = 4787 → s.life.challenge = some c →
      let refused (t : State) : Prop := t.life = s.life ∧ replied s t path 0x000F []
      (c.scope = 1 → ∃ t, exec (.dbgResponse path v) s = .next t ∧
        if responseOk s v = true then t.life = { s.life with challenge := none, scope := 1 } ∧ replied s t path 0 []
        else refused t) ∧
      (c.scope = 2 → ∃ t, exec (.dbgResponse path v) s = .next t ∧
        if responseOk s v = true then t.life.scope = 2 ∧ t.life.challenge = none ∧ t.life.identity = 2 ∧ t.life.zeroised = true ∧
          replied s t path 0 []
        else refused t) ∧
      (∀ k, c.scope = 0x10 + k → 1 ≤ k → k ≤ 6 →
        let r := (requestTransition s k true).1
        ∃ t, exec (.dbgResponse path v) s = .next t ∧
          if responseOk s v = true then t.life.challenge = none ∧ sentNow s t (.response path r []) ∧
            (if r = 0 then t.life.otpA.getLsbD (2 * k - 2) = true ∧ t.hif.dpOpen = false
            else t.life = { s.life with challenge := none })
          else refused t))) ∧
  (∀ (s : State) (path : Path), granted s path .rwb 0x2010 0x05 (leBytes 1 1) →
    ∃ t, exec (.dbgClose path) s = .next t ∧ t.life = { s.life with scope := 0 } ∧ replied s t path 0 [] ∧
      (s.life.scope ≠ 0 → ∀ x ∈ t.cores, x.2.dbg = 0) ∧ (s.life.scope = 2 → lifeCycle s = 5 → t.hif.dpOpen = false)) ∧
  (∀ (s : State) (c : Challenge), s.life.challenge = some c →
    ∃ t, exec .dbgChallengeExpiry s = .next t ∧ t.life = { s.life with challenge := none } ∧
      tblFind t.dict.store 0x201002 = none ∧ (s.power.main = true → c.since + 600000 ≤ t.evr.opMs)) ∧
  (∀ (s : State), s.life.challenge = none → exec .dbgChallengeExpiry s = .next s)

/-- Tamper detection and response (12 R378 to R395, R472, R473; 16 R452). -/
def Obligations.TamperEventsAreCountedAndAnswered : Prop :=
  (∀ (s : State) (i : Nat) (a b : Reading), i ≤ 8 → s.power.main = true →
    let u := sampleDue s i
    let far := if compareDue u i then excursion 0 true b else (srcT u 0).bBeyond
    let enters (t : State) : Prop := responded u t (rankFor u i) ∧ t.tamper.lastRank = rankFor u i ∧
      (2 ≤ respOf u i → nightsideHas t i (respOf u i) (rankFor u i) false)
    (quietPair i a b → noAlarm u i far →
      ∃ t, exec (.tamperSample i a b) s = .next t ∧ (srcT t i).sampledAt = u.now ∧ (srcT t i).history = (srcT u i).history ∧
        (srcT t i).events = (srcT u i).events ∧ (srcT t i).runs = (if compareDue u i then 0 else (srcT u i).runs) ∧ t.evr = u.evr ∧
        t.tamper.halt = u.tamper.halt) ∧
    (quietPair i a b → standsInAlarm u i false far → (srcT u i).alarm = false → respOf u i ≤ 4 →
      ∃ t, exec (.tamperSample i a b) s = .next t ∧ enters t) ∧
    (loudPair i a b →
      (¬ standsInAlarm u i true true → ∃ t, exec (.tamperSample i a b) s = .next t ∧ (srcT t i).alarm = false ∧
        (srcT t i).events = min (2 ^ 32 - 1) ((srcT u i).events + 1) ∧ (srcT t i).history = (u.now :: (srcT u i).history).take 15 ∧
        responded u t 0) ∧
      (standsInAlarm u i true true → (srcT u i).alarm = true → ∃ t, exec (.tamperSample i a b) s = .next t ∧
        (srcT t i).alarm = true ∧ responded u t 0) ∧
      (standsInAlarm u i true true → (srcT u i).alarm = false → respOf u i ≤ 4 →
        ∃ t, exec (.tamperSample i a b) s = .next t ∧ enters t))) ∧
  (∀ (s : State) (i : Nat) (x y : Reading), i ≤ 7 → i ≠ 5 → i ≠ 6 → s.power.main = true → x.plausible = true → y.plausible = false →
    excursion i false x = false → excursion i true y = false →
    let u := sampleDue s i
    compareDue u i = true → noAlarm u i false →
    ((srcT u i).runs < 15 → ∃ t, exec (.tamperSample i x y) s = .next t ∧ (srcT t i).runs = (srcT u i).runs + 1 ∧
      (srcT t 9).events = (srcT u 9).events) ∧
    ((srcT u i).runs = 15 → (srcT u 9).alarm = false → respOf u 9 ≤ 3 → ∃ t, exec (.tamperSample i x y) s = .next t ∧
      (srcT t i).runs = 0 ∧ (srcT t i).disagree = min (2 ^ 32 - 1) ((srcT u i).disagree + 1) ∧
      (srcT t 9).events = min (2 ^ 32 - 1) ((srcT u 9).events + 1) ∧ responded u t (rankFor u 9))) ∧
  (∀ (s : State) (i : Nat) (a b : Reading), i ≤ 8 → s.power.main = false → exec (.tamperSample i a b) s = .next s) ∧
  (∀ (s : State) (l : List BurstReading),
    let u := advanceTo s (s.power.lostAt.max s.tamper.burstAt + 2000)
    let up := s.power.main = false ∧ 2000 ≤ s.power.backupMv ∧ s.power.backupMv ≤ 5500
    (up → quietBurst u l 9 → ∃ t, exec (.nightsideBurst l) s = .next t ∧ t.tamper.burstAt = u.now ∧ t.tamper.log = u.tamper.log ∧
      t.tamper.latch = u.tamper.latch ∧ ∀ i ≤ 8, (srcT t i).history = (srcT u i).history) ∧
    (∀ i x, up → quietBurst u l i → i ∈ burstSources u → burstReading l i = some x → loudPair i x.a x.b →
      standsInAlarm u i true true → (srcT u i).alarm = false → u.tamper.zeroedBackup = false →
      let r := rankFor u i
      ∃ t, exec (.nightsideBurst l) s = .next t ∧ nightsideHas t i (respOf u i) r true ∧
        (r = 2 ∨ r = 3 → t.tamper.latch = true ∧ (r = 3 → t.tamper.restorePending = true) ∧ t.vault = u.vault) ∧
        (r = 4 → t.vault.rs = none ∧ t.vault.kek = none ∧ t.life.bbram = false ∧ t.tamper.zeroedBackup = true)) ∧
    (¬ up ∨ (∃ i ∈ burstSources u, burstReading l i = none) → exec (.nightsideBurst l) s = .next s)) ∧
  (∀ (s : State) (mv : Nat),
    let again := s.tamper.zeroedBackup = true ∧ 8 ∈ s.tamper.zeroedOn
    (s.power.main = true ∨ 2000 ≤ mv →
      exec (.backupUndervoltage mv) s = .next { s with power := { s.power with backupMv := mv } }) ∧
    (s.power.main = false → mv < 2000 → 0 < mv →
      (lifeCycle s ≠ 0 → ¬ again → ∃ t, exec (.backupUndervoltage mv) s = .next t ∧ t.vault.rs = none ∧ t.vault.kek = none ∧
        t.life.bbram = false ∧ t.tamper.zeroedBackup = true ∧ nightsideHas t 8 4 4 true) ∧
      (lifeCycle s = 0 → ¬ again → ∃ t, exec (.backupUndervoltage mv) s = .next t ∧ t.vault = s.vault ∧ nightsideHas t 8 4 1 true) ∧
      (again → ∃ t, exec (.backupUndervoltage mv) s = .next t ∧ t.vault = s.vault ∧ t.tamper.log.length = s.tamper.log.length)) ∧
    (s.power.main = false → mv = 0 → ∃ t, exec (.backupUndervoltage mv) s = .next t ∧ t.vault.rs = none ∧ t.vault.kek = none ∧
      t.life.bbram = false ∧ t.tamper.log = [])) ∧
  (∀ (s : State) (g : ShadowGroup), groupOk g = true →
    let u := shadowEffect (settleLogic s) g
    (s.power.main = false → nightGroup g = false → exec (.shadowMismatch g) s = .next s) ∧
    (s.power.main = true ∨ nightGroup g = true → leavesMismatch s g = true →
      (respOf s 10 ≤ 3 → g ≠ .response 10 →
        ∃ t, exec (.shadowMismatch g) s = .next t ∧ restricted s t g ∧ t.tamper.logicAlarm = true ∧
          t.tamper.shadowEvents = min (2 ^ 32 - 1) (s.tamper.shadowEvents + 1)) ∧
      (s.power.main = true → lifeCycle u ≠ 0 → (srcT s 10).alarm = false →
        ∀ r, r = (if g = .response 10 then 4 else respOf s 10) → r = 3 ∨ r = 4 →
        ∃ t, exec (.shadowMismatch g) s = .next t ∧ responded s t r))) ∧
  (∀ (s : State) (path : Path), granted s path .rwq 0x6000 0x04 (leBytes 1 1) →
    let free := (srcT s 10).alarm = false ∧ ∀ i ≤ 10, ¬ barsRelease s i
    (lifeCycle s ≤ 2 → path ≠ .tunnel → free → ∃ t, exec (.tmpHaltRelease path) s = .next t ∧
      (s.tamper.halt = true → t.tamper.halt = false ∧ t.tamper.latch = false ∧ t.tamper.restorePending = false ∧
        t.hif.isr.getLsbD 2 = true) ∧ replied s t path 0 []) ∧
    (lifeCycle s ≤ 2 ∧ path ≠ .tunnel ∨ lifeCycle s = 3 → ∀ i ≤ 9, barsRelease s i →
      ∃ t, exec (.tmpHaltRelease path) s = .next t ∧ t.tamper.halt = s.tamper.halt ∧ t.dict.reqs = s.dict.reqs ∧
        replied s t path 0x0009 []) ∧
    (lifeCycle s ≤ 2 → path = .tunnel →
      ∃ t, exec (.tmpHaltRelease path) s = .next t ∧ t.tamper = s.tamper ∧ replied s t path 0x0006 []) ∧
    (lifeCycle s = 3 → free → roomToPropose s 0x6000 0x04 (leBytes 1 1) → ∃ t, exec (.tmpHaltRelease path) s = .next t ∧
      proposed s t path 0x6000 0x04 (leBytes 1 1) ∧ t.tamper = s.tamper) ∧
    (3 < lifeCycle s → ∃ t, exec (.tmpHaltRelease path) s = .next t ∧ t.tamper = s.tamper ∧ replied s t path 0x0009 []))

/-- The event recorder beside its records (14 R411 to R423). -/
def Obligations.TheRecorderFlushesAnchorsAndDegrades : Prop :=
  (∀ (s : State),
    (s.evr.mode ≠ 0 → exec .evrFlush s = .next s) ∧
    (s.evr.mode = 0 → s.evr.devA = true ∨ s.evr.devB = true →
      let u := advanceTo s (s.evr.lastFlush + 1000000)
      ∃ t, exec .evrFlush s = .next t ∧ t.evr.buffer = [] ∧ t.evr.lastFlush = u.now ∧ s.evr.lastFlush + 1000000 ≤ t.now ∧
        (u.evr.held.length + u.evr.buffer.length ≤ 262144 → t.evr.held = u.evr.held ++ u.evr.buffer)) ∧
    (s.evr.mode = 0 → s.evr.devA = false → s.evr.devB = false →
      exec .evrFlush s = .next (advanceTo s (s.evr.lastFlush + 1000000))) ∧
    (s.power.main = true →
      let u := advanceOp s (s.evr.saved + 1000)
      exec .opTimeSave s = .next { u with evr := { u.evr with saved := u.evr.opMs } } ∧ s.evr.saved + 1000 ≤ u.evr.opMs) ∧
    (s.power.main = false → exec .opTimeSave s = .next s)) ∧
  (∀ (s : State) (code : Nat),
    (code ∉ evCodes ∨ (evLimitOf s code).pending = 0 → exec (.evrCarrier code) s = .next s) ∧
    (code ∈ evCodes → (evLimitOf s code).pending ≠ 0 →
      let u := carrierDue s code
      1000 ≤ (evRefill u (evLimitOf u code)).tokens → u.evr.buffer.length < 254 → u.evr.held.length + 256 ≤ 262144 →
      ∃ t, exec (.evrCarrier code) s = .next t ∧ (evLimitOf s code).lastEvent + 1000000 ≤ t.now ∧ (evLimitOf t code).pending = 0 ∧
        t.evr.seq = u.evr.seq + 1 ∧
        ∃ r ∈ t.evr.buffer ++ t.evr.held, r.code = code ∧ r.carrier = true ∧ r.suppressed = (evLimitOf u code).pending ∧
          r.data = zeros 28 ∧ r.seq = u.evr.seq + 1 ∧ (code < 0x6000 ∨ 0x600A < code → r.severity = evSeverity code))) ∧
  (∀ (s : State),
    let u := advanceOp s (s.evr.lastAnchor + 86400000)
    (s.evr.wall = none → exec .evrAnchor s = .next s) ∧
    (s.evr.wall ≠ none → roomToRecord u 0x1003 → ∃ t, exec .evrAnchor s = .next t ∧ t.evr.lastAnchor = t.evr.opMs ∧
      (s.power.main = true → s.evr.lastAnchor + 86400000 ≤ t.evr.opMs) ∧ t.evr.wall = s.evr.wall ∧
      recordedIn t 0x1003 (anchorData (wallNow t) (wallNow t) 0xFF 2))) ∧
  (∀ (s : State) (path : Path) (ms : Nat), granted s path .rw 0x7000 0x0B (leBytes 6 ms) →
    (ms < 2 ^ 48 → roomToRecord s 0x1003 → ∃ t, exec (.evrWallClock path ms) s = .next t ∧
      t.evr.wall = some (ms, s.evr.opMs) ∧ t.evr.lastAnchor = s.evr.opMs ∧ replied s t path 0 [] ∧
      recordedIn t 0x1003 (anchorData ms (wallNow s) (pathNo path)
        (if s.evr.wall = none then 3 else if ms < wallNow s then 1 else 0))) ∧
    (2 ^ 48 ≤ ms → ∃ t, exec (.evrWallClock path ms) s = .next t ∧ t.evr = s.evr ∧ replied s t path 0x0008 [])) ∧
  (∀ (s : State) (d : Nat), d < 2 →
    (s.evr.devA = true → s.evr.devB = true → roomToRecord s 0x7002 → ∃ t, exec (.recorderMemFail d) s = .next t ∧
      t.evr.devA = decide (d = 1) ∧ t.evr.devB = decide (d = 0) ∧ t.evr.mode = s.evr.mode ∧
      recordedIn t 0x7002 (leBytes 1 (evrModeOf t) ++ leBytes 1 (2 - d))) ∧
    ((if d = 0 then s.evr.devA = true ∧ s.evr.devB = false else s.evr.devA = false ∧ s.evr.devB = true) → roomToRecord s 0x7003 →
      ∃ t, exec (.recorderMemFail d) s = .next t ∧ t.evr.devA = false ∧ t.evr.devB = false ∧ t.evr.mode = 2 ∧
        recordedIn t 0x7003 (leBytes 1 2 ++ leBytes 1 0) ∧
        (∃ x ∈ t.tamper.log, x.source = 10 ∧ x.asked = 1 ∧ x.done = 1 ∧ x.sampleA = 0xEC03)) ∧
    ((if d = 0 then s.evr.devA else s.evr.devB) = false → exec (.recorderMemFail d) s = .next s))

/-- Power, thermal control, wear and the backup source (04 R130, R131; 15 R427 to R444; 17 R470). -/
def Obligations.PowerThrottleWearAndBackupAreMeasured : Prop :=
  (∀ (s : State) (mv : Nat), s.power.tRestr ≤ s.power.tOpen → s.power.gate ≤ 2 →
    let now := (advanceTo s (s.power.gateAt + 100)).now
    let held : Prop := ∃ x, s.power.pulseHold = some x ∧ now < x
    (s.power.main = false → exec (.gateCompute mv) s = .next s) ∧
    (s.power.main = true →
      ∃ t, exec (.gateCompute mv) s = .next t ∧ (held → t.power.bankMv = s.power.bankMv) ∧ (¬ held → t.power.bankMv = mv) ∧
        s.power.gateAt + 100 ≤ t.now ∧
        (let e := energyAt s.power.capMf s.power.esrUohm t.power.bankMv
         t.power.energyMj = e ∧ (e < s.power.tRestr → t.power.gate = 2) ∧
         (s.power.tRestr ≤ e → e < s.power.tOpen →
           t.power.gate = (if s.power.gate ≤ 1 then 1 else if s.power.gate = 2 ∧ 10 ≤ s.power.upCount + 1 then 1 else s.power.gate)) ∧
         (s.power.tOpen ≤ e → t.power.gate = (if s.power.gate = 0 ∨ 10 ≤ s.power.upOpen + 1 then 0
           else if s.power.gate = 2 ∧ 10 ≤ s.power.upCount + 1 then 1 else s.power.gate))) ∧
        (t.power.gate ≠ s.power.gate → t.hif.isr.getLsbD 3 = true))) ∧
  (∀ (s : State) (q rise : Nat) (clean : Bool),
    let now := (match s.power.esrAt with
      | some a => advanceOp s (a + 86400000)
      | none => s).now
    (clean = true → 1000 ≤ rise → s.power.main = true → ∃ t, exec (.capacitanceMeasure q rise clean) s = .next t ∧
      t.power.capMf = min 65535 (q / rise) ∧ t.power.esrUohm = s.power.esrUohm ∧ replanned t) ∧
    (clean = false ∨ rise < 1000 ∨ s.power.main = false → exec (.capacitanceMeasure q rise clean) s = .next s) ∧
    (s.power.main = true → ∃ t, exec (.esrPulse q) s = .next t ∧ t.power.esrUohm = min (2 ^ 32 - 1) (q / 5) ∧
      t.power.capMf = s.power.capMf ∧ t.power.pulseHold = some (now + 2000) ∧ t.power.esrAt = some t.evr.opMs ∧ replanned t) ∧
    (s.power.main = false → exec (.esrPulse q) s = .next s)) ∧
  (∀ (s : State) (dw : Nat),
    let cap := 10 * objNat s 0x7800 0x03 110
    (s.power.main = false → exec (.powerCapCheck dw) s = .next s) ∧
    (s.power.main = true →
      ∃ t, exec (.powerCapCheck dw) s = .next t ∧ t.power.inputDw = dw % 65536 ∧ t.power.capAt = t.now ∧ s.power.capAt + 1000 ≤ t.now ∧
        (cap < dw → steppedDown s t ∧ bit t.power.throttle 1 = true) ∧
        (dw ≤ cap → cap < dw + 50 → ceilingsKept s t ∧ t.power.throttle = s.power.throttle) ∧
        (dw + 50 ≤ cap → bit t.power.throttle 1 = false ∧
          (bit s.power.throttle 0 = true ∨ s.therm.hard = true → ceilingsKept s t) ∧
          (bit s.power.throttle 0 = false → s.therm.hard = false → steppedUp s t)))) ∧
  (∀ (s : State) (d : Int) (l : List Int) (dw : Nat),
    let x := l.foldl max d
    let lim : Int := 10 * objNat s 0x7820 0x04 80
    (s.power.main = false → exec (.thermalPredict (d :: l) dw) s = .next s) ∧ exec (.thermalPredict [] dw) s = .next s ∧
    (s.power.main = true →
      ∃ t, exec (.thermalPredict (d :: l) dw) s = .next t ∧ t.therm.core = x ∧ t.therm.diodes = (d :: l).take 4 ∧
        t.therm.predAt = t.now ∧ s.therm.predAt + 10000 ≤ t.now ∧
        (let p : Int := dw * 1000000
         t.therm.slow = s.therm.slow + (p - s.therm.slow) / 9000 ∧ t.therm.pred = x + 849 * (p - t.therm.slow) / 10000000000) ∧
        (t.therm.hard = true ↔ (880 < x ∨ (s.therm.hard = true ∧ 800 ≤ x))) ∧
        (t.therm.hard = true → t.power.tCeil = 600 ∧ t.power.pCeil = 600 ∧ bit t.power.throttle 0 = true) ∧
        (t.therm.hard = false → lim < t.therm.pred → steppedDown s t ∧ bit t.power.throttle 0 = true) ∧
        (t.therm.hard = false → t.therm.pred < lim - 30 → bit t.power.throttle 0 = false ∧
          (bit s.power.throttle 1 = true → ceilingsKept s t) ∧ (bit s.power.throttle 1 = false → steppedUp s t)) ∧
        (t.therm.hard = false → t.therm.pred ≤ lim → lim - 30 ≤ t.therm.pred → ceilingsKept s t))) ∧
  (∀ (s : State) (n : Nat) (pke : Bool), n < 16 →
    ((tileOf s n).power ≤ 1 → ∃ t, exec (.clockStep n pke) s = .next t ∧ t.now = s.now + 2 ∧
      (if pke = true then (tileOf t n).pclk = stepToward (tileOf s n).pclk (targetClk s n true) ∧ (tileOf t n).tclk = (tileOf s n).tclk
       else (tileOf t n).tclk = stepToward (tileOf s n).tclk (targetClk s n false) ∧ (tileOf t n).pclk = (tileOf s n).pclk)) ∧
    (2 ≤ (tileOf s n).power → exec (.clockStep n pke) s = .next s)) ∧
  (∀ (s : State) (n : Nat) (l : List Int) (ro : List Nat), n < 16 →
    ((tileOf s n).power ≠ 0 → exec (.wearMeasure n l ro) s = .next s) ∧
    ((tileOf s n).power = 0 → ∃ t, exec (.wearMeasure n l ro) s = .next t ∧ (tileOf t n).slack = l ∧ (tileOf t n).ro = ro ∧
      (s.power.main = true → tblGet 0 s.therm.measured n + 600000 ≤ t.evr.opMs) ∧
      ((∀ x ∈ l, 12 < x) → (tileOf t n).volt = (tileOf s n).volt ∧ (tileOf t n).planTclk = (tileOf s n).planTclk) ∧
      ((∃ x ∈ l, x ≤ 12) → (tileOf s n).volt < 850 → (tileOf t n).volt = (tileOf s n).volt + 5) ∧
      ((∃ x ∈ l, x ≤ 12) → 850 ≤ (tileOf s n).volt → (tileOf t n).planTclk = max 1000 ((tileOf s n).planTclk - 25)))) ∧
  (∀ (s : State),
    (∃ t, exec .wearPlan s = .next t ∧ tilesPlanned s t ∧ (s.power.main = true → s.therm.wearLast + 86400000 ≤ t.evr.opMs)) ∧
    (∀ path, granted s path .wo 0x7830 0x02 (leBytes 1 1) →
      ∃ t, exec (.wearPlanNow path) s = .next t ∧ tilesPlanned s t ∧ replied s t path 0 [])) ∧
  (∀ (s : State) (rest load : Nat),
    (s.power.main = false → exec (.backupLoadTest rest load) s = .next s) ∧
    (s.power.main = true → respOf s 8 ≤ 2 → ∃ t, exec (.backupLoadTest rest load) s = .next t ∧ t.therm.batRest = rest % 65536 ∧
      t.therm.batLoad = load % 65536 ∧ t.therm.batFirst = some (s.therm.batFirst.getD (rest - load)) ∧
      t.therm.batLimit = min 600 (2 * s.therm.batFirst.getD (rest - load)) ∧
      (let a : Reading := { beyond := decide (rest < 2200), plausible := true, sample := rest }
       let b : Reading := { beyond := decide (t.therm.batLimit < rest - load), plausible := true, sample := rest - load }
       (srcT t 8).events = if excursion 8 false a = true ∨ excursion 8 true b = true then min (2 ^ 32 - 1) ((srcT s 8).events + 1)
        else min (2 ^ 32 - 1) (srcT s 8).events))) ∧
  (∀ (s : State) (path : Path), granted s path .wo 0x7840 0x08 (leBytes 1 1) →
    (s.ident.external = true → ∃ t, exec (.batReplaced path) s = .next t ∧
      t.therm = { s.therm with batFirst := none, batDrawn := 0 } ∧ replied s t path 0 []) ∧
    (s.ident.external = false → ∃ t, exec (.batReplaced path) s = .next t ∧ t.therm = s.therm ∧ replied s t path 0x0006 [])) ∧
  (∀ (s : State) (a b : Nat),
    let off : Prop := s.power.bankMv + 20 < a + b ∨ a + b + 20 < s.power.bankMv
    (off → s.therm.drift = false → ∃ t, exec (.measureDrift a b) s = .next t ∧ t.therm.drift = true ∧
      (roomToRecord s 0x7802 → recordedIn t 0x7802 (leBytes 2 (a + b) ++ leBytes 2 s.power.bankMv))) ∧
    (¬ off ∨ s.therm.drift = true → exec (.measureDrift a b) s = .next s))

/-- Tile power and administration, and test access (01 R22; 03 R98, R101; 11 R372; 15 R435 to R438, R445, R447; 17 R467 to
R470). -/
def Obligations.TilesSleepWakeAndAreTested : Prop :=
  (∀ (s : State) (path : Path) (n v : Nat), n < 16 →
    (granted s path .rw (0x8000 + n) 0x02 (leBytes 1 v) →
      (1 < v → ∃ t, exec (.tilePower path n v) s = .next t ∧ t.tiles = s.tiles ∧ replied s t path 0x0008 []) ∧
      (v = 1 → ∃ t, exec (.tilePower path n v) s = .next t ∧ replied s t path 0 [] ∧
        tileBecomes s t n (fun x =>
          if x.power ≠ 0 then { x with powerResult := 4 }
          else if x.wakeEn = 0 then { x with powerResult := 2 }
          else if tilesOf s (n / 4) = [n] then { x with powerResult := 3 }
          else { x with power := 1 })) ∧
      (v = 0 → (tileOf s n).power = 2 → (tileOf s n).wakeEn.getLsbD 0 = true →
        ∃ t, exec (.tilePower path n v) s = .next t ∧ replied s t path 0 [] ∧ woken s t n) ∧
      (v = 0 → ¬ ((tileOf s n).power = 2 ∧ (tileOf s n).wakeEn.getLsbD 0 = true) →
        ∃ t, exec (.tilePower path n v) s = .next t ∧ t.tiles = s.tiles ∧ replied s t path 0 [])) ∧
    (granted s path .rw (0x8000 + n) 0x01 (leBytes 1 v) →
      (1 < v → ∃ t, exec (.tileEnable path n v) s = .next t ∧ t.tiles = s.tiles ∧ replied s t path 0x0008 []) ∧
      (v = 0 ∧ tilesOf s (n / 4) = [n] ∨ v = 1 ∧ (tileOf s n).power = 2 →
        ∃ t, exec (.tileEnable path n v) s = .next t ∧ t.tiles = s.tiles ∧ replied s t path 0x0009 []) ∧
      (v = 0 → tilesOf s (n / 4) ≠ [n] → (tileOf s n).power = 0 → ∃ t, exec (.tileEnable path n v) s = .next t ∧
        tileBecomes s t n (fun x => { x with enable := false }) ∧ replied s t path 0 []) ∧
      (v = 1 → (tileOf s n).power ≠ 2 → ∃ t, exec (.tileEnable path n v) s = .next t ∧
        tileBecomes s t n (fun x => { x with enable := true }) ∧ replied s t path 0 [])) ∧
    (granted s path .wo (0x8000 + n) 0x06 (leBytes 1 1) →
      ((tileOf s n).fenced = false → (tileOf s n).enable = true → (tileOf s n).power = 0 →
        ∃ t, exec (.tileReset path n) s = .next t ∧ t.tiles = s.tiles ∧ replied s t path 0x0009 []) ∧
      ((tileOf s n).fenced = true ∨ (tileOf s n).enable = false ∨ (tileOf s n).power = 2 →
        ∃ t, exec (.tileReset path n) s = .next t ∧ replied s t path 0 [] ∧
          (let x := tileOf t n
           x.fenced = false ∧ x.quar0 = false ∧ x.quar1 = false ∧ x.mism0 = 0 ∧ x.mism1 = 0 ∧ x.hist0 = [] ∧ x.hist1 = [] ∧
           x.enable = (tileOf s n).enable) ∧ ((tileOf s n).power = 2 → woken s t n)))) ∧
  (∀ (s : State) (n : Nat) (w : BitVec 3), n < 16 →
    let x := tileOf s n
    (x.power = 1 → homedOn s n = [] →
      (w &&& x.wakeEn ≠ 0 → exec (.eclipseDecision n w) s = .next (withTile s n (fun y => { y with power := 0, powerResult := 1 }))) ∧
      (w &&& x.wakeEn = 0 → tilesOf s (n / 4) = [] → x.fenced = false →
        exec (.eclipseDecision n w) s = .next (withTile s n (fun y => { y with power := 0, powerResult := 3 }))) ∧
      (w &&& x.wakeEn = 0 → (tilesOf s (n / 4) ≠ [] ∨ x.fenced = true) →
        ∃ t, exec (.eclipseDecision n w) s = .next t ∧ (tileOf t n).power = 2 ∧ (tileOf t n).powerResult = 0 ∧
          tmemOf t n = TileMem.reset ∧ ∀ k < 4, coreOf t (4 * n + k) = EloaCore.script)) ∧
    (x.power ≠ 1 ∨ homedOn s n ≠ [] → exec (.eclipseDecision n w) s = .next s) ∧
    (x.power = 2 → w &&& x.wakeEn ≠ 0 → ∃ t, exec (.tileWake n w) s = .next t ∧ woken s t n) ∧
    (x.power = 1 → (w &&& x.wakeEn).getLsbD 2 = true →
      exec (.tileWake n w) s = .next (withTile s n (fun y => { y with power := 0, powerResult := 1 }))) ∧
    (x.power = 0 → exec (.tileWake n w) s = .next s)) ∧
  (∀ (s : State) (cells : BitVec 32) (n m : Nat),
    let free := leBytes 4 (Config.freeValue s.free)
    exec .bypass s = .next (shown s 0xFF [0]) ∧ exec .idcode s = .next (shown s 0x01 [0x6F, 0x45, 0x13, 0x15]) ∧
    exec (.samplePreload cells) s = .next (if debugScope s = 2
      then shown { s with test := { s.test with cells := cells }, free := s.free + 1 } 0x02 free else shown s 0xFF [0]) ∧
    exec (.extest cells) s = .next (if lifeCycle s ≤ 1
      then shown { s with test := { s.test with cells := cells }, free := s.free + 1 } 0x00 free else shown s 0xFF [0]) ∧
    exec (.avbAtb n m) s = .next (if debugScope s = 2
      then shown { s with test := { s.test with sel := n } } 0x21 (leBytes 2 m) else shown s 0xFF [0])) ∧
  (∀ (s : State) (c : Nat), coreOk c = true →
    (dbgReaches s c false = true → coreAsleep s c = false →
      (∃ t, exec (.avbDbg (.halt c)) s = .next t ∧ coreOf t c = { coreOf s c with dbg := 1 }) ∧
      (∃ t, exec (.avbDbg (.resume c)) s = .next t ∧ (coreOf t c).dbg = 0) ∧
      ((coreOf s c).dbg ≠ 0 → ∃ t, exec (.avbDbg (.step c)) s = .next t ∧ coreOf t c = { coreOf s c with dbg := 2 }) ∧
      (∀ (a : Word) v u, loadAt s c a.toNat 4 = .ok (v, u) → ∃ t, exec (.avbDbg (.readMem c a)) s = .next t ∧
        sentNow s t (.tdo (leBytes 4 v)) ∧ t.cores = s.cores) ∧
      (∀ (a v : Word), a.toNat % 4 = 0 → a.toNat < dataBytes c → ∃ t, exec (.avbDbg (.writeMem c a v)) s = .next t ∧
        (coreOf t c).mem = Memory.write (coreOf s c).mem a.toNat (leBytes 4 v.toNat))) ∧
    (dbgReaches s c true = true → coreAsleep s c = false → ∀ r ≤ 24,
      (∃ t, exec (.avbDbg (.readReg c r)) s = .next t ∧ sentNow s t (.tdo (leBytes 4 (reg (coreOf s c) r).toNat)) ∧ t.cores = s.cores) ∧
      (∀ v, ∃ t, exec (.avbDbg (.writeReg c r v)) s = .next t ∧ reg (coreOf t c) r = v ∧ (coreOf t c).pc = (coreOf s c).pc)) ∧
    (dbgReaches s c true = true → coreAsleep s c = true →
      (∀ a, exec (.avbDbg (.readMem c a)) s = .next (shown s 0x20 (zeros 4))) ∧
      (∀ a v, exec (.avbDbg (.writeMem c a v)) s = .next (shown s 0x20 []))) ∧
    (∀ a, a + 4 ≤ codeSize c → dbgReaches s c false = true → coreAsleep s c = false →
      exec (.avbDbg (.readOther (.code c) a)) s = .next (shown s 0x20 (Memory.read (coreOf s c).code a 4)) ∧
      ∀ v : Word, ∃ t, exec (.avbDbg (.writeOther (.code c) a v)) s = .next t ∧
        coreOf t c = { coreOf s c with code := Memory.write (coreOf s c).code a (leBytes 4 v.toNat) } ∧
        { t with cores := s.cores } = shown s 0x20 [])) ∧
  (∀ (s : State) (op : DbgOp), dbgOpOk op = true → opReaches s op = false → exec (.avbDbg op) s = .next (shown s 0xFF [0])) ∧
  (∀ (s : State) (a : Nat), debugScope s = 2 →
    (a + 4 ≤ 2 ^ 33 → exec (.avbDbg (.readOther .ddr a)) s = .next (shown s 0x20 (ddrRead s a 4)) ∧
      (2 ^ 30 ≤ a → ∀ v : Word, exec (.avbDbg (.writeOther .ddr a v)) s =
        .next (shown { s with ddr := Memory.write s.ddr a (leBytes 4 v.toNat) } 0x20 []))) ∧
    (∀ dev, dev < 2 → a + 4 ≤ 2 ^ 28 →
      (∀ b, (List.range 4).mapM (fun k => mramByte s dev (a + k)) = some b →
        exec (.avbDbg (.readOther (.mram dev) a)) s = .next (shown s 0x20 b)) ∧
      ((List.range 4).mapM (fun k => mramByte s dev (a + k)) = none → exec (.avbDbg (.readOther (.mram dev) a)) s =
        .next (shown { s with free := s.free + 1 } 0x20 (leBytes 4 (Config.freeValue s.free)))) ∧
      ∀ v, exec (.avbDbg (.writeOther (.mram dev) a v)) s = .next (shown s 0x20 [])) ∧
    (a + 4 ≤ 4096 → lifeCycle s ≤ 1 →
      exec (.avbDbg (.readOther .bbram a)) s = .next (shown { s with free := s.free + 1 } 0x20 (leBytes 4 (Config.freeValue s.free))) ∧
      ∀ v, exec (.avbDbg (.writeOther .bbram a v)) s = .next (shown s 0x20 [])))

/-- The module's only fault is a unit number that it does not have (00 R8; 01 R14; 02 R39, R42; 08 R244), and no command stops otherwise. -/
def Obligations.WellFormedCommandsNeverFault : Prop :=
  (∀ (i : Instr) (s : State) (f : Fault), wellFormed i = true → exec i s ≠ .fault f) ∧
  (∀ (i : Instr) (s : State), wellFormed i = true → ∃ t, exec i s = .next t)

/-- Registers of 0x4000_0000 to 0x4000_FFFF without an offset (09 R281; 12 R393; log 11): the model's choice where the spec gives none. -/
def Obligations.NothingIsRefusedAndUnlistedStoresChangeNothing : Prop :=
  (∀ (i : Instr) (s : State) (r : Refusal), exec i s ≠ .refused r) ∧
  (∀ (s : State) (c : Nat) (rd ra : Reg) (imm : BitVec 14), Runs s c → named [rd, ra] → 64 ≤ c →
    let a := accessAddr (coreOf s c) ra imm
    a % 4 = 0 → (if c = 64 then 0x40000000 else 0x40008000) ≤ a → a < 0x40010000 → ¬ offsetGiven (a - 0x40000000) →
    exec (.stw c (.long rd ra imm)) s = .next (landed s c (flagCore (coreOf s c) FlagSet.keep 1)))

/-- The canonical form is an invariant of the machine (01 R31; 09 R278, R281; log 4). -/
def Obligations.EveryStepKeepsMemoriesCanonical : Prop :=
  ∀ (s t : State), memoriesCanonical s → step s = .next t → memoriesCanonical t

/-- Burning is forward-only (11 R362). -/
def Obligations.NoStepClearsAFuse : Prop :=
  ∀ (a b c : Word) (s t : State), fusesBurnt a b c s → step s = .next t → fusesBurnt a b c t

/-- State.reset (01 R21; 02 R53; 04 R131; 09 R280, R282, R308, R309; 12 R393; 13 R410; 15 R446; logs 3, 4 and 9). -/
def Obligations.TheResetStateIsAsGiven : Prop :=
  let s := State.reset
  (s.pending = [] ∧ memoriesCanonical s ∧ fusesBurnt 0 0 0 s ∧ s.entries = [] ∧ lifeCycle s = 0) ∧
  (s.hif.dpOpen = false ∧ s.hif.ier = 0 ∧ s.hif.isr = 0 ∧ s.hif.perst = true ∧ s.hif.fetchEn = false) ∧
  (∀ q, (qpOf s q).assigned = false ∧ (qpOf s q).en = false ∧ (qpOf s q).w = 0) ∧
  (s.power.gate = 2 ∧ s.power.tRestr = 4000 ∧ s.power.tOpen = 8000) ∧
  (∀ n, (tileOf s n).enable = true ∧ (tileOf s n).fenced = false ∧ (tileOf s n).power = 0 ∧ (tileOf s n).tclk = 1200 ∧
    (tileOf s n).pclk = 1200) ∧
  (∀ c, (coreOf s c).pc = 0 ∧ (∀ r < 24, reg (coreOf s c) r = 0) ∧ reg (coreOf s c) 24 = (if c < 64 then 0x1F80 else 0x40000) ∧
    flagBits (coreOf s c).ctl = 0 ∧ (coreOf s c).ctl.crcPoly = 0x1EDC6F41 ∧ (coreOf s c).ctl.tcmp = 0xFFFFFFFF) ∧
  (∀ u n, (u ≠ 16 ∨ n ∉ fixedSources) → (srcOf s u n).mask = true) ∧ (∀ u k, (evuCoreOf s u k).thresh = 15) ∧
  (∀ i, (drbgOf s i).state = 0) ∧ s.rng.state = 0 ∧ s.tamper.halt = false ∧ s.tamper.log = []

/-- What every command leaves as it was (01 R22; 02 R50; 03 R77, R83, R102; 07 R234; 08 R254; 15 R436). The list of
components each command may change is the model's reading of its rules. -/
def Obligations.CommandsChangeOnlyTheirComponents : Prop :=
  (∀ (i : Instr) (s t : State), exec i s = .next t → SameBut (mayChange i) s t) ∧
  (∀ (s t : State) (q a : Nat) (e : Entry) (x : DataRow), x ∈ dataRows → exec (x.cmd q a) s = .next t → entryOf s q a = some e →
    (∀ n, e.tile ≠ some n → tmemOf t n = tmemOf s n) ∧ (∀ n, n ≠ e.quarter → quarterOf t n = quarterOf s n) ∧
    (∀ c, e.script ≠ .core c → coreOf t c = coreOf s c) ∧ (∀ q' a', (q', a') ≠ (q, a) → (entryOf t q' a').map Entry.unretried = (entryOf s q' a').map Entry.unretried)) ∧
  (∀ (s t : State) (q a : Nat) (r : ReadResult) (g : Engine) (i : Instr), ofDescriptor q a r g i → exec i s = .next t →
    ∀ q' a', (q', a') ≠ (q, a) → (entryOf t q' a').map Entry.unretried = (entryOf s q' a').map Entry.unretried) ∧
  (∀ (s t : State) (q n hw : Nat) (v : Word) (f : FetchResult) (ok : Bool) (bad : Option Nat) (i : Instr),
    ofQueuePair q n hw v f ok bad i → exec i s = .next t → ∀ q', q' ≠ q → squashWaits s q' = false → (qpOf t q').unpaused = (qpOf s q').unpaused) ∧
  (∀ (s t : State) (n v : Nat) (path : Path) (w : BitVec 3) (pke : Bool) (slack : List Int) (ro : List Nat) (i : Instr),
    ofTile n v path w pke slack ro i → exec i s = .next t →
    ∀ m, m ≠ n → tileOf t m = tileOf s m ∧ (tmemOf t m).unwatched = (tmemOf s m).unwatched) ∧
  (∀ (s t : State) (p slot : Nat) (path : Path) (image : List Byte) (i : Instr),
    ofPartition path p slot image i → exec i s = .next t → ∀ p', p' ≠ p → (partOf t p').unwatched = (partOf s p').unwatched)
end

