-- ==== Sys2Proof/Laws/State.lean ====
section
/-!
SUPPORT. What each named update of the state does to each field, so that no proof unfolds a record update.
-/

namespace Sys2Proof.Machine

open Sys2Proof

@[simp] theorem setQp_pending (s : State) (q : Nat) (v : Qp) : (setQp s q v).pending = s.pending := rfl
@[simp] theorem setQp_now (s : State) (q : Nat) (v : Qp) : (setQp s q v).now = s.now := rfl
@[simp] theorem setQp_free (s : State) (q : Nat) (v : Qp) : (setQp s q v).free = s.free := rfl
@[simp] theorem setQp_bus (s : State) (q : Nat) (v : Qp) : (setQp s q v).bus = s.bus := rfl
@[simp] theorem setQp_hif (s : State) (q : Nat) (v : Qp) : (setQp s q v).hif = s.hif := rfl
@[simp] theorem setQp_qps (s : State) (q : Nat) (v : Qp) : (setQp s q v).qps = tblSet s.qps q v := rfl
@[simp] theorem setQp_entries (s : State) (q : Nat) (v : Qp) : (setQp s q v).entries = s.entries := rfl
@[simp] theorem setQp_quarters (s : State) (q : Nat) (v : Qp) : (setQp s q v).quarters = s.quarters := rfl
@[simp] theorem setQp_tiles (s : State) (q : Nat) (v : Qp) : (setQp s q v).tiles = s.tiles := rfl
@[simp] theorem setQp_tmem (s : State) (q : Nat) (v : Qp) : (setQp s q v).tmem = s.tmem := rfl
@[simp] theorem setQp_parts (s : State) (q : Nat) (v : Qp) : (setQp s q v).parts = s.parts := rfl
@[simp] theorem setQp_journal (s : State) (q : Nat) (v : Qp) : (setQp s q v).journal = s.journal := rfl
@[simp] theorem setQp_vault (s : State) (q : Nat) (v : Qp) : (setQp s q v).vault = s.vault := rfl
@[simp] theorem setQp_svc (s : State) (q : Nat) (v : Qp) : (setQp s q v).svc = s.svc := rfl
@[simp] theorem setQp_cores (s : State) (q : Nat) (v : Qp) : (setQp s q v).cores = s.cores := rfl
@[simp] theorem setQp_ddr (s : State) (q : Nat) (v : Qp) : (setQp s q v).ddr = s.ddr := rfl
@[simp] theorem setQp_reqArea (s : State) (q : Nat) (v : Qp) : (setQp s q v).reqArea = s.reqArea := rfl
@[simp] theorem setQp_evus (s : State) (q : Nat) (v : Qp) : (setQp s q v).evus = s.evus := rfl
@[simp] theorem setQp_fmp (s : State) (q : Nat) (v : Qp) : (setQp s q v).fmp = s.fmp := rfl
@[simp] theorem setQp_dict (s : State) (q : Nat) (v : Qp) : (setQp s q v).dict = s.dict := rfl
@[simp] theorem setQp_life (s : State) (q : Nat) (v : Qp) : (setQp s q v).life = s.life := rfl
@[simp] theorem setQp_fw (s : State) (q : Nat) (v : Qp) : (setQp s q v).fw = s.fw := rfl
@[simp] theorem setQp_boot (s : State) (q : Nat) (v : Qp) : (setQp s q v).boot = s.boot := rfl
@[simp] theorem setQp_tamper (s : State) (q : Nat) (v : Qp) : (setQp s q v).tamper = s.tamper := rfl
@[simp] theorem setQp_rng (s : State) (q : Nat) (v : Qp) : (setQp s q v).rng = s.rng := rfl
@[simp] theorem setQp_evr (s : State) (q : Nat) (v : Qp) : (setQp s q v).evr = s.evr := rfl
@[simp] theorem setQp_power (s : State) (q : Nat) (v : Qp) : (setQp s q v).power = s.power := rfl
@[simp] theorem setQp_therm (s : State) (q : Nat) (v : Qp) : (setQp s q v).therm = s.therm := rfl
@[simp] theorem setQp_test (s : State) (q : Nat) (v : Qp) : (setQp s q v).test = s.test := rfl
@[simp] theorem setQp_ident (s : State) (q : Nat) (v : Qp) : (setQp s q v).ident = s.ident := rfl

@[simp] theorem modQp_pending (s : State) (q : Nat) (f : Qp → Qp) : (modQp s q f).pending = s.pending := rfl
@[simp] theorem modQp_now (s : State) (q : Nat) (f : Qp → Qp) : (modQp s q f).now = s.now := rfl
@[simp] theorem modQp_free (s : State) (q : Nat) (f : Qp → Qp) : (modQp s q f).free = s.free := rfl
@[simp] theorem modQp_bus (s : State) (q : Nat) (f : Qp → Qp) : (modQp s q f).bus = s.bus := rfl
@[simp] theorem modQp_hif (s : State) (q : Nat) (f : Qp → Qp) : (modQp s q f).hif = s.hif := rfl
@[simp] theorem modQp_qps (s : State) (q : Nat) (f : Qp → Qp) : (modQp s q f).qps = tblSet s.qps q (f (qpOf s q)) := rfl
@[simp] theorem modQp_entries (s : State) (q : Nat) (f : Qp → Qp) : (modQp s q f).entries = s.entries := rfl
@[simp] theorem modQp_quarters (s : State) (q : Nat) (f : Qp → Qp) : (modQp s q f).quarters = s.quarters := rfl
@[simp] theorem modQp_tiles (s : State) (q : Nat) (f : Qp → Qp) : (modQp s q f).tiles = s.tiles := rfl
@[simp] theorem modQp_tmem (s : State) (q : Nat) (f : Qp → Qp) : (modQp s q f).tmem = s.tmem := rfl
@[simp] theorem modQp_parts (s : State) (q : Nat) (f : Qp → Qp) : (modQp s q f).parts = s.parts := rfl
@[simp] theorem modQp_journal (s : State) (q : Nat) (f : Qp → Qp) : (modQp s q f).journal = s.journal := rfl
@[simp] theorem modQp_vault (s : State) (q : Nat) (f : Qp → Qp) : (modQp s q f).vault = s.vault := rfl
@[simp] theorem modQp_svc (s : State) (q : Nat) (f : Qp → Qp) : (modQp s q f).svc = s.svc := rfl
@[simp] theorem modQp_cores (s : State) (q : Nat) (f : Qp → Qp) : (modQp s q f).cores = s.cores := rfl
@[simp] theorem modQp_ddr (s : State) (q : Nat) (f : Qp → Qp) : (modQp s q f).ddr = s.ddr := rfl
@[simp] theorem modQp_reqArea (s : State) (q : Nat) (f : Qp → Qp) : (modQp s q f).reqArea = s.reqArea := rfl
@[simp] theorem modQp_evus (s : State) (q : Nat) (f : Qp → Qp) : (modQp s q f).evus = s.evus := rfl
@[simp] theorem modQp_fmp (s : State) (q : Nat) (f : Qp → Qp) : (modQp s q f).fmp = s.fmp := rfl
@[simp] theorem modQp_dict (s : State) (q : Nat) (f : Qp → Qp) : (modQp s q f).dict = s.dict := rfl
@[simp] theorem modQp_life (s : State) (q : Nat) (f : Qp → Qp) : (modQp s q f).life = s.life := rfl
@[simp] theorem modQp_fw (s : State) (q : Nat) (f : Qp → Qp) : (modQp s q f).fw = s.fw := rfl
@[simp] theorem modQp_boot (s : State) (q : Nat) (f : Qp → Qp) : (modQp s q f).boot = s.boot := rfl
@[simp] theorem modQp_tamper (s : State) (q : Nat) (f : Qp → Qp) : (modQp s q f).tamper = s.tamper := rfl
@[simp] theorem modQp_rng (s : State) (q : Nat) (f : Qp → Qp) : (modQp s q f).rng = s.rng := rfl
@[simp] theorem modQp_evr (s : State) (q : Nat) (f : Qp → Qp) : (modQp s q f).evr = s.evr := rfl
@[simp] theorem modQp_power (s : State) (q : Nat) (f : Qp → Qp) : (modQp s q f).power = s.power := rfl
@[simp] theorem modQp_therm (s : State) (q : Nat) (f : Qp → Qp) : (modQp s q f).therm = s.therm := rfl
@[simp] theorem modQp_test (s : State) (q : Nat) (f : Qp → Qp) : (modQp s q f).test = s.test := rfl
@[simp] theorem modQp_ident (s : State) (q : Nat) (f : Qp → Qp) : (modQp s q f).ident = s.ident := rfl

@[simp] theorem modQuarter_pending (s : State) (q : Nat) (f : Quarter → Quarter) : (modQuarter s q f).pending = s.pending := rfl
@[simp] theorem modQuarter_now (s : State) (q : Nat) (f : Quarter → Quarter) : (modQuarter s q f).now = s.now := rfl
@[simp] theorem modQuarter_free (s : State) (q : Nat) (f : Quarter → Quarter) : (modQuarter s q f).free = s.free := rfl
@[simp] theorem modQuarter_bus (s : State) (q : Nat) (f : Quarter → Quarter) : (modQuarter s q f).bus = s.bus := rfl
@[simp] theorem modQuarter_hif (s : State) (q : Nat) (f : Quarter → Quarter) : (modQuarter s q f).hif = s.hif := rfl
@[simp] theorem modQuarter_qps (s : State) (q : Nat) (f : Quarter → Quarter) : (modQuarter s q f).qps = s.qps := rfl
@[simp] theorem modQuarter_entries (s : State) (q : Nat) (f : Quarter → Quarter) : (modQuarter s q f).entries = s.entries := rfl
@[simp] theorem modQuarter_quarters (s : State) (q : Nat) (f : Quarter → Quarter) : (modQuarter s q f).quarters = tblSet s.quarters q (f (quarterOf s q)) := rfl
@[simp] theorem modQuarter_tiles (s : State) (q : Nat) (f : Quarter → Quarter) : (modQuarter s q f).tiles = s.tiles := rfl
@[simp] theorem modQuarter_tmem (s : State) (q : Nat) (f : Quarter → Quarter) : (modQuarter s q f).tmem = s.tmem := rfl
@[simp] theorem modQuarter_parts (s : State) (q : Nat) (f : Quarter → Quarter) : (modQuarter s q f).parts = s.parts := rfl
@[simp] theorem modQuarter_journal (s : State) (q : Nat) (f : Quarter → Quarter) : (modQuarter s q f).journal = s.journal := rfl
@[simp] theorem modQuarter_vault (s : State) (q : Nat) (f : Quarter → Quarter) : (modQuarter s q f).vault = s.vault := rfl
@[simp] theorem modQuarter_svc (s : State) (q : Nat) (f : Quarter → Quarter) : (modQuarter s q f).svc = s.svc := rfl
@[simp] theorem modQuarter_cores (s : State) (q : Nat) (f : Quarter → Quarter) : (modQuarter s q f).cores = s.cores := rfl
@[simp] theorem modQuarter_ddr (s : State) (q : Nat) (f : Quarter → Quarter) : (modQuarter s q f).ddr = s.ddr := rfl
@[simp] theorem modQuarter_reqArea (s : State) (q : Nat) (f : Quarter → Quarter) : (modQuarter s q f).reqArea = s.reqArea := rfl
@[simp] theorem modQuarter_evus (s : State) (q : Nat) (f : Quarter → Quarter) : (modQuarter s q f).evus = s.evus := rfl
@[simp] theorem modQuarter_fmp (s : State) (q : Nat) (f : Quarter → Quarter) : (modQuarter s q f).fmp = s.fmp := rfl
@[simp] theorem modQuarter_dict (s : State) (q : Nat) (f : Quarter → Quarter) : (modQuarter s q f).dict = s.dict := rfl
@[simp] theorem modQuarter_life (s : State) (q : Nat) (f : Quarter → Quarter) : (modQuarter s q f).life = s.life := rfl
@[simp] theorem modQuarter_fw (s : State) (q : Nat) (f : Quarter → Quarter) : (modQuarter s q f).fw = s.fw := rfl
@[simp] theorem modQuarter_boot (s : State) (q : Nat) (f : Quarter → Quarter) : (modQuarter s q f).boot = s.boot := rfl
@[simp] theorem modQuarter_tamper (s : State) (q : Nat) (f : Quarter → Quarter) : (modQuarter s q f).tamper = s.tamper := rfl
@[simp] theorem modQuarter_rng (s : State) (q : Nat) (f : Quarter → Quarter) : (modQuarter s q f).rng = s.rng := rfl
@[simp] theorem modQuarter_evr (s : State) (q : Nat) (f : Quarter → Quarter) : (modQuarter s q f).evr = s.evr := rfl
@[simp] theorem modQuarter_power (s : State) (q : Nat) (f : Quarter → Quarter) : (modQuarter s q f).power = s.power := rfl
@[simp] theorem modQuarter_therm (s : State) (q : Nat) (f : Quarter → Quarter) : (modQuarter s q f).therm = s.therm := rfl
@[simp] theorem modQuarter_test (s : State) (q : Nat) (f : Quarter → Quarter) : (modQuarter s q f).test = s.test := rfl
@[simp] theorem modQuarter_ident (s : State) (q : Nat) (f : Quarter → Quarter) : (modQuarter s q f).ident = s.ident := rfl

@[simp] theorem modTile_pending (s : State) (t : Nat) (f : Tile → Tile) : (modTile s t f).pending = s.pending := rfl
@[simp] theorem modTile_now (s : State) (t : Nat) (f : Tile → Tile) : (modTile s t f).now = s.now := rfl
@[simp] theorem modTile_free (s : State) (t : Nat) (f : Tile → Tile) : (modTile s t f).free = s.free := rfl
@[simp] theorem modTile_bus (s : State) (t : Nat) (f : Tile → Tile) : (modTile s t f).bus = s.bus := rfl
@[simp] theorem modTile_hif (s : State) (t : Nat) (f : Tile → Tile) : (modTile s t f).hif = s.hif := rfl
@[simp] theorem modTile_qps (s : State) (t : Nat) (f : Tile → Tile) : (modTile s t f).qps = s.qps := rfl
@[simp] theorem modTile_entries (s : State) (t : Nat) (f : Tile → Tile) : (modTile s t f).entries = s.entries := rfl
@[simp] theorem modTile_quarters (s : State) (t : Nat) (f : Tile → Tile) : (modTile s t f).quarters = s.quarters := rfl
@[simp] theorem modTile_tiles (s : State) (t : Nat) (f : Tile → Tile) : (modTile s t f).tiles = tblSet s.tiles t (f (tileOf s t)) := rfl
@[simp] theorem modTile_tmem (s : State) (t : Nat) (f : Tile → Tile) : (modTile s t f).tmem = s.tmem := rfl
@[simp] theorem modTile_parts (s : State) (t : Nat) (f : Tile → Tile) : (modTile s t f).parts = s.parts := rfl
@[simp] theorem modTile_journal (s : State) (t : Nat) (f : Tile → Tile) : (modTile s t f).journal = s.journal := rfl
@[simp] theorem modTile_vault (s : State) (t : Nat) (f : Tile → Tile) : (modTile s t f).vault = s.vault := rfl
@[simp] theorem modTile_svc (s : State) (t : Nat) (f : Tile → Tile) : (modTile s t f).svc = s.svc := rfl
@[simp] theorem modTile_cores (s : State) (t : Nat) (f : Tile → Tile) : (modTile s t f).cores = s.cores := rfl
@[simp] theorem modTile_ddr (s : State) (t : Nat) (f : Tile → Tile) : (modTile s t f).ddr = s.ddr := rfl
@[simp] theorem modTile_reqArea (s : State) (t : Nat) (f : Tile → Tile) : (modTile s t f).reqArea = s.reqArea := rfl
@[simp] theorem modTile_evus (s : State) (t : Nat) (f : Tile → Tile) : (modTile s t f).evus = s.evus := rfl
@[simp] theorem modTile_fmp (s : State) (t : Nat) (f : Tile → Tile) : (modTile s t f).fmp = s.fmp := rfl
@[simp] theorem modTile_dict (s : State) (t : Nat) (f : Tile → Tile) : (modTile s t f).dict = s.dict := rfl
@[simp] theorem modTile_life (s : State) (t : Nat) (f : Tile → Tile) : (modTile s t f).life = s.life := rfl
@[simp] theorem modTile_fw (s : State) (t : Nat) (f : Tile → Tile) : (modTile s t f).fw = s.fw := rfl
@[simp] theorem modTile_boot (s : State) (t : Nat) (f : Tile → Tile) : (modTile s t f).boot = s.boot := rfl
@[simp] theorem modTile_tamper (s : State) (t : Nat) (f : Tile → Tile) : (modTile s t f).tamper = s.tamper := rfl
@[simp] theorem modTile_rng (s : State) (t : Nat) (f : Tile → Tile) : (modTile s t f).rng = s.rng := rfl
@[simp] theorem modTile_evr (s : State) (t : Nat) (f : Tile → Tile) : (modTile s t f).evr = s.evr := rfl
@[simp] theorem modTile_power (s : State) (t : Nat) (f : Tile → Tile) : (modTile s t f).power = s.power := rfl
@[simp] theorem modTile_therm (s : State) (t : Nat) (f : Tile → Tile) : (modTile s t f).therm = s.therm := rfl
@[simp] theorem modTile_test (s : State) (t : Nat) (f : Tile → Tile) : (modTile s t f).test = s.test := rfl
@[simp] theorem modTile_ident (s : State) (t : Nat) (f : Tile → Tile) : (modTile s t f).ident = s.ident := rfl

@[simp] theorem modPke_pending (s : State) (t k : Nat) (f : PkeCore → PkeCore) : (modPke s t k f).pending = s.pending := rfl
@[simp] theorem modPke_now (s : State) (t k : Nat) (f : PkeCore → PkeCore) : (modPke s t k f).now = s.now := rfl
@[simp] theorem modPke_free (s : State) (t k : Nat) (f : PkeCore → PkeCore) : (modPke s t k f).free = s.free := rfl
@[simp] theorem modPke_bus (s : State) (t k : Nat) (f : PkeCore → PkeCore) : (modPke s t k f).bus = s.bus := rfl
@[simp] theorem modPke_hif (s : State) (t k : Nat) (f : PkeCore → PkeCore) : (modPke s t k f).hif = s.hif := rfl
@[simp] theorem modPke_qps (s : State) (t k : Nat) (f : PkeCore → PkeCore) : (modPke s t k f).qps = s.qps := rfl
@[simp] theorem modPke_entries (s : State) (t k : Nat) (f : PkeCore → PkeCore) : (modPke s t k f).entries = s.entries := rfl
@[simp] theorem modPke_quarters (s : State) (t k : Nat) (f : PkeCore → PkeCore) : (modPke s t k f).quarters = s.quarters := rfl
@[simp] theorem modPke_tmem (s : State) (t k : Nat) (f : PkeCore → PkeCore) : (modPke s t k f).tmem = s.tmem := rfl
@[simp] theorem modPke_parts (s : State) (t k : Nat) (f : PkeCore → PkeCore) : (modPke s t k f).parts = s.parts := rfl
@[simp] theorem modPke_journal (s : State) (t k : Nat) (f : PkeCore → PkeCore) : (modPke s t k f).journal = s.journal := rfl
@[simp] theorem modPke_vault (s : State) (t k : Nat) (f : PkeCore → PkeCore) : (modPke s t k f).vault = s.vault := rfl
@[simp] theorem modPke_svc (s : State) (t k : Nat) (f : PkeCore → PkeCore) : (modPke s t k f).svc = s.svc := rfl
@[simp] theorem modPke_cores (s : State) (t k : Nat) (f : PkeCore → PkeCore) : (modPke s t k f).cores = s.cores := rfl
@[simp] theorem modPke_ddr (s : State) (t k : Nat) (f : PkeCore → PkeCore) : (modPke s t k f).ddr = s.ddr := rfl
@[simp] theorem modPke_reqArea (s : State) (t k : Nat) (f : PkeCore → PkeCore) : (modPke s t k f).reqArea = s.reqArea := rfl
@[simp] theorem modPke_evus (s : State) (t k : Nat) (f : PkeCore → PkeCore) : (modPke s t k f).evus = s.evus := rfl
@[simp] theorem modPke_fmp (s : State) (t k : Nat) (f : PkeCore → PkeCore) : (modPke s t k f).fmp = s.fmp := rfl
@[simp] theorem modPke_dict (s : State) (t k : Nat) (f : PkeCore → PkeCore) : (modPke s t k f).dict = s.dict := rfl
@[simp] theorem modPke_life (s : State) (t k : Nat) (f : PkeCore → PkeCore) : (modPke s t k f).life = s.life := rfl
@[simp] theorem modPke_fw (s : State) (t k : Nat) (f : PkeCore → PkeCore) : (modPke s t k f).fw = s.fw := rfl
@[simp] theorem modPke_boot (s : State) (t k : Nat) (f : PkeCore → PkeCore) : (modPke s t k f).boot = s.boot := rfl
@[simp] theorem modPke_tamper (s : State) (t k : Nat) (f : PkeCore → PkeCore) : (modPke s t k f).tamper = s.tamper := rfl
@[simp] theorem modPke_rng (s : State) (t k : Nat) (f : PkeCore → PkeCore) : (modPke s t k f).rng = s.rng := rfl
@[simp] theorem modPke_evr (s : State) (t k : Nat) (f : PkeCore → PkeCore) : (modPke s t k f).evr = s.evr := rfl
@[simp] theorem modPke_power (s : State) (t k : Nat) (f : PkeCore → PkeCore) : (modPke s t k f).power = s.power := rfl
@[simp] theorem modPke_therm (s : State) (t k : Nat) (f : PkeCore → PkeCore) : (modPke s t k f).therm = s.therm := rfl
@[simp] theorem modPke_test (s : State) (t k : Nat) (f : PkeCore → PkeCore) : (modPke s t k f).test = s.test := rfl
@[simp] theorem modPke_ident (s : State) (t k : Nat) (f : PkeCore → PkeCore) : (modPke s t k f).ident = s.ident := rfl

@[simp] theorem modTmem_pending (s : State) (t : Nat) (f : TileMem → TileMem) : (modTmem s t f).pending = s.pending := rfl
@[simp] theorem modTmem_now (s : State) (t : Nat) (f : TileMem → TileMem) : (modTmem s t f).now = s.now := rfl
@[simp] theorem modTmem_free (s : State) (t : Nat) (f : TileMem → TileMem) : (modTmem s t f).free = s.free := rfl
@[simp] theorem modTmem_bus (s : State) (t : Nat) (f : TileMem → TileMem) : (modTmem s t f).bus = s.bus := rfl
@[simp] theorem modTmem_hif (s : State) (t : Nat) (f : TileMem → TileMem) : (modTmem s t f).hif = s.hif := rfl
@[simp] theorem modTmem_qps (s : State) (t : Nat) (f : TileMem → TileMem) : (modTmem s t f).qps = s.qps := rfl
@[simp] theorem modTmem_entries (s : State) (t : Nat) (f : TileMem → TileMem) : (modTmem s t f).entries = s.entries := rfl
@[simp] theorem modTmem_quarters (s : State) (t : Nat) (f : TileMem → TileMem) : (modTmem s t f).quarters = s.quarters := rfl
@[simp] theorem modTmem_tiles (s : State) (t : Nat) (f : TileMem → TileMem) : (modTmem s t f).tiles = s.tiles := rfl
@[simp] theorem modTmem_tmem (s : State) (t : Nat) (f : TileMem → TileMem) : (modTmem s t f).tmem = tblSet s.tmem t (f (tmemOf s t)) := rfl
@[simp] theorem modTmem_parts (s : State) (t : Nat) (f : TileMem → TileMem) : (modTmem s t f).parts = s.parts := rfl
@[simp] theorem modTmem_journal (s : State) (t : Nat) (f : TileMem → TileMem) : (modTmem s t f).journal = s.journal := rfl
@[simp] theorem modTmem_vault (s : State) (t : Nat) (f : TileMem → TileMem) : (modTmem s t f).vault = s.vault := rfl
@[simp] theorem modTmem_svc (s : State) (t : Nat) (f : TileMem → TileMem) : (modTmem s t f).svc = s.svc := rfl
@[simp] theorem modTmem_cores (s : State) (t : Nat) (f : TileMem → TileMem) : (modTmem s t f).cores = s.cores := rfl
@[simp] theorem modTmem_ddr (s : State) (t : Nat) (f : TileMem → TileMem) : (modTmem s t f).ddr = s.ddr := rfl
@[simp] theorem modTmem_reqArea (s : State) (t : Nat) (f : TileMem → TileMem) : (modTmem s t f).reqArea = s.reqArea := rfl
@[simp] theorem modTmem_evus (s : State) (t : Nat) (f : TileMem → TileMem) : (modTmem s t f).evus = s.evus := rfl
@[simp] theorem modTmem_fmp (s : State) (t : Nat) (f : TileMem → TileMem) : (modTmem s t f).fmp = s.fmp := rfl
@[simp] theorem modTmem_dict (s : State) (t : Nat) (f : TileMem → TileMem) : (modTmem s t f).dict = s.dict := rfl
@[simp] theorem modTmem_life (s : State) (t : Nat) (f : TileMem → TileMem) : (modTmem s t f).life = s.life := rfl
@[simp] theorem modTmem_fw (s : State) (t : Nat) (f : TileMem → TileMem) : (modTmem s t f).fw = s.fw := rfl
@[simp] theorem modTmem_boot (s : State) (t : Nat) (f : TileMem → TileMem) : (modTmem s t f).boot = s.boot := rfl
@[simp] theorem modTmem_tamper (s : State) (t : Nat) (f : TileMem → TileMem) : (modTmem s t f).tamper = s.tamper := rfl
@[simp] theorem modTmem_rng (s : State) (t : Nat) (f : TileMem → TileMem) : (modTmem s t f).rng = s.rng := rfl
@[simp] theorem modTmem_evr (s : State) (t : Nat) (f : TileMem → TileMem) : (modTmem s t f).evr = s.evr := rfl
@[simp] theorem modTmem_power (s : State) (t : Nat) (f : TileMem → TileMem) : (modTmem s t f).power = s.power := rfl
@[simp] theorem modTmem_therm (s : State) (t : Nat) (f : TileMem → TileMem) : (modTmem s t f).therm = s.therm := rfl
@[simp] theorem modTmem_test (s : State) (t : Nat) (f : TileMem → TileMem) : (modTmem s t f).test = s.test := rfl
@[simp] theorem modTmem_ident (s : State) (t : Nat) (f : TileMem → TileMem) : (modTmem s t f).ident = s.ident := rfl

@[simp] theorem modPart_pending (s : State) (p : Nat) (f : Part → Part) : (modPart s p f).pending = s.pending := rfl
@[simp] theorem modPart_now (s : State) (p : Nat) (f : Part → Part) : (modPart s p f).now = s.now := rfl
@[simp] theorem modPart_free (s : State) (p : Nat) (f : Part → Part) : (modPart s p f).free = s.free := rfl
@[simp] theorem modPart_bus (s : State) (p : Nat) (f : Part → Part) : (modPart s p f).bus = s.bus := rfl
@[simp] theorem modPart_hif (s : State) (p : Nat) (f : Part → Part) : (modPart s p f).hif = s.hif := rfl
@[simp] theorem modPart_qps (s : State) (p : Nat) (f : Part → Part) : (modPart s p f).qps = s.qps := rfl
@[simp] theorem modPart_entries (s : State) (p : Nat) (f : Part → Part) : (modPart s p f).entries = s.entries := rfl
@[simp] theorem modPart_quarters (s : State) (p : Nat) (f : Part → Part) : (modPart s p f).quarters = s.quarters := rfl
@[simp] theorem modPart_tiles (s : State) (p : Nat) (f : Part → Part) : (modPart s p f).tiles = s.tiles := rfl
@[simp] theorem modPart_tmem (s : State) (p : Nat) (f : Part → Part) : (modPart s p f).tmem = s.tmem := rfl
@[simp] theorem modPart_parts (s : State) (p : Nat) (f : Part → Part) : (modPart s p f).parts = tblSet s.parts p (f (partOf s p)) := rfl
@[simp] theorem modPart_journal (s : State) (p : Nat) (f : Part → Part) : (modPart s p f).journal = s.journal := rfl
@[simp] theorem modPart_vault (s : State) (p : Nat) (f : Part → Part) : (modPart s p f).vault = s.vault := rfl
@[simp] theorem modPart_svc (s : State) (p : Nat) (f : Part → Part) : (modPart s p f).svc = s.svc := rfl
@[simp] theorem modPart_cores (s : State) (p : Nat) (f : Part → Part) : (modPart s p f).cores = s.cores := rfl
@[simp] theorem modPart_ddr (s : State) (p : Nat) (f : Part → Part) : (modPart s p f).ddr = s.ddr := rfl
@[simp] theorem modPart_reqArea (s : State) (p : Nat) (f : Part → Part) : (modPart s p f).reqArea = s.reqArea := rfl
@[simp] theorem modPart_evus (s : State) (p : Nat) (f : Part → Part) : (modPart s p f).evus = s.evus := rfl
@[simp] theorem modPart_fmp (s : State) (p : Nat) (f : Part → Part) : (modPart s p f).fmp = s.fmp := rfl
@[simp] theorem modPart_dict (s : State) (p : Nat) (f : Part → Part) : (modPart s p f).dict = s.dict := rfl
@[simp] theorem modPart_life (s : State) (p : Nat) (f : Part → Part) : (modPart s p f).life = s.life := rfl
@[simp] theorem modPart_fw (s : State) (p : Nat) (f : Part → Part) : (modPart s p f).fw = s.fw := rfl
@[simp] theorem modPart_boot (s : State) (p : Nat) (f : Part → Part) : (modPart s p f).boot = s.boot := rfl
@[simp] theorem modPart_tamper (s : State) (p : Nat) (f : Part → Part) : (modPart s p f).tamper = s.tamper := rfl
@[simp] theorem modPart_rng (s : State) (p : Nat) (f : Part → Part) : (modPart s p f).rng = s.rng := rfl
@[simp] theorem modPart_evr (s : State) (p : Nat) (f : Part → Part) : (modPart s p f).evr = s.evr := rfl
@[simp] theorem modPart_power (s : State) (p : Nat) (f : Part → Part) : (modPart s p f).power = s.power := rfl
@[simp] theorem modPart_therm (s : State) (p : Nat) (f : Part → Part) : (modPart s p f).therm = s.therm := rfl
@[simp] theorem modPart_test (s : State) (p : Nat) (f : Part → Part) : (modPart s p f).test = s.test := rfl
@[simp] theorem modPart_ident (s : State) (p : Nat) (f : Part → Part) : (modPart s p f).ident = s.ident := rfl

@[simp] theorem modCore_pending (s : State) (c : Nat) (f : EloaCore → EloaCore) : (modCore s c f).pending = s.pending := rfl
@[simp] theorem modCore_now (s : State) (c : Nat) (f : EloaCore → EloaCore) : (modCore s c f).now = s.now := rfl
@[simp] theorem modCore_free (s : State) (c : Nat) (f : EloaCore → EloaCore) : (modCore s c f).free = s.free := rfl
@[simp] theorem modCore_bus (s : State) (c : Nat) (f : EloaCore → EloaCore) : (modCore s c f).bus = s.bus := rfl
@[simp] theorem modCore_hif (s : State) (c : Nat) (f : EloaCore → EloaCore) : (modCore s c f).hif = s.hif := rfl
@[simp] theorem modCore_qps (s : State) (c : Nat) (f : EloaCore → EloaCore) : (modCore s c f).qps = s.qps := rfl
@[simp] theorem modCore_entries (s : State) (c : Nat) (f : EloaCore → EloaCore) : (modCore s c f).entries = s.entries := rfl
@[simp] theorem modCore_quarters (s : State) (c : Nat) (f : EloaCore → EloaCore) : (modCore s c f).quarters = s.quarters := rfl
@[simp] theorem modCore_tiles (s : State) (c : Nat) (f : EloaCore → EloaCore) : (modCore s c f).tiles = s.tiles := rfl
@[simp] theorem modCore_tmem (s : State) (c : Nat) (f : EloaCore → EloaCore) : (modCore s c f).tmem = s.tmem := rfl
@[simp] theorem modCore_parts (s : State) (c : Nat) (f : EloaCore → EloaCore) : (modCore s c f).parts = s.parts := rfl
@[simp] theorem modCore_journal (s : State) (c : Nat) (f : EloaCore → EloaCore) : (modCore s c f).journal = s.journal := rfl
@[simp] theorem modCore_vault (s : State) (c : Nat) (f : EloaCore → EloaCore) : (modCore s c f).vault = s.vault := rfl
@[simp] theorem modCore_svc (s : State) (c : Nat) (f : EloaCore → EloaCore) : (modCore s c f).svc = s.svc := rfl
@[simp] theorem modCore_cores (s : State) (c : Nat) (f : EloaCore → EloaCore) : (modCore s c f).cores = tblSet s.cores c (f (coreOf s c)) := rfl
@[simp] theorem modCore_ddr (s : State) (c : Nat) (f : EloaCore → EloaCore) : (modCore s c f).ddr = s.ddr := rfl
@[simp] theorem modCore_reqArea (s : State) (c : Nat) (f : EloaCore → EloaCore) : (modCore s c f).reqArea = s.reqArea := rfl
@[simp] theorem modCore_evus (s : State) (c : Nat) (f : EloaCore → EloaCore) : (modCore s c f).evus = s.evus := rfl
@[simp] theorem modCore_fmp (s : State) (c : Nat) (f : EloaCore → EloaCore) : (modCore s c f).fmp = s.fmp := rfl
@[simp] theorem modCore_dict (s : State) (c : Nat) (f : EloaCore → EloaCore) : (modCore s c f).dict = s.dict := rfl
@[simp] theorem modCore_life (s : State) (c : Nat) (f : EloaCore → EloaCore) : (modCore s c f).life = s.life := rfl
@[simp] theorem modCore_fw (s : State) (c : Nat) (f : EloaCore → EloaCore) : (modCore s c f).fw = s.fw := rfl
@[simp] theorem modCore_boot (s : State) (c : Nat) (f : EloaCore → EloaCore) : (modCore s c f).boot = s.boot := rfl
@[simp] theorem modCore_tamper (s : State) (c : Nat) (f : EloaCore → EloaCore) : (modCore s c f).tamper = s.tamper := rfl
@[simp] theorem modCore_rng (s : State) (c : Nat) (f : EloaCore → EloaCore) : (modCore s c f).rng = s.rng := rfl
@[simp] theorem modCore_evr (s : State) (c : Nat) (f : EloaCore → EloaCore) : (modCore s c f).evr = s.evr := rfl
@[simp] theorem modCore_power (s : State) (c : Nat) (f : EloaCore → EloaCore) : (modCore s c f).power = s.power := rfl
@[simp] theorem modCore_therm (s : State) (c : Nat) (f : EloaCore → EloaCore) : (modCore s c f).therm = s.therm := rfl
@[simp] theorem modCore_test (s : State) (c : Nat) (f : EloaCore → EloaCore) : (modCore s c f).test = s.test := rfl
@[simp] theorem modCore_ident (s : State) (c : Nat) (f : EloaCore → EloaCore) : (modCore s c f).ident = s.ident := rfl

@[simp] theorem modEvu_pending (s : State) (u : Nat) (f : Evu → Evu) : (modEvu s u f).pending = s.pending := rfl
@[simp] theorem modEvu_now (s : State) (u : Nat) (f : Evu → Evu) : (modEvu s u f).now = s.now := rfl
@[simp] theorem modEvu_free (s : State) (u : Nat) (f : Evu → Evu) : (modEvu s u f).free = s.free := rfl
@[simp] theorem modEvu_bus (s : State) (u : Nat) (f : Evu → Evu) : (modEvu s u f).bus = s.bus := rfl
@[simp] theorem modEvu_hif (s : State) (u : Nat) (f : Evu → Evu) : (modEvu s u f).hif = s.hif := rfl
@[simp] theorem modEvu_qps (s : State) (u : Nat) (f : Evu → Evu) : (modEvu s u f).qps = s.qps := rfl
@[simp] theorem modEvu_entries (s : State) (u : Nat) (f : Evu → Evu) : (modEvu s u f).entries = s.entries := rfl
@[simp] theorem modEvu_quarters (s : State) (u : Nat) (f : Evu → Evu) : (modEvu s u f).quarters = s.quarters := rfl
@[simp] theorem modEvu_tiles (s : State) (u : Nat) (f : Evu → Evu) : (modEvu s u f).tiles = s.tiles := rfl
@[simp] theorem modEvu_tmem (s : State) (u : Nat) (f : Evu → Evu) : (modEvu s u f).tmem = s.tmem := rfl
@[simp] theorem modEvu_parts (s : State) (u : Nat) (f : Evu → Evu) : (modEvu s u f).parts = s.parts := rfl
@[simp] theorem modEvu_journal (s : State) (u : Nat) (f : Evu → Evu) : (modEvu s u f).journal = s.journal := rfl
@[simp] theorem modEvu_vault (s : State) (u : Nat) (f : Evu → Evu) : (modEvu s u f).vault = s.vault := rfl
@[simp] theorem modEvu_svc (s : State) (u : Nat) (f : Evu → Evu) : (modEvu s u f).svc = s.svc := rfl
@[simp] theorem modEvu_cores (s : State) (u : Nat) (f : Evu → Evu) : (modEvu s u f).cores = s.cores := rfl
@[simp] theorem modEvu_ddr (s : State) (u : Nat) (f : Evu → Evu) : (modEvu s u f).ddr = s.ddr := rfl
@[simp] theorem modEvu_reqArea (s : State) (u : Nat) (f : Evu → Evu) : (modEvu s u f).reqArea = s.reqArea := rfl
@[simp] theorem modEvu_evus (s : State) (u : Nat) (f : Evu → Evu) : (modEvu s u f).evus = tblSet s.evus u (f (evuOf s u)) := rfl
@[simp] theorem modEvu_fmp (s : State) (u : Nat) (f : Evu → Evu) : (modEvu s u f).fmp = s.fmp := rfl
@[simp] theorem modEvu_dict (s : State) (u : Nat) (f : Evu → Evu) : (modEvu s u f).dict = s.dict := rfl
@[simp] theorem modEvu_life (s : State) (u : Nat) (f : Evu → Evu) : (modEvu s u f).life = s.life := rfl
@[simp] theorem modEvu_fw (s : State) (u : Nat) (f : Evu → Evu) : (modEvu s u f).fw = s.fw := rfl
@[simp] theorem modEvu_boot (s : State) (u : Nat) (f : Evu → Evu) : (modEvu s u f).boot = s.boot := rfl
@[simp] theorem modEvu_tamper (s : State) (u : Nat) (f : Evu → Evu) : (modEvu s u f).tamper = s.tamper := rfl
@[simp] theorem modEvu_rng (s : State) (u : Nat) (f : Evu → Evu) : (modEvu s u f).rng = s.rng := rfl
@[simp] theorem modEvu_evr (s : State) (u : Nat) (f : Evu → Evu) : (modEvu s u f).evr = s.evr := rfl
@[simp] theorem modEvu_power (s : State) (u : Nat) (f : Evu → Evu) : (modEvu s u f).power = s.power := rfl
@[simp] theorem modEvu_therm (s : State) (u : Nat) (f : Evu → Evu) : (modEvu s u f).therm = s.therm := rfl
@[simp] theorem modEvu_test (s : State) (u : Nat) (f : Evu → Evu) : (modEvu s u f).test = s.test := rfl
@[simp] theorem modEvu_ident (s : State) (u : Nat) (f : Evu → Evu) : (modEvu s u f).ident = s.ident := rfl

@[simp] theorem modHif_pending (s : State) (f : Hif → Hif) : (modHif s f).pending = s.pending := rfl
@[simp] theorem modHif_now (s : State) (f : Hif → Hif) : (modHif s f).now = s.now := rfl
@[simp] theorem modHif_free (s : State) (f : Hif → Hif) : (modHif s f).free = s.free := rfl
@[simp] theorem modHif_bus (s : State) (f : Hif → Hif) : (modHif s f).bus = s.bus := rfl
@[simp] theorem modHif_hif (s : State) (f : Hif → Hif) : (modHif s f).hif = f s.hif := rfl
@[simp] theorem modHif_qps (s : State) (f : Hif → Hif) : (modHif s f).qps = s.qps := rfl
@[simp] theorem modHif_entries (s : State) (f : Hif → Hif) : (modHif s f).entries = s.entries := rfl
@[simp] theorem modHif_quarters (s : State) (f : Hif → Hif) : (modHif s f).quarters = s.quarters := rfl
@[simp] theorem modHif_tiles (s : State) (f : Hif → Hif) : (modHif s f).tiles = s.tiles := rfl
@[simp] theorem modHif_tmem (s : State) (f : Hif → Hif) : (modHif s f).tmem = s.tmem := rfl
@[simp] theorem modHif_parts (s : State) (f : Hif → Hif) : (modHif s f).parts = s.parts := rfl
@[simp] theorem modHif_journal (s : State) (f : Hif → Hif) : (modHif s f).journal = s.journal := rfl
@[simp] theorem modHif_vault (s : State) (f : Hif → Hif) : (modHif s f).vault = s.vault := rfl
@[simp] theorem modHif_svc (s : State) (f : Hif → Hif) : (modHif s f).svc = s.svc := rfl
@[simp] theorem modHif_cores (s : State) (f : Hif → Hif) : (modHif s f).cores = s.cores := rfl
@[simp] theorem modHif_ddr (s : State) (f : Hif → Hif) : (modHif s f).ddr = s.ddr := rfl
@[simp] theorem modHif_reqArea (s : State) (f : Hif → Hif) : (modHif s f).reqArea = s.reqArea := rfl
@[simp] theorem modHif_evus (s : State) (f : Hif → Hif) : (modHif s f).evus = s.evus := rfl
@[simp] theorem modHif_fmp (s : State) (f : Hif → Hif) : (modHif s f).fmp = s.fmp := rfl
@[simp] theorem modHif_dict (s : State) (f : Hif → Hif) : (modHif s f).dict = s.dict := rfl
@[simp] theorem modHif_life (s : State) (f : Hif → Hif) : (modHif s f).life = s.life := rfl
@[simp] theorem modHif_fw (s : State) (f : Hif → Hif) : (modHif s f).fw = s.fw := rfl
@[simp] theorem modHif_boot (s : State) (f : Hif → Hif) : (modHif s f).boot = s.boot := rfl
@[simp] theorem modHif_tamper (s : State) (f : Hif → Hif) : (modHif s f).tamper = s.tamper := rfl
@[simp] theorem modHif_rng (s : State) (f : Hif → Hif) : (modHif s f).rng = s.rng := rfl
@[simp] theorem modHif_evr (s : State) (f : Hif → Hif) : (modHif s f).evr = s.evr := rfl
@[simp] theorem modHif_power (s : State) (f : Hif → Hif) : (modHif s f).power = s.power := rfl
@[simp] theorem modHif_therm (s : State) (f : Hif → Hif) : (modHif s f).therm = s.therm := rfl
@[simp] theorem modHif_test (s : State) (f : Hif → Hif) : (modHif s f).test = s.test := rfl
@[simp] theorem modHif_ident (s : State) (f : Hif → Hif) : (modHif s f).ident = s.ident := rfl

@[simp] theorem modJournal_pending (s : State) (f : Journal → Journal) : (modJournal s f).pending = s.pending := rfl
@[simp] theorem modJournal_now (s : State) (f : Journal → Journal) : (modJournal s f).now = s.now := rfl
@[simp] theorem modJournal_free (s : State) (f : Journal → Journal) : (modJournal s f).free = s.free := rfl
@[simp] theorem modJournal_bus (s : State) (f : Journal → Journal) : (modJournal s f).bus = s.bus := rfl
@[simp] theorem modJournal_hif (s : State) (f : Journal → Journal) : (modJournal s f).hif = s.hif := rfl
@[simp] theorem modJournal_qps (s : State) (f : Journal → Journal) : (modJournal s f).qps = s.qps := rfl
@[simp] theorem modJournal_entries (s : State) (f : Journal → Journal) : (modJournal s f).entries = s.entries := rfl
@[simp] theorem modJournal_quarters (s : State) (f : Journal → Journal) : (modJournal s f).quarters = s.quarters := rfl
@[simp] theorem modJournal_tiles (s : State) (f : Journal → Journal) : (modJournal s f).tiles = s.tiles := rfl
@[simp] theorem modJournal_tmem (s : State) (f : Journal → Journal) : (modJournal s f).tmem = s.tmem := rfl
@[simp] theorem modJournal_parts (s : State) (f : Journal → Journal) : (modJournal s f).parts = s.parts := rfl
@[simp] theorem modJournal_journal (s : State) (f : Journal → Journal) : (modJournal s f).journal = f s.journal := rfl
@[simp] theorem modJournal_vault (s : State) (f : Journal → Journal) : (modJournal s f).vault = s.vault := rfl
@[simp] theorem modJournal_svc (s : State) (f : Journal → Journal) : (modJournal s f).svc = s.svc := rfl
@[simp] theorem modJournal_cores (s : State) (f : Journal → Journal) : (modJournal s f).cores = s.cores := rfl
@[simp] theorem modJournal_ddr (s : State) (f : Journal → Journal) : (modJournal s f).ddr = s.ddr := rfl
@[simp] theorem modJournal_reqArea (s : State) (f : Journal → Journal) : (modJournal s f).reqArea = s.reqArea := rfl
@[simp] theorem modJournal_evus (s : State) (f : Journal → Journal) : (modJournal s f).evus = s.evus := rfl
@[simp] theorem modJournal_fmp (s : State) (f : Journal → Journal) : (modJournal s f).fmp = s.fmp := rfl
@[simp] theorem modJournal_dict (s : State) (f : Journal → Journal) : (modJournal s f).dict = s.dict := rfl
@[simp] theorem modJournal_life (s : State) (f : Journal → Journal) : (modJournal s f).life = s.life := rfl
@[simp] theorem modJournal_fw (s : State) (f : Journal → Journal) : (modJournal s f).fw = s.fw := rfl
@[simp] theorem modJournal_boot (s : State) (f : Journal → Journal) : (modJournal s f).boot = s.boot := rfl
@[simp] theorem modJournal_tamper (s : State) (f : Journal → Journal) : (modJournal s f).tamper = s.tamper := rfl
@[simp] theorem modJournal_rng (s : State) (f : Journal → Journal) : (modJournal s f).rng = s.rng := rfl
@[simp] theorem modJournal_evr (s : State) (f : Journal → Journal) : (modJournal s f).evr = s.evr := rfl
@[simp] theorem modJournal_power (s : State) (f : Journal → Journal) : (modJournal s f).power = s.power := rfl
@[simp] theorem modJournal_therm (s : State) (f : Journal → Journal) : (modJournal s f).therm = s.therm := rfl
@[simp] theorem modJournal_test (s : State) (f : Journal → Journal) : (modJournal s f).test = s.test := rfl
@[simp] theorem modJournal_ident (s : State) (f : Journal → Journal) : (modJournal s f).ident = s.ident := rfl

@[simp] theorem modVault_pending (s : State) (f : Vault → Vault) : (modVault s f).pending = s.pending := rfl
@[simp] theorem modVault_now (s : State) (f : Vault → Vault) : (modVault s f).now = s.now := rfl
@[simp] theorem modVault_free (s : State) (f : Vault → Vault) : (modVault s f).free = s.free := rfl
@[simp] theorem modVault_bus (s : State) (f : Vault → Vault) : (modVault s f).bus = s.bus := rfl
@[simp] theorem modVault_hif (s : State) (f : Vault → Vault) : (modVault s f).hif = s.hif := rfl
@[simp] theorem modVault_qps (s : State) (f : Vault → Vault) : (modVault s f).qps = s.qps := rfl
@[simp] theorem modVault_entries (s : State) (f : Vault → Vault) : (modVault s f).entries = s.entries := rfl
@[simp] theorem modVault_quarters (s : State) (f : Vault → Vault) : (modVault s f).quarters = s.quarters := rfl
@[simp] theorem modVault_tiles (s : State) (f : Vault → Vault) : (modVault s f).tiles = s.tiles := rfl
@[simp] theorem modVault_tmem (s : State) (f : Vault → Vault) : (modVault s f).tmem = s.tmem := rfl
@[simp] theorem modVault_parts (s : State) (f : Vault → Vault) : (modVault s f).parts = s.parts := rfl
@[simp] theorem modVault_journal (s : State) (f : Vault → Vault) : (modVault s f).journal = s.journal := rfl
@[simp] theorem modVault_vault (s : State) (f : Vault → Vault) : (modVault s f).vault = f s.vault := rfl
@[simp] theorem modVault_svc (s : State) (f : Vault → Vault) : (modVault s f).svc = s.svc := rfl
@[simp] theorem modVault_cores (s : State) (f : Vault → Vault) : (modVault s f).cores = s.cores := rfl
@[simp] theorem modVault_ddr (s : State) (f : Vault → Vault) : (modVault s f).ddr = s.ddr := rfl
@[simp] theorem modVault_reqArea (s : State) (f : Vault → Vault) : (modVault s f).reqArea = s.reqArea := rfl
@[simp] theorem modVault_evus (s : State) (f : Vault → Vault) : (modVault s f).evus = s.evus := rfl
@[simp] theorem modVault_fmp (s : State) (f : Vault → Vault) : (modVault s f).fmp = s.fmp := rfl
@[simp] theorem modVault_dict (s : State) (f : Vault → Vault) : (modVault s f).dict = s.dict := rfl
@[simp] theorem modVault_life (s : State) (f : Vault → Vault) : (modVault s f).life = s.life := rfl
@[simp] theorem modVault_fw (s : State) (f : Vault → Vault) : (modVault s f).fw = s.fw := rfl
@[simp] theorem modVault_boot (s : State) (f : Vault → Vault) : (modVault s f).boot = s.boot := rfl
@[simp] theorem modVault_tamper (s : State) (f : Vault → Vault) : (modVault s f).tamper = s.tamper := rfl
@[simp] theorem modVault_rng (s : State) (f : Vault → Vault) : (modVault s f).rng = s.rng := rfl
@[simp] theorem modVault_evr (s : State) (f : Vault → Vault) : (modVault s f).evr = s.evr := rfl
@[simp] theorem modVault_power (s : State) (f : Vault → Vault) : (modVault s f).power = s.power := rfl
@[simp] theorem modVault_therm (s : State) (f : Vault → Vault) : (modVault s f).therm = s.therm := rfl
@[simp] theorem modVault_test (s : State) (f : Vault → Vault) : (modVault s f).test = s.test := rfl
@[simp] theorem modVault_ident (s : State) (f : Vault → Vault) : (modVault s f).ident = s.ident := rfl

@[simp] theorem modEvr_pending (s : State) (f : Evr → Evr) : (modEvr s f).pending = s.pending := rfl
@[simp] theorem modEvr_now (s : State) (f : Evr → Evr) : (modEvr s f).now = s.now := rfl
@[simp] theorem modEvr_free (s : State) (f : Evr → Evr) : (modEvr s f).free = s.free := rfl
@[simp] theorem modEvr_bus (s : State) (f : Evr → Evr) : (modEvr s f).bus = s.bus := rfl
@[simp] theorem modEvr_hif (s : State) (f : Evr → Evr) : (modEvr s f).hif = s.hif := rfl
@[simp] theorem modEvr_qps (s : State) (f : Evr → Evr) : (modEvr s f).qps = s.qps := rfl
@[simp] theorem modEvr_entries (s : State) (f : Evr → Evr) : (modEvr s f).entries = s.entries := rfl
@[simp] theorem modEvr_quarters (s : State) (f : Evr → Evr) : (modEvr s f).quarters = s.quarters := rfl
@[simp] theorem modEvr_tiles (s : State) (f : Evr → Evr) : (modEvr s f).tiles = s.tiles := rfl
@[simp] theorem modEvr_tmem (s : State) (f : Evr → Evr) : (modEvr s f).tmem = s.tmem := rfl
@[simp] theorem modEvr_parts (s : State) (f : Evr → Evr) : (modEvr s f).parts = s.parts := rfl
@[simp] theorem modEvr_journal (s : State) (f : Evr → Evr) : (modEvr s f).journal = s.journal := rfl
@[simp] theorem modEvr_vault (s : State) (f : Evr → Evr) : (modEvr s f).vault = s.vault := rfl
@[simp] theorem modEvr_svc (s : State) (f : Evr → Evr) : (modEvr s f).svc = s.svc := rfl
@[simp] theorem modEvr_cores (s : State) (f : Evr → Evr) : (modEvr s f).cores = s.cores := rfl
@[simp] theorem modEvr_ddr (s : State) (f : Evr → Evr) : (modEvr s f).ddr = s.ddr := rfl
@[simp] theorem modEvr_reqArea (s : State) (f : Evr → Evr) : (modEvr s f).reqArea = s.reqArea := rfl
@[simp] theorem modEvr_evus (s : State) (f : Evr → Evr) : (modEvr s f).evus = s.evus := rfl
@[simp] theorem modEvr_fmp (s : State) (f : Evr → Evr) : (modEvr s f).fmp = s.fmp := rfl
@[simp] theorem modEvr_dict (s : State) (f : Evr → Evr) : (modEvr s f).dict = s.dict := rfl
@[simp] theorem modEvr_life (s : State) (f : Evr → Evr) : (modEvr s f).life = s.life := rfl
@[simp] theorem modEvr_fw (s : State) (f : Evr → Evr) : (modEvr s f).fw = s.fw := rfl
@[simp] theorem modEvr_boot (s : State) (f : Evr → Evr) : (modEvr s f).boot = s.boot := rfl
@[simp] theorem modEvr_tamper (s : State) (f : Evr → Evr) : (modEvr s f).tamper = s.tamper := rfl
@[simp] theorem modEvr_rng (s : State) (f : Evr → Evr) : (modEvr s f).rng = s.rng := rfl
@[simp] theorem modEvr_evr (s : State) (f : Evr → Evr) : (modEvr s f).evr = f s.evr := rfl
@[simp] theorem modEvr_power (s : State) (f : Evr → Evr) : (modEvr s f).power = s.power := rfl
@[simp] theorem modEvr_therm (s : State) (f : Evr → Evr) : (modEvr s f).therm = s.therm := rfl
@[simp] theorem modEvr_test (s : State) (f : Evr → Evr) : (modEvr s f).test = s.test := rfl
@[simp] theorem modEvr_ident (s : State) (f : Evr → Evr) : (modEvr s f).ident = s.ident := rfl

@[simp] theorem modDrbg_pending (s : State) (i : Nat) (f : Drbg → Drbg) : (modDrbg s i f).pending = s.pending := rfl
@[simp] theorem modDrbg_now (s : State) (i : Nat) (f : Drbg → Drbg) : (modDrbg s i f).now = s.now := rfl
@[simp] theorem modDrbg_free (s : State) (i : Nat) (f : Drbg → Drbg) : (modDrbg s i f).free = s.free := rfl
@[simp] theorem modDrbg_bus (s : State) (i : Nat) (f : Drbg → Drbg) : (modDrbg s i f).bus = s.bus := rfl
@[simp] theorem modDrbg_hif (s : State) (i : Nat) (f : Drbg → Drbg) : (modDrbg s i f).hif = s.hif := rfl
@[simp] theorem modDrbg_qps (s : State) (i : Nat) (f : Drbg → Drbg) : (modDrbg s i f).qps = s.qps := rfl
@[simp] theorem modDrbg_entries (s : State) (i : Nat) (f : Drbg → Drbg) : (modDrbg s i f).entries = s.entries := rfl
@[simp] theorem modDrbg_quarters (s : State) (i : Nat) (f : Drbg → Drbg) : (modDrbg s i f).quarters = s.quarters := rfl
@[simp] theorem modDrbg_tiles (s : State) (i : Nat) (f : Drbg → Drbg) : (modDrbg s i f).tiles = s.tiles := rfl
@[simp] theorem modDrbg_tmem (s : State) (i : Nat) (f : Drbg → Drbg) : (modDrbg s i f).tmem = s.tmem := rfl
@[simp] theorem modDrbg_parts (s : State) (i : Nat) (f : Drbg → Drbg) : (modDrbg s i f).parts = s.parts := rfl
@[simp] theorem modDrbg_journal (s : State) (i : Nat) (f : Drbg → Drbg) : (modDrbg s i f).journal = s.journal := rfl
@[simp] theorem modDrbg_vault (s : State) (i : Nat) (f : Drbg → Drbg) : (modDrbg s i f).vault = s.vault := rfl
@[simp] theorem modDrbg_svc (s : State) (i : Nat) (f : Drbg → Drbg) : (modDrbg s i f).svc = s.svc := rfl
@[simp] theorem modDrbg_cores (s : State) (i : Nat) (f : Drbg → Drbg) : (modDrbg s i f).cores = s.cores := rfl
@[simp] theorem modDrbg_ddr (s : State) (i : Nat) (f : Drbg → Drbg) : (modDrbg s i f).ddr = s.ddr := rfl
@[simp] theorem modDrbg_reqArea (s : State) (i : Nat) (f : Drbg → Drbg) : (modDrbg s i f).reqArea = s.reqArea := rfl
@[simp] theorem modDrbg_evus (s : State) (i : Nat) (f : Drbg → Drbg) : (modDrbg s i f).evus = s.evus := rfl
@[simp] theorem modDrbg_fmp (s : State) (i : Nat) (f : Drbg → Drbg) : (modDrbg s i f).fmp = s.fmp := rfl
@[simp] theorem modDrbg_dict (s : State) (i : Nat) (f : Drbg → Drbg) : (modDrbg s i f).dict = s.dict := rfl
@[simp] theorem modDrbg_life (s : State) (i : Nat) (f : Drbg → Drbg) : (modDrbg s i f).life = s.life := rfl
@[simp] theorem modDrbg_fw (s : State) (i : Nat) (f : Drbg → Drbg) : (modDrbg s i f).fw = s.fw := rfl
@[simp] theorem modDrbg_boot (s : State) (i : Nat) (f : Drbg → Drbg) : (modDrbg s i f).boot = s.boot := rfl
@[simp] theorem modDrbg_tamper (s : State) (i : Nat) (f : Drbg → Drbg) : (modDrbg s i f).tamper = s.tamper := rfl
@[simp] theorem modDrbg_evr (s : State) (i : Nat) (f : Drbg → Drbg) : (modDrbg s i f).evr = s.evr := rfl
@[simp] theorem modDrbg_power (s : State) (i : Nat) (f : Drbg → Drbg) : (modDrbg s i f).power = s.power := rfl
@[simp] theorem modDrbg_therm (s : State) (i : Nat) (f : Drbg → Drbg) : (modDrbg s i f).therm = s.therm := rfl
@[simp] theorem modDrbg_test (s : State) (i : Nat) (f : Drbg → Drbg) : (modDrbg s i f).test = s.test := rfl
@[simp] theorem modDrbg_ident (s : State) (i : Nat) (f : Drbg → Drbg) : (modDrbg s i f).ident = s.ident := rfl

@[simp] theorem send_pending (s : State) (m : BusMsg) : (send s m).pending = s.pending := rfl
@[simp] theorem send_now (s : State) (m : BusMsg) : (send s m).now = s.now := rfl
@[simp] theorem send_free (s : State) (m : BusMsg) : (send s m).free = s.free := rfl
@[simp] theorem send_bus (s : State) (m : BusMsg) : (send s m).bus = m :: s.bus := rfl
@[simp] theorem send_hif (s : State) (m : BusMsg) : (send s m).hif = s.hif := rfl
@[simp] theorem send_qps (s : State) (m : BusMsg) : (send s m).qps = s.qps := rfl
@[simp] theorem send_entries (s : State) (m : BusMsg) : (send s m).entries = s.entries := rfl
@[simp] theorem send_quarters (s : State) (m : BusMsg) : (send s m).quarters = s.quarters := rfl
@[simp] theorem send_tiles (s : State) (m : BusMsg) : (send s m).tiles = s.tiles := rfl
@[simp] theorem send_tmem (s : State) (m : BusMsg) : (send s m).tmem = s.tmem := rfl
@[simp] theorem send_parts (s : State) (m : BusMsg) : (send s m).parts = s.parts := rfl
@[simp] theorem send_journal (s : State) (m : BusMsg) : (send s m).journal = s.journal := rfl
@[simp] theorem send_vault (s : State) (m : BusMsg) : (send s m).vault = s.vault := rfl
@[simp] theorem send_svc (s : State) (m : BusMsg) : (send s m).svc = s.svc := rfl
@[simp] theorem send_cores (s : State) (m : BusMsg) : (send s m).cores = s.cores := rfl
@[simp] theorem send_ddr (s : State) (m : BusMsg) : (send s m).ddr = s.ddr := rfl
@[simp] theorem send_reqArea (s : State) (m : BusMsg) : (send s m).reqArea = s.reqArea := rfl
@[simp] theorem send_evus (s : State) (m : BusMsg) : (send s m).evus = s.evus := rfl
@[simp] theorem send_fmp (s : State) (m : BusMsg) : (send s m).fmp = s.fmp := rfl
@[simp] theorem send_dict (s : State) (m : BusMsg) : (send s m).dict = s.dict := rfl
@[simp] theorem send_life (s : State) (m : BusMsg) : (send s m).life = s.life := rfl
@[simp] theorem send_fw (s : State) (m : BusMsg) : (send s m).fw = s.fw := rfl
@[simp] theorem send_boot (s : State) (m : BusMsg) : (send s m).boot = s.boot := rfl
@[simp] theorem send_tamper (s : State) (m : BusMsg) : (send s m).tamper = s.tamper := rfl
@[simp] theorem send_rng (s : State) (m : BusMsg) : (send s m).rng = s.rng := rfl
@[simp] theorem send_evr (s : State) (m : BusMsg) : (send s m).evr = s.evr := rfl
@[simp] theorem send_power (s : State) (m : BusMsg) : (send s m).power = s.power := rfl
@[simp] theorem send_therm (s : State) (m : BusMsg) : (send s m).therm = s.therm := rfl
@[simp] theorem send_test (s : State) (m : BusMsg) : (send s m).test = s.test := rfl
@[simp] theorem send_ident (s : State) (m : BusMsg) : (send s m).ident = s.ident := rfl

@[simp] theorem modEntry_pending (s : State) (qp asn : Nat) (f : Entry → Entry) : (modEntry s qp asn f).pending = s.pending := rfl
@[simp] theorem modEntry_now (s : State) (qp asn : Nat) (f : Entry → Entry) : (modEntry s qp asn f).now = s.now := rfl
@[simp] theorem modEntry_free (s : State) (qp asn : Nat) (f : Entry → Entry) : (modEntry s qp asn f).free = s.free := rfl
@[simp] theorem modEntry_bus (s : State) (qp asn : Nat) (f : Entry → Entry) : (modEntry s qp asn f).bus = s.bus := rfl
@[simp] theorem modEntry_hif (s : State) (qp asn : Nat) (f : Entry → Entry) : (modEntry s qp asn f).hif = s.hif := rfl
@[simp] theorem modEntry_qps (s : State) (qp asn : Nat) (f : Entry → Entry) : (modEntry s qp asn f).qps = s.qps := rfl
@[simp] theorem modEntry_entries (s : State) (qp asn : Nat) (f : Entry → Entry) : (modEntry s qp asn f).entries = s.entries.map (fun e => if e.isOf qp asn then f e else e) := rfl
@[simp] theorem modEntry_quarters (s : State) (qp asn : Nat) (f : Entry → Entry) : (modEntry s qp asn f).quarters = s.quarters := rfl
@[simp] theorem modEntry_tiles (s : State) (qp asn : Nat) (f : Entry → Entry) : (modEntry s qp asn f).tiles = s.tiles := rfl
@[simp] theorem modEntry_tmem (s : State) (qp asn : Nat) (f : Entry → Entry) : (modEntry s qp asn f).tmem = s.tmem := rfl
@[simp] theorem modEntry_parts (s : State) (qp asn : Nat) (f : Entry → Entry) : (modEntry s qp asn f).parts = s.parts := rfl
@[simp] theorem modEntry_journal (s : State) (qp asn : Nat) (f : Entry → Entry) : (modEntry s qp asn f).journal = s.journal := rfl
@[simp] theorem modEntry_vault (s : State) (qp asn : Nat) (f : Entry → Entry) : (modEntry s qp asn f).vault = s.vault := rfl
@[simp] theorem modEntry_svc (s : State) (qp asn : Nat) (f : Entry → Entry) : (modEntry s qp asn f).svc = s.svc := rfl
@[simp] theorem modEntry_cores (s : State) (qp asn : Nat) (f : Entry → Entry) : (modEntry s qp asn f).cores = s.cores := rfl
@[simp] theorem modEntry_ddr (s : State) (qp asn : Nat) (f : Entry → Entry) : (modEntry s qp asn f).ddr = s.ddr := rfl
@[simp] theorem modEntry_reqArea (s : State) (qp asn : Nat) (f : Entry → Entry) : (modEntry s qp asn f).reqArea = s.reqArea := rfl
@[simp] theorem modEntry_evus (s : State) (qp asn : Nat) (f : Entry → Entry) : (modEntry s qp asn f).evus = s.evus := rfl
@[simp] theorem modEntry_fmp (s : State) (qp asn : Nat) (f : Entry → Entry) : (modEntry s qp asn f).fmp = s.fmp := rfl
@[simp] theorem modEntry_dict (s : State) (qp asn : Nat) (f : Entry → Entry) : (modEntry s qp asn f).dict = s.dict := rfl
@[simp] theorem modEntry_life (s : State) (qp asn : Nat) (f : Entry → Entry) : (modEntry s qp asn f).life = s.life := rfl
@[simp] theorem modEntry_fw (s : State) (qp asn : Nat) (f : Entry → Entry) : (modEntry s qp asn f).fw = s.fw := rfl
@[simp] theorem modEntry_boot (s : State) (qp asn : Nat) (f : Entry → Entry) : (modEntry s qp asn f).boot = s.boot := rfl
@[simp] theorem modEntry_tamper (s : State) (qp asn : Nat) (f : Entry → Entry) : (modEntry s qp asn f).tamper = s.tamper := rfl
@[simp] theorem modEntry_rng (s : State) (qp asn : Nat) (f : Entry → Entry) : (modEntry s qp asn f).rng = s.rng := rfl
@[simp] theorem modEntry_evr (s : State) (qp asn : Nat) (f : Entry → Entry) : (modEntry s qp asn f).evr = s.evr := rfl
@[simp] theorem modEntry_power (s : State) (qp asn : Nat) (f : Entry → Entry) : (modEntry s qp asn f).power = s.power := rfl
@[simp] theorem modEntry_therm (s : State) (qp asn : Nat) (f : Entry → Entry) : (modEntry s qp asn f).therm = s.therm := rfl
@[simp] theorem modEntry_test (s : State) (qp asn : Nat) (f : Entry → Entry) : (modEntry s qp asn f).test = s.test := rfl
@[simp] theorem modEntry_ident (s : State) (qp asn : Nat) (f : Entry → Entry) : (modEntry s qp asn f).ident = s.ident := rfl

@[simp] theorem addEntry_pending (s : State) (e : Entry) : (addEntry s e).pending = s.pending := rfl
@[simp] theorem addEntry_now (s : State) (e : Entry) : (addEntry s e).now = s.now := rfl
@[simp] theorem addEntry_free (s : State) (e : Entry) : (addEntry s e).free = s.free := rfl
@[simp] theorem addEntry_bus (s : State) (e : Entry) : (addEntry s e).bus = s.bus := rfl
@[simp] theorem addEntry_hif (s : State) (e : Entry) : (addEntry s e).hif = s.hif := rfl
@[simp] theorem addEntry_qps (s : State) (e : Entry) : (addEntry s e).qps = s.qps := rfl
@[simp] theorem addEntry_entries (s : State) (e : Entry) : (addEntry s e).entries = s.entries ++ [e] := rfl
@[simp] theorem addEntry_quarters (s : State) (e : Entry) : (addEntry s e).quarters = s.quarters := rfl
@[simp] theorem addEntry_tiles (s : State) (e : Entry) : (addEntry s e).tiles = s.tiles := rfl
@[simp] theorem addEntry_tmem (s : State) (e : Entry) : (addEntry s e).tmem = s.tmem := rfl
@[simp] theorem addEntry_parts (s : State) (e : Entry) : (addEntry s e).parts = s.parts := rfl
@[simp] theorem addEntry_journal (s : State) (e : Entry) : (addEntry s e).journal = s.journal := rfl
@[simp] theorem addEntry_vault (s : State) (e : Entry) : (addEntry s e).vault = s.vault := rfl
@[simp] theorem addEntry_svc (s : State) (e : Entry) : (addEntry s e).svc = s.svc := rfl
@[simp] theorem addEntry_cores (s : State) (e : Entry) : (addEntry s e).cores = s.cores := rfl
@[simp] theorem addEntry_ddr (s : State) (e : Entry) : (addEntry s e).ddr = s.ddr := rfl
@[simp] theorem addEntry_reqArea (s : State) (e : Entry) : (addEntry s e).reqArea = s.reqArea := rfl
@[simp] theorem addEntry_evus (s : State) (e : Entry) : (addEntry s e).evus = s.evus := rfl
@[simp] theorem addEntry_fmp (s : State) (e : Entry) : (addEntry s e).fmp = s.fmp := rfl
@[simp] theorem addEntry_dict (s : State) (e : Entry) : (addEntry s e).dict = s.dict := rfl
@[simp] theorem addEntry_life (s : State) (e : Entry) : (addEntry s e).life = s.life := rfl
@[simp] theorem addEntry_fw (s : State) (e : Entry) : (addEntry s e).fw = s.fw := rfl
@[simp] theorem addEntry_boot (s : State) (e : Entry) : (addEntry s e).boot = s.boot := rfl
@[simp] theorem addEntry_tamper (s : State) (e : Entry) : (addEntry s e).tamper = s.tamper := rfl
@[simp] theorem addEntry_rng (s : State) (e : Entry) : (addEntry s e).rng = s.rng := rfl
@[simp] theorem addEntry_evr (s : State) (e : Entry) : (addEntry s e).evr = s.evr := rfl
@[simp] theorem addEntry_power (s : State) (e : Entry) : (addEntry s e).power = s.power := rfl
@[simp] theorem addEntry_therm (s : State) (e : Entry) : (addEntry s e).therm = s.therm := rfl
@[simp] theorem addEntry_test (s : State) (e : Entry) : (addEntry s e).test = s.test := rfl
@[simp] theorem addEntry_ident (s : State) (e : Entry) : (addEntry s e).ident = s.ident := rfl

@[simp] theorem delEntry_pending (s : State) (qp asn : Nat) : (delEntry s qp asn).pending = s.pending := rfl
@[simp] theorem delEntry_now (s : State) (qp asn : Nat) : (delEntry s qp asn).now = s.now := rfl
@[simp] theorem delEntry_free (s : State) (qp asn : Nat) : (delEntry s qp asn).free = s.free := rfl
@[simp] theorem delEntry_bus (s : State) (qp asn : Nat) : (delEntry s qp asn).bus = s.bus := rfl
@[simp] theorem delEntry_hif (s : State) (qp asn : Nat) : (delEntry s qp asn).hif = s.hif := rfl
@[simp] theorem delEntry_qps (s : State) (qp asn : Nat) : (delEntry s qp asn).qps = s.qps := rfl
@[simp] theorem delEntry_entries (s : State) (qp asn : Nat) : (delEntry s qp asn).entries = s.entries.filter (fun e => !(e.isOf qp asn)) := rfl
@[simp] theorem delEntry_quarters (s : State) (qp asn : Nat) : (delEntry s qp asn).quarters = s.quarters := rfl
@[simp] theorem delEntry_tiles (s : State) (qp asn : Nat) : (delEntry s qp asn).tiles = s.tiles := rfl
@[simp] theorem delEntry_tmem (s : State) (qp asn : Nat) : (delEntry s qp asn).tmem = s.tmem := rfl
@[simp] theorem delEntry_parts (s : State) (qp asn : Nat) : (delEntry s qp asn).parts = s.parts := rfl
@[simp] theorem delEntry_journal (s : State) (qp asn : Nat) : (delEntry s qp asn).journal = s.journal := rfl
@[simp] theorem delEntry_vault (s : State) (qp asn : Nat) : (delEntry s qp asn).vault = s.vault := rfl
@[simp] theorem delEntry_svc (s : State) (qp asn : Nat) : (delEntry s qp asn).svc = s.svc := rfl
@[simp] theorem delEntry_cores (s : State) (qp asn : Nat) : (delEntry s qp asn).cores = s.cores := rfl
@[simp] theorem delEntry_ddr (s : State) (qp asn : Nat) : (delEntry s qp asn).ddr = s.ddr := rfl
@[simp] theorem delEntry_reqArea (s : State) (qp asn : Nat) : (delEntry s qp asn).reqArea = s.reqArea := rfl
@[simp] theorem delEntry_evus (s : State) (qp asn : Nat) : (delEntry s qp asn).evus = s.evus := rfl
@[simp] theorem delEntry_fmp (s : State) (qp asn : Nat) : (delEntry s qp asn).fmp = s.fmp := rfl
@[simp] theorem delEntry_dict (s : State) (qp asn : Nat) : (delEntry s qp asn).dict = s.dict := rfl
@[simp] theorem delEntry_life (s : State) (qp asn : Nat) : (delEntry s qp asn).life = s.life := rfl
@[simp] theorem delEntry_fw (s : State) (qp asn : Nat) : (delEntry s qp asn).fw = s.fw := rfl
@[simp] theorem delEntry_boot (s : State) (qp asn : Nat) : (delEntry s qp asn).boot = s.boot := rfl
@[simp] theorem delEntry_tamper (s : State) (qp asn : Nat) : (delEntry s qp asn).tamper = s.tamper := rfl
@[simp] theorem delEntry_rng (s : State) (qp asn : Nat) : (delEntry s qp asn).rng = s.rng := rfl
@[simp] theorem delEntry_evr (s : State) (qp asn : Nat) : (delEntry s qp asn).evr = s.evr := rfl
@[simp] theorem delEntry_power (s : State) (qp asn : Nat) : (delEntry s qp asn).power = s.power := rfl
@[simp] theorem delEntry_therm (s : State) (qp asn : Nat) : (delEntry s qp asn).therm = s.therm := rfl
@[simp] theorem delEntry_test (s : State) (qp asn : Nat) : (delEntry s qp asn).test = s.test := rfl
@[simp] theorem delEntry_ident (s : State) (qp asn : Nat) : (delEntry s qp asn).ident = s.ident := rfl

@[simp] theorem setObj_pending (s : State) (idx sub : Nat) (v : List Byte) : (setObj s idx sub v).pending = s.pending := rfl
@[simp] theorem setObj_now (s : State) (idx sub : Nat) (v : List Byte) : (setObj s idx sub v).now = s.now := rfl
@[simp] theorem setObj_free (s : State) (idx sub : Nat) (v : List Byte) : (setObj s idx sub v).free = s.free := rfl
@[simp] theorem setObj_bus (s : State) (idx sub : Nat) (v : List Byte) : (setObj s idx sub v).bus = s.bus := rfl
@[simp] theorem setObj_hif (s : State) (idx sub : Nat) (v : List Byte) : (setObj s idx sub v).hif = s.hif := rfl
@[simp] theorem setObj_qps (s : State) (idx sub : Nat) (v : List Byte) : (setObj s idx sub v).qps = s.qps := rfl
@[simp] theorem setObj_entries (s : State) (idx sub : Nat) (v : List Byte) : (setObj s idx sub v).entries = s.entries := rfl
@[simp] theorem setObj_quarters (s : State) (idx sub : Nat) (v : List Byte) : (setObj s idx sub v).quarters = s.quarters := rfl
@[simp] theorem setObj_tiles (s : State) (idx sub : Nat) (v : List Byte) : (setObj s idx sub v).tiles = s.tiles := rfl
@[simp] theorem setObj_tmem (s : State) (idx sub : Nat) (v : List Byte) : (setObj s idx sub v).tmem = s.tmem := rfl
@[simp] theorem setObj_parts (s : State) (idx sub : Nat) (v : List Byte) : (setObj s idx sub v).parts = s.parts := rfl
@[simp] theorem setObj_journal (s : State) (idx sub : Nat) (v : List Byte) : (setObj s idx sub v).journal = s.journal := rfl
@[simp] theorem setObj_vault (s : State) (idx sub : Nat) (v : List Byte) : (setObj s idx sub v).vault = s.vault := rfl
@[simp] theorem setObj_svc (s : State) (idx sub : Nat) (v : List Byte) : (setObj s idx sub v).svc = s.svc := rfl
@[simp] theorem setObj_cores (s : State) (idx sub : Nat) (v : List Byte) : (setObj s idx sub v).cores = s.cores := rfl
@[simp] theorem setObj_ddr (s : State) (idx sub : Nat) (v : List Byte) : (setObj s idx sub v).ddr = s.ddr := rfl
@[simp] theorem setObj_reqArea (s : State) (idx sub : Nat) (v : List Byte) : (setObj s idx sub v).reqArea = s.reqArea := rfl
@[simp] theorem setObj_evus (s : State) (idx sub : Nat) (v : List Byte) : (setObj s idx sub v).evus = s.evus := rfl
@[simp] theorem setObj_fmp (s : State) (idx sub : Nat) (v : List Byte) : (setObj s idx sub v).fmp = s.fmp := rfl
@[simp] theorem setObj_life (s : State) (idx sub : Nat) (v : List Byte) : (setObj s idx sub v).life = s.life := rfl
@[simp] theorem setObj_fw (s : State) (idx sub : Nat) (v : List Byte) : (setObj s idx sub v).fw = s.fw := rfl
@[simp] theorem setObj_boot (s : State) (idx sub : Nat) (v : List Byte) : (setObj s idx sub v).boot = s.boot := rfl
@[simp] theorem setObj_tamper (s : State) (idx sub : Nat) (v : List Byte) : (setObj s idx sub v).tamper = s.tamper := rfl
@[simp] theorem setObj_rng (s : State) (idx sub : Nat) (v : List Byte) : (setObj s idx sub v).rng = s.rng := rfl
@[simp] theorem setObj_evr (s : State) (idx sub : Nat) (v : List Byte) : (setObj s idx sub v).evr = s.evr := rfl
@[simp] theorem setObj_power (s : State) (idx sub : Nat) (v : List Byte) : (setObj s idx sub v).power = s.power := rfl
@[simp] theorem setObj_therm (s : State) (idx sub : Nat) (v : List Byte) : (setObj s idx sub v).therm = s.therm := rfl
@[simp] theorem setObj_test (s : State) (idx sub : Nat) (v : List Byte) : (setObj s idx sub v).test = s.test := rfl
@[simp] theorem setObj_ident (s : State) (idx sub : Nat) (v : List Byte) : (setObj s idx sub v).ident = s.ident := rfl

@[simp] theorem clearObj_pending (s : State) (idx sub : Nat) : (clearObj s idx sub).pending = s.pending := rfl
@[simp] theorem clearObj_now (s : State) (idx sub : Nat) : (clearObj s idx sub).now = s.now := rfl
@[simp] theorem clearObj_free (s : State) (idx sub : Nat) : (clearObj s idx sub).free = s.free := rfl
@[simp] theorem clearObj_bus (s : State) (idx sub : Nat) : (clearObj s idx sub).bus = s.bus := rfl
@[simp] theorem clearObj_hif (s : State) (idx sub : Nat) : (clearObj s idx sub).hif = s.hif := rfl
@[simp] theorem clearObj_qps (s : State) (idx sub : Nat) : (clearObj s idx sub).qps = s.qps := rfl
@[simp] theorem clearObj_entries (s : State) (idx sub : Nat) : (clearObj s idx sub).entries = s.entries := rfl
@[simp] theorem clearObj_quarters (s : State) (idx sub : Nat) : (clearObj s idx sub).quarters = s.quarters := rfl
@[simp] theorem clearObj_tiles (s : State) (idx sub : Nat) : (clearObj s idx sub).tiles = s.tiles := rfl
@[simp] theorem clearObj_tmem (s : State) (idx sub : Nat) : (clearObj s idx sub).tmem = s.tmem := rfl
@[simp] theorem clearObj_parts (s : State) (idx sub : Nat) : (clearObj s idx sub).parts = s.parts := rfl
@[simp] theorem clearObj_journal (s : State) (idx sub : Nat) : (clearObj s idx sub).journal = s.journal := rfl
@[simp] theorem clearObj_vault (s : State) (idx sub : Nat) : (clearObj s idx sub).vault = s.vault := rfl
@[simp] theorem clearObj_svc (s : State) (idx sub : Nat) : (clearObj s idx sub).svc = s.svc := rfl
@[simp] theorem clearObj_cores (s : State) (idx sub : Nat) : (clearObj s idx sub).cores = s.cores := rfl
@[simp] theorem clearObj_ddr (s : State) (idx sub : Nat) : (clearObj s idx sub).ddr = s.ddr := rfl
@[simp] theorem clearObj_reqArea (s : State) (idx sub : Nat) : (clearObj s idx sub).reqArea = s.reqArea := rfl
@[simp] theorem clearObj_evus (s : State) (idx sub : Nat) : (clearObj s idx sub).evus = s.evus := rfl
@[simp] theorem clearObj_fmp (s : State) (idx sub : Nat) : (clearObj s idx sub).fmp = s.fmp := rfl
@[simp] theorem clearObj_life (s : State) (idx sub : Nat) : (clearObj s idx sub).life = s.life := rfl
@[simp] theorem clearObj_fw (s : State) (idx sub : Nat) : (clearObj s idx sub).fw = s.fw := rfl
@[simp] theorem clearObj_boot (s : State) (idx sub : Nat) : (clearObj s idx sub).boot = s.boot := rfl
@[simp] theorem clearObj_tamper (s : State) (idx sub : Nat) : (clearObj s idx sub).tamper = s.tamper := rfl
@[simp] theorem clearObj_rng (s : State) (idx sub : Nat) : (clearObj s idx sub).rng = s.rng := rfl
@[simp] theorem clearObj_evr (s : State) (idx sub : Nat) : (clearObj s idx sub).evr = s.evr := rfl
@[simp] theorem clearObj_power (s : State) (idx sub : Nat) : (clearObj s idx sub).power = s.power := rfl
@[simp] theorem clearObj_therm (s : State) (idx sub : Nat) : (clearObj s idx sub).therm = s.therm := rfl
@[simp] theorem clearObj_test (s : State) (idx sub : Nat) : (clearObj s idx sub).test = s.test := rfl
@[simp] theorem clearObj_ident (s : State) (idx sub : Nat) : (clearObj s idx sub).ident = s.ident := rfl

@[simp] theorem takeFree_pending (s : State) : ((takeFree s).2).pending = s.pending := rfl
@[simp] theorem takeFree_now (s : State) : ((takeFree s).2).now = s.now := rfl
@[simp] theorem takeFree_free (s : State) : ((takeFree s).2).free = s.free + 1 := rfl
@[simp] theorem takeFree_bus (s : State) : ((takeFree s).2).bus = s.bus := rfl
@[simp] theorem takeFree_hif (s : State) : ((takeFree s).2).hif = s.hif := rfl
@[simp] theorem takeFree_qps (s : State) : ((takeFree s).2).qps = s.qps := rfl
@[simp] theorem takeFree_entries (s : State) : ((takeFree s).2).entries = s.entries := rfl
@[simp] theorem takeFree_quarters (s : State) : ((takeFree s).2).quarters = s.quarters := rfl
@[simp] theorem takeFree_tiles (s : State) : ((takeFree s).2).tiles = s.tiles := rfl
@[simp] theorem takeFree_tmem (s : State) : ((takeFree s).2).tmem = s.tmem := rfl
@[simp] theorem takeFree_parts (s : State) : ((takeFree s).2).parts = s.parts := rfl
@[simp] theorem takeFree_journal (s : State) : ((takeFree s).2).journal = s.journal := rfl
@[simp] theorem takeFree_vault (s : State) : ((takeFree s).2).vault = s.vault := rfl
@[simp] theorem takeFree_svc (s : State) : ((takeFree s).2).svc = s.svc := rfl
@[simp] theorem takeFree_cores (s : State) : ((takeFree s).2).cores = s.cores := rfl
@[simp] theorem takeFree_ddr (s : State) : ((takeFree s).2).ddr = s.ddr := rfl
@[simp] theorem takeFree_reqArea (s : State) : ((takeFree s).2).reqArea = s.reqArea := rfl
@[simp] theorem takeFree_evus (s : State) : ((takeFree s).2).evus = s.evus := rfl
@[simp] theorem takeFree_fmp (s : State) : ((takeFree s).2).fmp = s.fmp := rfl
@[simp] theorem takeFree_dict (s : State) : ((takeFree s).2).dict = s.dict := rfl
@[simp] theorem takeFree_life (s : State) : ((takeFree s).2).life = s.life := rfl
@[simp] theorem takeFree_fw (s : State) : ((takeFree s).2).fw = s.fw := rfl
@[simp] theorem takeFree_boot (s : State) : ((takeFree s).2).boot = s.boot := rfl
@[simp] theorem takeFree_tamper (s : State) : ((takeFree s).2).tamper = s.tamper := rfl
@[simp] theorem takeFree_rng (s : State) : ((takeFree s).2).rng = s.rng := rfl
@[simp] theorem takeFree_evr (s : State) : ((takeFree s).2).evr = s.evr := rfl
@[simp] theorem takeFree_power (s : State) : ((takeFree s).2).power = s.power := rfl
@[simp] theorem takeFree_therm (s : State) : ((takeFree s).2).therm = s.therm := rfl
@[simp] theorem takeFree_test (s : State) : ((takeFree s).2).test = s.test := rfl
@[simp] theorem takeFree_ident (s : State) : ((takeFree s).2).ident = s.ident := rfl

@[simp] theorem drawBytes_pending (s : State) (i n : Nat) : ((drawBytes s i n).2).pending = s.pending := rfl
@[simp] theorem drawBytes_now (s : State) (i n : Nat) : ((drawBytes s i n).2).now = s.now := rfl
@[simp] theorem drawBytes_free (s : State) (i n : Nat) : ((drawBytes s i n).2).free = s.free := rfl
@[simp] theorem drawBytes_bus (s : State) (i n : Nat) : ((drawBytes s i n).2).bus = s.bus := rfl
@[simp] theorem drawBytes_hif (s : State) (i n : Nat) : ((drawBytes s i n).2).hif = s.hif := rfl
@[simp] theorem drawBytes_qps (s : State) (i n : Nat) : ((drawBytes s i n).2).qps = s.qps := rfl
@[simp] theorem drawBytes_entries (s : State) (i n : Nat) : ((drawBytes s i n).2).entries = s.entries := rfl
@[simp] theorem drawBytes_quarters (s : State) (i n : Nat) : ((drawBytes s i n).2).quarters = s.quarters := rfl
@[simp] theorem drawBytes_tiles (s : State) (i n : Nat) : ((drawBytes s i n).2).tiles = s.tiles := rfl
@[simp] theorem drawBytes_tmem (s : State) (i n : Nat) : ((drawBytes s i n).2).tmem = s.tmem := rfl
@[simp] theorem drawBytes_parts (s : State) (i n : Nat) : ((drawBytes s i n).2).parts = s.parts := rfl
@[simp] theorem drawBytes_journal (s : State) (i n : Nat) : ((drawBytes s i n).2).journal = s.journal := rfl
@[simp] theorem drawBytes_vault (s : State) (i n : Nat) : ((drawBytes s i n).2).vault = s.vault := rfl
@[simp] theorem drawBytes_svc (s : State) (i n : Nat) : ((drawBytes s i n).2).svc = s.svc := rfl
@[simp] theorem drawBytes_cores (s : State) (i n : Nat) : ((drawBytes s i n).2).cores = s.cores := rfl
@[simp] theorem drawBytes_ddr (s : State) (i n : Nat) : ((drawBytes s i n).2).ddr = s.ddr := rfl
@[simp] theorem drawBytes_reqArea (s : State) (i n : Nat) : ((drawBytes s i n).2).reqArea = s.reqArea := rfl
@[simp] theorem drawBytes_evus (s : State) (i n : Nat) : ((drawBytes s i n).2).evus = s.evus := rfl
@[simp] theorem drawBytes_fmp (s : State) (i n : Nat) : ((drawBytes s i n).2).fmp = s.fmp := rfl
@[simp] theorem drawBytes_dict (s : State) (i n : Nat) : ((drawBytes s i n).2).dict = s.dict := rfl
@[simp] theorem drawBytes_life (s : State) (i n : Nat) : ((drawBytes s i n).2).life = s.life := rfl
@[simp] theorem drawBytes_fw (s : State) (i n : Nat) : ((drawBytes s i n).2).fw = s.fw := rfl
@[simp] theorem drawBytes_boot (s : State) (i n : Nat) : ((drawBytes s i n).2).boot = s.boot := rfl
@[simp] theorem drawBytes_tamper (s : State) (i n : Nat) : ((drawBytes s i n).2).tamper = s.tamper := rfl
@[simp] theorem drawBytes_evr (s : State) (i n : Nat) : ((drawBytes s i n).2).evr = s.evr := rfl
@[simp] theorem drawBytes_power (s : State) (i n : Nat) : ((drawBytes s i n).2).power = s.power := rfl
@[simp] theorem drawBytes_therm (s : State) (i n : Nat) : ((drawBytes s i n).2).therm = s.therm := rfl
@[simp] theorem drawBytes_test (s : State) (i n : Nat) : ((drawBytes s i n).2).test = s.test := rfl
@[simp] theorem drawBytes_ident (s : State) (i n : Nat) : ((drawBytes s i n).2).ident = s.ident := rfl

@[simp] theorem runClocks_pending (s : State) (n : Nat) : (runClocks s n).pending = s.pending := rfl
@[simp] theorem runClocks_now (s : State) (n : Nat) : (runClocks s n).now = s.now + n := rfl
@[simp] theorem runClocks_free (s : State) (n : Nat) : (runClocks s n).free = s.free := rfl
@[simp] theorem runClocks_bus (s : State) (n : Nat) : (runClocks s n).bus = s.bus := rfl
@[simp] theorem runClocks_hif (s : State) (n : Nat) : (runClocks s n).hif = s.hif := rfl
@[simp] theorem runClocks_qps (s : State) (n : Nat) : (runClocks s n).qps = s.qps := rfl
@[simp] theorem runClocks_entries (s : State) (n : Nat) : (runClocks s n).entries = s.entries := rfl
@[simp] theorem runClocks_quarters (s : State) (n : Nat) : (runClocks s n).quarters = s.quarters := rfl
@[simp] theorem runClocks_tiles (s : State) (n : Nat) : (runClocks s n).tiles = s.tiles := rfl
@[simp] theorem runClocks_tmem (s : State) (n : Nat) : (runClocks s n).tmem = s.tmem := rfl
@[simp] theorem runClocks_parts (s : State) (n : Nat) : (runClocks s n).parts = s.parts := rfl
@[simp] theorem runClocks_journal (s : State) (n : Nat) : (runClocks s n).journal = s.journal := rfl
@[simp] theorem runClocks_vault (s : State) (n : Nat) : (runClocks s n).vault = s.vault := rfl
@[simp] theorem runClocks_svc (s : State) (n : Nat) : (runClocks s n).svc = s.svc := rfl
@[simp] theorem runClocks_cores (s : State) (n : Nat) : (runClocks s n).cores = s.cores := rfl
@[simp] theorem runClocks_ddr (s : State) (n : Nat) : (runClocks s n).ddr = s.ddr := rfl
@[simp] theorem runClocks_reqArea (s : State) (n : Nat) : (runClocks s n).reqArea = s.reqArea := rfl
@[simp] theorem runClocks_evus (s : State) (n : Nat) : (runClocks s n).evus = s.evus := rfl
@[simp] theorem runClocks_fmp (s : State) (n : Nat) : (runClocks s n).fmp = s.fmp := rfl
@[simp] theorem runClocks_dict (s : State) (n : Nat) : (runClocks s n).dict = s.dict := rfl
@[simp] theorem runClocks_life (s : State) (n : Nat) : (runClocks s n).life = s.life := rfl
@[simp] theorem runClocks_fw (s : State) (n : Nat) : (runClocks s n).fw = s.fw := rfl
@[simp] theorem runClocks_boot (s : State) (n : Nat) : (runClocks s n).boot = s.boot := rfl
@[simp] theorem runClocks_tamper (s : State) (n : Nat) : (runClocks s n).tamper = s.tamper := rfl
@[simp] theorem runClocks_power (s : State) (n : Nat) : (runClocks s n).power = s.power := rfl
@[simp] theorem runClocks_therm (s : State) (n : Nat) : (runClocks s n).therm = s.therm := rfl
@[simp] theorem runClocks_test (s : State) (n : Nat) : (runClocks s n).test = s.test := rfl
@[simp] theorem runClocks_ident (s : State) (n : Nat) : (runClocks s n).ident = s.ident := rfl

end Sys2Proof.Machine
end

