-- ==== Sys2Proof/Laws/Entries.lean ====
section
/-!
SUPPORT. What ending a descriptor does to its in-flight entry and to the journal: finishEntry, queueUnit and postRes.
-/

namespace Sys2Proof.Machine

open Sys2Proof

/-- A change that keeps a descriptor's name. -/
def keepsName (f : Entry → Entry) : Prop := ∀ e, (f e).qp = e.qp ∧ (f e).asn = e.asn

theorem isOf_keeps {f : Entry → Entry} (h : keepsName f) (q a : Nat) (e : Entry) :
    Entry.isOf q a (f e) = Entry.isOf q a e := by
  obtain ⟨h1, h2⟩ := h e
  simp [Entry.isOf, h1, h2]

theorem entryOf_name {s : State} {q a : Nat} {e : Entry} (h : entryOf s q a = some e) : e.qp = q ∧ e.asn = a := by
  simpa [Entry.isOf] using List.find?_some h

/-- The changed entry is found under its name, every other one as it was. -/
theorem entryOf_modEntry {f : Entry → Entry} (hf : keepsName f) (s : State) (q a q' a' : Nat) :
    entryOf (modEntry s q a f) q' a' = (entryOf s q' a').map (fun e => if e.isOf q a then f e else e) := by
  simp only [entryOf, modEntry]
  induction s.entries with
  | nil => rfl
  | cons e r ih =>
    have hs : Entry.isOf q' a' (if e.isOf q a then f e else e) = Entry.isOf q' a' e := by
      split
      · exact isOf_keeps hf q' a' e
      · rfl
    simp only [List.map_cons, List.find?_cons, hs]
    split
    · rfl
    · exact ih

theorem entryOf_modEntry_same {f : Entry → Entry} (hf : keepsName f) {s : State} {q a : Nat} {e : Entry}
    (h : entryOf s q a = some e) : entryOf (modEntry s q a f) q a = some (f e) := by
  obtain ⟨h1, h2⟩ := entryOf_name h
  simp [entryOf_modEntry hf, h, Entry.isOf, h1, h2]

/-- What leaves entries alone. -/
theorem entryOf_congr {s t : State} (h : t.entries = s.entries) (q a : Nat) : entryOf t q a = entryOf s q a := by
  simp [entryOf, h]

@[simp] theorem releaseTile_entries (s : State) (t q a c : Nat) : (releaseTile s t q a c).entries = s.entries := rfl
@[simp] theorem releaseCore_entries (s : State) (h : ScriptHold) : (releaseCore s h).entries = s.entries := by
  unfold releaseCore; split <;> rfl
@[simp] theorem releaseGrant_entries (s : State) (q a : Nat) : (releaseGrant s q a).entries = s.entries := rfl
@[simp] theorem releaseLine_entries (s : State) (l : Option Nat) : (releaseLine s l).entries = s.entries := by
  unfold releaseLine
  (repeat' split) <;> rfl
@[simp] theorem releaseTile_journal (s : State) (t q a c : Nat) : (releaseTile s t q a c).journal = s.journal := rfl
@[simp] theorem releaseCore_journal (s : State) (h : ScriptHold) : (releaseCore s h).journal = s.journal := by
  unfold releaseCore; split <;> rfl
@[simp] theorem releaseGrant_journal (s : State) (q a : Nat) : (releaseGrant s q a).journal = s.journal := rfl
@[simp] theorem releaseLine_journal (s : State) (l : Option Nat) : (releaseLine s l).journal = s.journal := by
  unfold releaseLine
  (repeat' split) <;> rfl

@[simp] theorem nextHash_entries (s : State) (t : Nat) : (nextHash s t).entries = s.entries := by
  unfold nextHash
  dsimp only
  (repeat' split) <;> rfl
@[simp] theorem nextHash_journal (s : State) (t : Nat) : (nextHash s t).journal = s.journal := by
  unfold nextHash
  dsimp only
  (repeat' split) <;> rfl
@[simp] theorem takeRetry_journal (s : State) (t k : Nat) : (takeRetry s t k).journal = s.journal := by
  unfold takeRetry
  (repeat' split) <;> rfl
@[simp] theorem wakeEngines_journal (s : State) (t : Nat) : (wakeEngines s t).journal = s.journal := by simp [wakeEngines]

/-- A step that waits to be issued again takes its pair without a change of an entry that waits for none (03 R105). -/
theorem takeRetry_entry {s : State} {q a : Nat} {x : Entry} (t k : Nat) (h : entryOf s q a = some x) (hr : x.retryOn = none) :
    entryOf (takeRetry s t k) q a = some x := by
  unfold takeRetry
  split
  · exact h
  · split
    · exact h
    · next e _ _ =>
      have hk : keepsName (fun y : Entry => { y with retryOn := none }) := fun _ => ⟨rfl, rfl⟩
      refine (entryOf_congr (s := modEntry s e.qp e.asn (fun y => { y with retryOn := none })) rfl _ _).trans ?_
      rw [entryOf_modEntry hk, h]
      cases x
      simp only at hr
      simp [hr]

theorem wakeEngines_entry {s : State} {q a : Nat} {x : Entry} (t : Nat) (h : entryOf s q a = some x) (hr : x.retryOn = none) :
    entryOf (wakeEngines s t) q a = some x :=
  (entryOf_congr (nextHash_entries _ _) _ _).trans (takeRetry_entry t 1 (takeRetry_entry t 0 h hr) hr)

@[simp] theorem unpause_entries (s : State) (q : Nat) : (unpause s q).entries = s.entries := rfl
@[simp] theorem unpause_journal (s : State) (q : Nat) : (unpause s q).journal = s.journal := rfl

theorem leaveTile_journal (s : State) (e : Entry) : (leaveTile s e).journal = s.journal := by
  unfold leaveTile
  cases e.tile <;> simp

theorem finishEntry_journal (s : State) (e : Entry) (c : Cpl) : (finishEntry s e c).journal = s.journal := by
  unfold finishEntry
  dsimp only
  split <;> simp [leaveTile_journal]

/-- An entry whose descriptor has left its tile. -/
def Entry.left (x : Entry) : Entry :=
  { x with
    capture := none, matching := 0, script := .none, keysReady := [], steps := [], rngWait := false, retryOn := none, stored := [] }
/-- An entry that finishEntry has ended. -/
def Entry.ended (c : Cpl) (x : Entry) : Entry :=
  { x with cpl := some c, committed := true, park := .none, deadline := none, line := none, grant := false }
/-- An entry whose completion waits for its commit unit. -/
def Entry.queued (c : Cpl) (x : Entry) : Entry := { x with cpl := some c, committed := false, deadline := none, park := .none, records := 0, line := none }

/-- A descriptor in its tile leaves it and keeps its entry. -/
theorem leaveTile_entry {s : State} {e x : Entry} (h : entryOf s e.qp e.asn = some x) :
    entryOf (leaveTile s e) e.qp e.asn = some x.left := by
  unfold leaveTile
  cases e.tile with
  | none => exact entryOf_modEntry_same (f := Entry.left) (fun _ => ⟨rfl, rfl⟩) ((entryOf_congr (by simp [modQuarter]) _ _).trans h)
  | some t =>
    exact wakeEngines_entry t
      (entryOf_modEntry_same (f := Entry.left) (fun _ => ⟨rfl, rfl⟩) ((entryOf_congr (by simp [modQuarter]) _ _).trans h)) rfl

/-- finishEntry leaves the completion in the entry, committed, and nothing held. -/
theorem finishEntry_entry {s : State} {e x : Entry} (c : Cpl) (h : entryOf s e.qp e.asn = some x) :
    entryOf (finishEntry s e c) e.qp e.asn = some (x.left.ended c) := by
  have h1 : entryOf (releaseLine (releaseGrant (leaveTile s e) e.qp e.asn) e.line) e.qp e.asn = _ :=
    (entryOf_congr (by simp) _ _).trans (leaveTile_entry h)
  have h2 := entryOf_modEntry_same (f := Entry.ended c) (fun _ => ⟨rfl, rfl⟩) h1
  unfold finishEntry
  dsimp only
  split
  · exact (entryOf_congr (unpause_entries _ _) _ _).trans h2
  · exact h2

theorem finishEntry_answers {s : State} {e x : Entry} (c : Cpl) (h : entryOf s e.qp e.asn = some x) :
    answered (finishEntry s e c) e.qp e.asn c := by
  simp [answered, finishEntry_entry c h, Entry.ended]

/-- queueUnit leaves the completion in the entry, not committed. -/
theorem queueUnit_entry {s : State} {e x : Entry} (c : Cpl) (eff : Effect) (h : entryOf s e.qp e.asn = some x) :
    entryOf (queueUnit s e c eff) e.qp e.asn = some (x.left.queued c) := by
  unfold queueUnit
  cases eff <;> exact entryOf_modEntry_same (f := Entry.queued c) (fun _ => ⟨rfl, rfl⟩)
    ((entryOf_congr rfl _ _).trans (leaveTile_entry h))

theorem queueUnit_answers {s : State} {e x : Entry} (c : Cpl) (eff : Effect) (h : entryOf s e.qp e.asn = some x) :
    answered (queueUnit s e c eff) e.qp e.asn c := by
  simp [answered, queueUnit_entry c eff h, Entry.queued]

/-- queueUnit hands the journal a unit with the completion, and with the effect unless that takes a use number. -/
theorem queueUnit_waits (s : State) (e : Entry) (c : Cpl) {eff : Effect} (h : ∀ a b i, eff ≠ .nonceUse a b i) :
    unitWaits (queueUnit s e c eff) e.qp e.asn c eff := by
  let r : JRec := { isn := 0, qp := e.qp, asn := e.asn, cmd := dCmd e.desc, cpl := c, tag := dTag e.desc, effect := eff, state := 1,
                    stA := 0, stB := 0, pos := 0 }
  refine ⟨{ part := (qpOf s e.qp).partition, rcd := r, quarter := e.quarter, held := e.records, line := e.line,
            extDone := extWritten s eff }, ?_, rfl, rfl, rfl, rfl⟩
  cases eff <;> first
    | exact absurd rfl (h _ _ _)
    | simp [queueUnit, modEntry, modJournal, r]

end Sys2Proof.Machine
end

