-- ==== Sys2Proof/Laws/Exec.lean ====
section
/-!
SUPPORT. What the shared shapes of a meaning can answer: done, guardUnit, and the execution of a word by an Eloa core.
-/

namespace Sys2Proof.Machine

open Sys2Proof

theorem done_next {s u t : State} (h : done s u = .next t) : t = { u with pending := s.pending } := by
  unfold done at h; injection h with h; exact h.symm

theorem done_pending {s u t : State} (h : done s u = .next t) : t.pending = s.pending := by rw [done_next h]

theorem done_never_faults {s u : State} {r : Fault} : done s u ≠ .fault r := by simp [done]

theorem done_never_refuses {s u : State} {r : Refusal} : done s u ≠ .refused r := by simp [done]

@[simp] theorem guardUnit_true (n : Nat) (s t : State) : guardUnit true n s t = done s t := rfl

theorem guardUnit_of {ok : Bool} (h : ok = true) (n : Nat) (s t : State) : guardUnit ok n s t = done s t := by
  subst h; rfl

theorem guardUnit_pending {ok : Bool} {n : Nat} {s u t : State} (h : guardUnit ok n s u = .next t) :
    t.pending = s.pending := by
  unfold guardUnit at h; split at h
  · exact done_pending h
  · cases h

theorem guardUnit_fault {ok : Bool} {n : Nat} {s u : State} {r : Fault} (h : guardUnit ok n s u = .fault r) :
    ok = false ∧ r = .noSuchUnit n := by
  unfold guardUnit at h; split at h
  · exact absurd h done_never_faults
  · cases ok <;> simp_all

theorem guardUnit_never_refuses {ok : Bool} {n : Nat} {s u : State} {r : Refusal} :
    guardUnit ok n s u ≠ .refused r := by
  unfold guardUnit; split <;> simp [done]

theorem stopWord_pending {c : Nat} {x : Stop} {s t : State} (h : stopWord s c x = .next t) : t.pending = s.pending := by
  cases x; exact done_pending h

theorem execWord_pending {c : Nat} {f : State → Except Stop State} {s t : State} (h : execWord c f s = .next t) :
    t.pending = s.pending := by
  unfold execWord at h
  (repeat' split at h) <;> first
    | exact done_pending h
    | exact stopWord_pending h
    | cases h

/-- A word faults the model only where the module has no such core. -/
theorem execWord_fault {c : Nat} {f : State → Except Stop State} {s : State} {r : Fault} (h : execWord c f s = .fault r) :
    coreOk c = false := by
  unfold execWord stopWord done at h
  (repeat' split at h) <;> simp_all

/-- No word is refused. -/
theorem execWord_never_refuses {c : Nat} {f : State → Except Stop State} {s : State} {r : Refusal} : execWord c f s ≠ .refused r := by
  unfold execWord stopWord done
  (repeat' split) <;> simp

/-- A word that completes on a core that runs it. -/
theorem runs_word {s : State} {c : Nat} {f : State → Except Stop State} {u : State} (h : Runs s c) (hf : f s = .ok u) :
    execWord c f s = .next { stepped (coreTimers u c) c with pending := s.pending } := by
  obtain ⟨h1, h2, h3⟩ := h
  simp [execWord, h1, h2, h3, hf, done]

/-- A word that faults on a core that runs it. -/
theorem runs_fault {s : State} {c n : Nat} {f : State → Except Stop State} (h : Runs s c) (hf : f s = .error (.fault n)) :
    execWord c f s = .next (faulted s c n) := by
  obtain ⟨h1, h2, h3⟩ := h
  simp [execWord, stopWord, h1, h2, h3, hf, done, faulted]

theorem regs_named {l : List Reg} (h : named l) : regsOk l = true := by
  simpa [regsOk, regOk, named] using h

@[simp] theorem writeReg_pc (k : EloaCore) (r : Nat) (v : Word) : (writeReg k r v).pc = k.pc := by
  unfold writeReg; (repeat' split) <;> rfl

/-- A word that writes one register and flags lands there. -/
theorem plain_alu {s : State} {c n : Nat} {rd : Reg} {f : State → EloaCore → WordRes} {r : Alu} (h : Runs s c)
    (hf : f s (coreOf s c) = .ok (SlotRes.alu rd.toNat r, s)) :
    execWord c (plainWord c n f) s = .next (landed s c (resultCore (coreOf s c) rd r.1 r.2 n)) := by
  refine (runs_word (u := modCore s c (fun _ => resultCore (coreOf s c) rd r.1 r.2 n)) h ?_).trans rfl
  simp [plainWord, hf, commitWord, SlotRes.alu, writeRegs, resultCore, modCore]

/-- A word that writes flags alone lands there. -/
theorem plain_flags {s : State} {c n : Nat} {f : State → EloaCore → WordRes} {g : FlagSet} (h : Runs s c)
    (hf : f s (coreOf s c) = .ok ({ SlotRes.none with flags := g }, s)) :
    execWord c (plainWord c n f) s = .next (landed s c (flagCore (coreOf s c) g n)) := by
  refine (runs_word (u := modCore s c (fun _ => flagCore (coreOf s c) g n)) h ?_).trans rfl
  simp [plainWord, hf, commitWord, SlotRes.none, writeRegs, flagCore, modCore]

/-- A long operation of three registers. -/
theorem long_r {s : State} {c n : Nat} {rd ra rb : Reg} {op : CoreCtl → Word → Word → Word → Alu} (h : Runs s c)
    (hn : named [rd, ra, rb]) :
    let k := coreOf s c
    let r := op k.ctl (reg k ra.toNat) (reg k rb.toNat) (reg k rd.toNat)
    execWord c (longR c n rd ra rb op) s = .next (landed s c (resultCore k rd r.1 r.2 n)) :=
  plain_alu h (by simp [withRegs, regs_named hn])

/-- A long operation with an immediate. -/
theorem long_i {s : State} {c : Nat} {rd ra : Reg} {imm : BitVec 14} {op : Word → BitVec 14 → Alu} (h : Runs s c)
    (hn : named [rd, ra]) :
    let k := coreOf s c
    let r := op (reg k ra.toNat) imm
    execWord c (longI c rd ra imm op) s = .next (landed s c (resultCore k rd r.1 r.2 1)) :=
  plain_alu h (by simp [withRegs, regs_named hn])

/-- A long compare. -/
theorem long_c {s : State} {c : Nat} {ra rb : Reg} {op : Word → Word → Alu} (h : Runs s c) (hn : named [ra, rb]) :
    let k := coreOf s c
    let r := op (reg k ra.toNat) (reg k rb.toNat)
    execWord c (longC c ra rb op) s = .next (landed s c (flagCore k r.2 1)) :=
  plain_flags h (by simp [withRegs, regs_named hn])

@[simp] theorem writeRegs_pc (l : List (Nat × Word)) (k : EloaCore) : (writeRegs k l).pc = k.pc := by
  unfold writeRegs
  induction l generalizing k with
  | nil => rfl
  | cons x r ih => simp only [List.foldl_cons, ih, writeReg_pc]

@[simp] theorem FlagSet.join_keep (f : FlagSet) : f.join FlagSet.keep = f := by
  obtain ⟨a, b, c, d, e⟩ := f
  simp [FlagSet.join, FlagSet.keep]

@[simp] theorem FlagSet.keep_join (f : FlagSet) : FlagSet.keep.join f = f := by
  obtain ⟨a, b, c, d, e⟩ := f
  simp [FlagSet.join, FlagSet.keep]

/-- A core whose pair writes these registers and flags in n cycles. -/
def pairCore (k : EloaCore) (l : List (Nat × Word)) (f : FlagSet) (n : Nat) : EloaCore :=
  addCycles { writeRegs { k with ctl := f.apply k.ctl } l with pc := k.pc + 4 } n

/-- A pair of independent slots that store nothing and load nothing commits both. -/
theorem pair_word {s : State} {c : Nat} {a b : Short} {ra rb : SlotRes} (h : Runs s c)
    (hi : pairDependent a b = false) (ha : slot s c (coreOf s c) a = .ok (ra, s)) (hb : slot s c (coreOf s c) b = .ok (rb, s))
    (sa : ra.store = none) (sb : rb.store = none) :
    execWord c (pairWord c a b) s = .next (landed s c (pairCore (coreOf s c) (ra.regs ++ rb.regs)
      (ra.flags.join rb.flags) (if slotLoads a || slotLoads b then 2 else 1))) := by
  refine (runs_word (u := modCore s c (fun _ => pairCore (coreOf s c) (ra.regs ++ rb.regs)
      (ra.flags.join rb.flags) (if slotLoads a || slotLoads b then 2 else 1))) h ?_).trans rfl
  simp [pairWord, hi, ha, hb, slotStore, sa, sb, commitWord, modCore, pairCore]

/-- A dependent pair faults before anything else of the word. -/
theorem pair_faults {s : State} {c : Nat} {a b : Short} (h : Runs s c) (hi : pairDependent a b = true) :
    execWord c (pairWord c a b) s = .next (faulted s c 2) :=
  runs_fault h (by simp [pairWord, hi])

end Sys2Proof.Machine
end

