-- ==== Sys2Proof/Laws/Frame.lean ====
section
/-!
SUPPORT. The frame of each shared operation: the components of the state it may change. A command's frame follows by chaining
these.
-/

namespace Sys2Proof.Machine

open Sys2Proof

theorem SameBut.refl (l : List Component) (s : State) : SameBut l s s := fun k _ => by cases k <;> rfl

theorem Component.same_trans {k : Component} {s t u : State} (h : k.same s t) (g : k.same t u) : k.same s u := by
  cases k <;> exact Eq.trans g h

theorem SameBut.trans {l : List Component} {s t u : State} (h : SameBut l s t) (g : SameBut l t u) : SameBut l s u :=
  fun k hk => Component.same_trans (h k hk) (g k hk)

theorem SameBut.mono {l m : List Component} {s t : State} (h : SameBut l s t) (hs : ∀ k ∈ l, k ∈ m) : SameBut m s t :=
  fun k hk => h k (fun x => hk (hs k x))

/-- Repeating an operation changes no more than one of it. -/
theorem SameBut.foldl {α : Type} {l : List Component} {f : State → α → State} (h : ∀ s x, SameBut l s (f s x)) (xs : List α)
    (s : State) : SameBut l s (xs.foldl f s) := by
  induction xs generalizing s with
  | nil => exact SameBut.refl l s
  | cons x r ih => exact (h s x).trans (ih (f s x))

/-- A command's own answer puts the queue back and changes nothing else. -/
theorem done_frame {l : List Component} {s u t : State} (h : SameBut l s u) (hd : done s u = .next t) : SameBut l s t := by
  cases hd
  intro k hk
  have := h k hk
  cases k <;> exact this

theorem guardUnit_frame {l : List Component} {ok : Bool} {n : Nat} {s u t : State} (h : SameBut l s u)
    (hd : guardUnit ok n s u = .next t) : SameBut l s t := by
  cases ok with
  | true => exact done_frame h hd
  | false => simp [guardUnit] at hd

theorem modQp_frame (s : State) (q : Nat) (f : Qp → Qp) : SameBut [.qps] s (modQp s q f) := by
  intro k hk; cases k <;> first | rfl | simp at hk
theorem modHif_frame (s : State) (f : Hif → Hif) : SameBut [.hif] s (modHif s f) := by
  intro k hk; cases k <;> first | rfl | simp at hk
theorem modEntry_frame (s : State) (q a : Nat) (f : Entry → Entry) : SameBut [.entries] s (modEntry s q a f) := by
  intro k hk; cases k <;> first | rfl | simp at hk
theorem modQuarter_frame (s : State) (q : Nat) (f : Quarter → Quarter) : SameBut [.quarters] s (modQuarter s q f) := by
  intro k hk; cases k <;> first | rfl | simp at hk
theorem modTile_frame (s : State) (n : Nat) (f : Tile → Tile) : SameBut [.tiles] s (modTile s n f) := by
  intro k hk; cases k <;> first | rfl | simp at hk
theorem modTmem_frame (s : State) (n : Nat) (f : TileMem → TileMem) : SameBut [.tmem] s (modTmem s n f) := by
  intro k hk; cases k <;> first | rfl | simp at hk
theorem modPart_frame (s : State) (p : Nat) (f : Part → Part) : SameBut [.parts] s (modPart s p f) := by
  intro k hk; cases k <;> first | rfl | simp at hk
theorem modCore_frame (s : State) (c : Nat) (f : EloaCore → EloaCore) : SameBut [.cores] s (modCore s c f) := by
  intro k hk; cases k <;> first | rfl | simp at hk
theorem modVault_frame (s : State) (f : Vault → Vault) : SameBut [.vault] s (modVault s f) := by
  intro k hk; cases k <;> first | rfl | simp at hk
theorem modJournal_frame (s : State) (f : Journal → Journal) : SameBut [.journal] s (modJournal s f) := by
  intro k hk; cases k <;> first | rfl | simp at hk
theorem modEvr_frame (s : State) (f : Evr → Evr) : SameBut [.evr] s (modEvr s f) := by
  intro k hk; cases k <;> first | rfl | simp at hk
theorem modEvu_frame (s : State) (u : Nat) (f : Evu → Evu) : SameBut [.evus] s (modEvu s u f) := by
  intro k hk; cases k <;> first | rfl | simp at hk
theorem send_frame (s : State) (m : BusMsg) : SameBut [.bus] s (send s m) := by
  intro k hk; cases k <;> first | rfl | simp at hk

/-- An interrupt message goes out or stays pending in its table entry (02 R73). -/
theorem sendMsix_frame (s : State) (f v : Nat) : SameBut [.bus, .hif] s (sendMsix s f v) := by
  unfold sendMsix
  dsimp only
  split
  · exact (modHif_frame _ _).mono (by simp)
  · exact (send_frame _ _).mono (by simp)

theorem raiseIsr_frame (s : State) (i : Nat) : SameBut [.bus, .hif] s (raiseIsr s i) := by
  unfold raiseIsr
  dsimp only
  split
  · exact ((modHif_frame _ _).mono (by simp)).trans (sendMsix_frame _ _ _)
  · exact (modHif_frame _ _).mono (by simp)

/-- An event makes its source pending (09 R310). -/
theorem pendEdge_frame (s : State) (u n : Nat) : SameBut [.cores, .evus] s (pendEdge s u n) := by
  unfold pendEdge
  dsimp only
  split
  · exact (modEvu_frame _ _ _).mono (by simp)
  · exact SameBut.refl _ _

theorem lookTimers_frame (s : State) (c : Nat) : SameBut [.cores, .evus] s (lookTimers s c) := by
  unfold lookTimers
  split
  · exact SameBut.refl _ _
  · exact ((modCore_frame _ _ _).mono (by simp)).trans (SameBut.foldl (fun _ _ => pendEdge_frame _ _ _) _ _)

/-- Delivery of interrupts to the cores of a unit (09 R312). -/
theorem deliver_frame (s : State) (u k : Nat) : SameBut [.cores, .evus] s (deliver s u k) := by
  unfold deliver
  dsimp only
  split
  · exact SameBut.refl _ _
  · refine SameBut.trans (SameBut.trans ?_ ((modCore_frame _ _ _).mono (by simp))) (lookTimers_frame _ _)
    unfold commitDelivery modEvuCore
    exact ((modEvu_frame _ _ _).mono (by simp)).trans ((modEvu_frame _ _ _).mono (by simp))

theorem deliverMany_frame (s : State) (u n : Nat) : SameBut [.cores, .evus] s (deliverMany s u n) := by
  induction n generalizing s with
  | zero => exact SameBut.refl _ _
  | succ n ih =>
    unfold deliverMany
    split
    · exact SameBut.refl _ _
    · exact (deliver_frame _ _ _).trans (ih _)

theorem deliverAll_frame (s : State) (u : Nat) : SameBut [.cores, .evus] s (deliverAll s u) := deliverMany_frame s u 64

theorem coreTimers_frame (s : State) (c : Nat) : SameBut [.cores, .evus] s (coreTimers s c) := by
  unfold coreTimers
  split
  · exact SameBut.refl _ _
  · exact (lookTimers_frame _ _).trans (deliverAll_frame _ _)

theorem raiseSource_frame (s : State) (u n : Nat) : SameBut [.cores, .evus] s (raiseSource s u n) :=
  (pendEdge_frame _ _ _).trans (deliverAll_frame _ _)

theorem raiseModule_frame (s : State) (n : Nat) : SameBut [.cores, .evus] s (raiseModule s n) := raiseSource_frame s 16 n

/-- Frames of the management port (10 R320, R321). -/
theorem sendFrame_frame (s : State) (f d : Nat) (p : List Byte) : SameBut [.bus, .fmp] s (sendFrame s f d p) := by
  unfold sendFrame
  split
  · intro k hk; cases k <;> first | rfl | simp at hk
  · exact SameBut.refl _ _

theorem sendWindow_frame (s : State) (n : Nat) : SameBut [.bus, .fmp] s (sendWindow s n) := by
  unfold sendWindow
  split
  · exact SameBut.refl _ _
  · next x _ =>
    dsimp only
    refine SameBut.trans (SameBut.foldl (f := fun u k => sendFrame u x.func n (segBytes x (x.sent + k)))
      (fun _ _ => sendFrame_frame _ _ _ _) (List.range ((if canSend s then min x.segs (x.acked + 32) else x.sent) - x.sent)) s) ?_
    intro k hk; cases k <;> first | rfl | simp at hk

theorem fmpSend_frame (s : State) (f n : Nat) (d : List Byte) : SameBut [.bus, .fmp] s (fmpSend s f n d) := by
  unfold fmpSend
  dsimp only
  split
  · exact SameBut.refl _ _
  · split
    · intro k hk; cases k <;> first | rfl | simp at hk
    · refine SameBut.trans ?_ (sendWindow_frame _ _)
      intro k hk; cases k <;> first | rfl | simp at hk

theorem sendSession_frame (s : State) (f n : Nat) (d : List Byte) : SameBut [.bus, .fmp] s (sendSession s f n d) := by
  unfold sendSession
  split
  · exact SameBut.refl _ _
  · refine SameBut.trans ?_ (fmpSend_frame _ _ _ _)
    intro k hk; cases k <;> first | rfl | simp at hk

/-- The answer to a request (10 R324 to R326). -/
theorem answer_frame (s : State) (p : Path) (r : Nat) (v : List Byte) : SameBut [.bus, .hif, .fmp] s (answer s p r v) := by
  unfold answer answerMsg
  dsimp only
  split
  · exact (((send_frame _ _).mono (by simp)).trans ((modHif_frame _ _).mono (by simp))).trans ((sendMsix_frame _ _ _).mono (by simp))
  · exact ((send_frame _ _).mono (by simp)).trans ((sendSession_frame _ _ _ _).mono (by simp))

/-- A record of the event recorder, with its notice (14 R413, R420). -/
theorem admitRec_frame (s : State) (r : EvRec) : SameBut reportComponents s (admitRec s r) := by
  have notice (t : State) (x : EvRec) : SameBut reportComponents t (notify t x) := by
    unfold notify
    dsimp only
    refine SameBut.trans ((sendFrame_frame t 0x1 0 (leBytes 2 x.code ++ leBytes 1 x.severity ++ leBytes 8 x.seq)).mono
      (by simp [reportComponents])) ?_
    exact SameBut.foldl (fun _ _ => (sendSession_frame _ _ _ _).mono (by simp [reportComponents])) _ _
  have seen (e : Evr) : SameBut reportComponents s { s with evr := e } := by
    intro k hk; cases k <;> first | rfl | simp [reportComponents] at hk
  unfold admitRec
  dsimp only
  split <;> split <;> first | exact (seen _).trans (notice _ _) | exact seen _

theorem recordSev_frame (s : State) (c v k n : Nat) (b : Bool) (d : List Byte) :
    SameBut reportComponents s (recordSev s c v k n b d) := by
  unfold recordSev
  dsimp only
  split
  · exact ((modEvr_frame _ _).mono (by simp [reportComponents])).trans (admitRec_frame _ _)
  · exact (modEvr_frame _ _).mono (by simp [reportComponents])

theorem record_frame (s : State) (c k n : Nat) (d : List Byte) : SameBut reportComponents s (record s c k n d) :=
  recordSev_frame s c _ k n false d

theorem modSvc_frame (s : State) (f : Svc → Svc) : SameBut [.svc] s (modSvc s f) := by
  intro k hk; cases k <;> first | rfl | simp at hk

/-- A quarter, a tile or a partition as it is watched while time passes (01 R22; 03 R100; 08 R254). -/
theorem watch_frame (s : State) (n : Nat) :
    SameBut [.quarters] s (watchWork s n) ∧ SameBut [.tmem] s (watchTile s n) ∧ SameBut [.parts] s (watchPart s n) := by
  refine ⟨?_, ?_, ?_⟩
  · unfold watchWork
    generalize (if hasSend s n then _ else _) = w
    dsimp only
    split
    · exact SameBut.refl _ _
    · exact modQuarter_frame _ _ _
  · unfold watchTile
    dsimp only
    split
    · exact SameBut.refl _ _
    · exact modTmem_frame _ _ _
  · unfold watchPart
    dsimp only
    split
    · exact SameBut.refl _ _
    · exact modPart_frame _ _ _

theorem svcForceRelease_frame (s : State) : SameBut [.svc] s (svcForceRelease s) := by
  unfold svcForceRelease
  split
  · exact modSvc_frame _ _
  · exact SameBut.refl _ _

/-- A core reset of a management core (09 R282). -/
theorem resetMgmt_frame (s : State) (m : Nat) : SameBut [.svc, .cores, .evus] s (resetMgmt s m) := by
  unfold resetMgmt
  dsimp only
  refine SameBut.trans ?_ ((modCore_frame _ _ _).mono (by simp))
  refine SameBut.trans ?_ ((modEvu_frame _ _ _).mono (by simp))
  split
  · exact (svcForceRelease_frame s).mono (by simp)
  · exact SameBut.refl _ _

theorem mgmtTick_frame (s : State) : SameBut timedComponents s (mgmtTick s) := by
  have records (l : List TickRec) (t : State) : SameBut timedComponents t (l.foldl (fun u r => record u r.code r.kind r.src r.data) t) :=
    SameBut.foldl (fun _ _ => (record_frame _ _ _ _ _).mono (by simp [timedComponents, reportComponents])) _ _
  have tiles (t : State) : SameBut timedComponents t ((List.range 16).foldl watchTile t) :=
    SameBut.foldl (fun u n => (watch_frame u n).2.1.mono (by simp [timedComponents])) _ _
  have parts (l : List Nat) (t : State) : SameBut timedComponents t (l.foldl watchPart t) :=
    SameBut.foldl (fun u n => (watch_frame u n).2.2.mono (by simp [timedComponents])) _ _
  have stopped (t : State) : SameBut timedComponents t (resetStopped t) := by
    refine SameBut.foldl (fun u n => ?_) _ _
    split
    · exact (resetMgmt_frame u n).mono (by simp [timedComponents])
    · exact SameBut.refl _ _
  have emptied (f : Evr → Evr) : SameBut timedComponents s (modEvr s f) := (modEvr_frame s f).mono (by simp [timedComponents])
  exact ((((emptied _).trans (records _ _)).trans (tiles _)).trans ((parts _ _).trans (stopped _))).trans
    ((raiseModule_frame _ _).mono (by simp [timedComponents]))

/-- Letting time pass (01 R21, R22; 14 R413). -/
theorem elapse_frame (s : State) (n : Nat) : SameBut timedComponents s (elapse s n) := by
  have clocks (t : State) (k : Nat) : SameBut timedComponents t (runClocks t k) := by
    intro k hk; cases k <;> first | rfl | simp [timedComponents] at hk
  have work (t : State) : SameBut timedComponents t ((List.range 4).foldl watchWork t) :=
    SameBut.foldl (fun u k => (watch_frame u k).1.mono (by simp [timedComponents])) _ _
  unfold elapse
  dsimp only
  split
  · exact SameBut.refl _ _
  · split
    · exact (((work s).trans (clocks _ _)).trans (mgmtTick_frame _)).trans (clocks _ _)
    · exact (work s).trans (clocks _ _)

theorem advanceTo_frame (s : State) (n : Nat) : SameBut timedComponents s (advanceTo s n) := elapse_frame s _

/-- Engines of a tile take what waits for them (03 R105; 06 R190). -/
theorem wakeEngines_frame (s : State) (t : Nat) : SameBut [.entries, .tmem] s (wakeEngines s t) := by
  have retry (u : State) (k : Nat) : SameBut [.entries, .tmem] u (takeRetry u t k) := by
    unfold takeRetry
    split
    · exact SameBut.refl _ _
    · split
      · exact SameBut.refl _ _
      · exact ((modEntry_frame _ _ _ _).mono (by simp)).trans ((modTmem_frame _ _ _).mono (by simp))
  have hash (u : State) : SameBut [.entries, .tmem] u (nextHash u t) := by
    unfold nextHash
    dsimp only
    split
    · exact SameBut.refl _ _
    · split
      · exact SameBut.refl _ _
      · exact (modTmem_frame _ _ _).mono (by simp)
  exact ((retry _ _).trans (retry _ _)).trans (hash _)

/-- The handlers of a core's descriptor end with it (09 R309). -/
theorem endHandlers_frame (s : State) (c : Nat) : SameBut [.evus] s (endHandlers s c) := by
  unfold endHandlers modEvuCore
  exact (modEvu_frame _ _ _).trans (modEvu_frame _ _ _)

/-- What a descriptor gives back when it leaves its tile (07 R237). -/
theorem leaveTile_frame (s : State) (e : Entry) : SameBut descriptorComponents s (leaveTile s e) := by
  have tile : SameBut descriptorComponents s
      (match e.tile with
        | some t => releaseTile s t e.qp e.asn e.ctx
        | none => s) := by
    split
    · exact (modTmem_frame _ _ _).mono (by simp [descriptorComponents])
    · exact SameBut.refl _ _
  have core (u : State) : SameBut descriptorComponents u (releaseCore u e.script) := by
    unfold releaseCore
    split
    · exact ((endHandlers_frame _ _).mono (by simp [descriptorComponents])).trans
        ((modCore_frame _ _ _).mono (by simp [descriptorComponents]))
    · exact SameBut.refl _ _
  have quarter (u : State) (f : Quarter → Quarter) : SameBut descriptorComponents u (modQuarter u e.quarter f) :=
    (modQuarter_frame _ _ _).mono (by simp [descriptorComponents])
  have entry (u : State) (f : Entry → Entry) : SameBut descriptorComponents u (modEntry u e.qp e.asn f) :=
    (modEntry_frame _ _ _ _).mono (by simp [descriptorComponents])
  have held (f : Quarter → Quarter) (g : Entry → Entry) := ((tile.trans (core _)).trans (quarter _ f)).trans (entry _ g)
  unfold leaveTile
  cases h : e.tile with
  | none => rw [h] at held; exact held _ _
  | some t => rw [h] at held; exact (held _ _).trans ((wakeEngines_frame _ _).mono (by simp [descriptorComponents]))

theorem unpause_frame (s : State) (q : Nat) : SameBut [.qps] s (unpause s q) := by
  intro k hk; cases k <;> first | rfl | simp at hk

/-- A descriptor that ends without a commit unit changes what descriptors hold, and nothing else (04 R111). -/
theorem finishEntry_frame (s : State) (e : Entry) (c : Cpl) : SameBut descriptorComponents s (finishEntry s e c) := by
  have line (u : State) : SameBut descriptorComponents u (releaseLine u e.line) := by
    unfold releaseLine
    split
    · exact SameBut.refl _ _
    · split
      · exact (modVault_frame _ _).mono (by simp [descriptorComponents])
      · exact SameBut.refl _ _
  have entry (u : State) (f : Entry → Entry) : SameBut descriptorComponents u (modEntry u e.qp e.asn f) :=
    (modEntry_frame _ _ _ _).mono (by simp [descriptorComponents])
  have grant (u : State) : SameBut descriptorComponents u (releaseGrant u e.qp e.asn) :=
    (modVault_frame _ _).mono (by simp [descriptorComponents])
  have held (f : Entry → Entry) := (((leaveTile_frame s e).trans (grant _)).trans (line _)).trans (entry _ f)
  unfold finishEntry
  dsimp only
  split
  · exact (held _).trans ((unpause_frame _ _).mono (by simp [descriptorComponents]))
  · exact held _

/-- A descriptor that hands over a commit unit changes the journal besides (04 R117). -/
theorem queueUnit_frame (s : State) (e : Entry) (c : Cpl) (f : Effect) :
    SameBut (descriptorComponents ++ [.journal]) s (queueUnit s e c f) := by
  have leave := (leaveTile_frame s e).mono (m := descriptorComponents ++ [.journal]) (fun k hk => List.mem_append_left _ hk)
  have quarter (u : State) (q : Nat) (g : Quarter → Quarter) : SameBut (descriptorComponents ++ [.journal]) u (modQuarter u q g) :=
    (modQuarter_frame _ _ _).mono (by simp [descriptorComponents])
  have rest (u : State) (g : Journal → Journal) (h : Entry → Entry) :
      SameBut (descriptorComponents ++ [.journal]) u (modEntry (modJournal u g) e.qp e.asn h) :=
    ((modJournal_frame _ _).mono (by simp)).trans ((modEntry_frame _ _ _ _).mono (by simp [descriptorComponents]))
  unfold queueUnit
  cases f <;> first | exact (leave.trans (quarter _ _ _)).trans (rest _ _ _) | exact leave.trans (rest _ _ _)

/-- A command's work takes its engine in its tile alone (03 R85, R90). -/
theorem takeEngine_frame {s u : State} {e : Entry} (h : takeEngine s e = some u) : SameBut [.tmem] s u := by
  have free {t : Nat} {k : StepKind} {x : Nat × State} (h : engineFree s t e k = some x) : SameBut [.tmem] s x.2 := by
    unfold engineFree at h
    dsimp only at h
    (repeat' split at h) <;> first
      | cases h; done
      | cases h; exact modTmem_frame _ _ _
      | obtain ⟨_, _, rfl⟩ := Option.map_eq_some_iff.mp h; exact modTmem_frame _ _ _
  unfold takeEngine at h
  split at h
  · split at h
    · split at h
      · cases h; exact SameBut.refl _ _
      · cases h
    · split at h
      · cases h
      · obtain ⟨x, hx, rfl⟩ := Option.map_eq_some_iff.mp h
        refine (free hx).trans ?_
        unfold drawMask
        split
        · exact modTmem_frame _ _ _
        · exact SameBut.refl _ _
  · cases h; exact SameBut.refl _ _

/-- A data command changes what its work changes, what descriptors hold and the journal (03 R83; 04 R117). -/
theorem runCommand_frame {l : List Component} (s : State) (q a : Nat) (is : Nat → Bool) {w : Work}
    (hw : ∀ u c, SameBut l u (w u c).2) : SameBut (l ++ descriptorComponents ++ [.journal]) s (runCommand s q a is w) := by
  have entry (u : State) (f : Entry → Entry) : SameBut (l ++ descriptorComponents ++ [.journal]) u (modEntry u q a f) :=
    (modEntry_frame _ _ _ _).mono (by simp [descriptorComponents])
  unfold runCommand
  split
  · exact SameBut.refl _ _
  · next e _ =>
    split
    · split
      · exact SameBut.refl _ _
      · next u hu =>
        have engine := (takeEngine_frame hu).mono (m := l ++ descriptorComponents ++ [.journal]) (by simp [descriptorComponents])
        have work := (hw u (ctxOf u e)).mono (m := l ++ descriptorComponents ++ [.journal]) (fun k hk => by simp [hk])
        dsimp only
        split
        · exact entry _ _
        · refine ((engine.trans work).trans (entry _ (fun x => { x with fired := true, deadline := none }))).trans ?_
          unfold postRes
          split
          · exact (finishEntry_frame _ _ _).mono (fun k hk => by simp [hk])
          · exact (finishEntry_frame _ _ _).mono (fun k hk => by simp [hk])
          · exact (queueUnit_frame _ _ _ _).mono (fun k hk => by simp at hk ⊢; tauto)
          · exact SameBut.refl _ _
    · exact SameBut.refl _ _

end Sys2Proof.Machine
end

