-- ==== Sys2Proof/Laws/Memory.lean ====
section
/-!
SUPPORT. The laws of sparse tables and of memory: reading after a write, and the canonical form that every write keeps.
-/

namespace Sys2Proof.Machine

open Sys2Proof

/-- Reading a table at the key just written. -/
@[simp] theorem tblGet_tblSet_same {α : Type} (d : α) (t : Tbl α) (k : Nat) (v : α) :
    tblGet d (tblSet t k v) k = v := by
  induction t with
  | nil => simp [tblSet, tblGet]
  | cons x r ih =>
    obtain ⟨k', v'⟩ := x
    simp only [tblSet]
    split
    · simp [tblGet]
    · split
      · simp [tblGet]
      · simp [tblGet, *]

/-- A write leaves every other key alone. -/
theorem tblGet_tblSet_other {α : Type} (d : α) (t : Tbl α) (k j : Nat) (v : α) (h : j ≠ k) :
    tblGet d (tblSet t k v) j = tblGet d t j := by
  induction t with
  | nil => simp [tblSet, tblGet, Ne.symm h]
  | cons x r ih =>
    obtain ⟨k', v'⟩ := x
    simp only [tblSet]
    split
    · rename_i e; subst e; simp [tblGet, Ne.symm h]
    · split
      · simp [tblGet, Ne.symm h]
      · simp only [tblGet, ih]

/-- Reading a table after a write. -/
theorem tblGet_tblSet {α : Type} (d : α) (t : Tbl α) (k j : Nat) (v : α) :
    tblGet d (tblSet t k v) j = if j = k then v else tblGet d t j := by
  split
  · rename_i e; subst e; simp
  · exact tblGet_tblSet_other d t k j v (by assumption)

/-- Reading the byte just written. -/
theorem Memory.get_set_other (m : List Host.Cell) (a b : Nat) (v : Byte) (h : b ≠ a) :
    Memory.get (Memory.set m a v) b = Memory.get m b := by
  unfold Memory.get
  induction m with
  | nil => simp only [Memory.set]; split <;> simp [tblGet, Ne.symm h]
  | cons x r ih =>
    obtain ⟨k, w⟩ := x
    simp only [Memory.set]
    split
    · simp only [tblGet, ih]
    · split
      · rename_i e; subst e; split <;> simp [tblGet, Ne.symm h]
      · split <;> simp [tblGet, Ne.symm h]

/-- Every address of a memory in canonical form lies above what lies below its first. -/
theorem Memory.get_above {m : List Host.Cell} {a b : Nat} (h : Memory.wf m = true) (ha : Memory.above a m = true)
    (hb : b ≤ a) : Memory.get m b = 0 := by
  unfold Memory.get
  induction m generalizing a with
  | nil => rfl
  | cons x r ih =>
    obtain ⟨k, w⟩ := x
    simp only [Memory.wf, Memory.above, Bool.and_eq_true, decide_eq_true_eq] at h ha
    have hk : k ≠ b := by omega
    simp only [tblGet, if_neg hk]
    exact ih h.2 h.1.2 (by omega)

/-- Reading the byte just written, in canonical form. -/
theorem Memory.get_set_same (m : List Host.Cell) (a : Nat) (v : Byte) (h : Memory.wf m = true) :
    Memory.get (Memory.set m a v) a = v := by
  induction m with
  | nil => simp only [Memory.set]; split <;> simp_all [Memory.get, tblGet]
  | cons x r ih =>
    obtain ⟨k, w⟩ := x
    have h' := h
    simp only [Memory.wf, Bool.and_eq_true, decide_eq_true_eq] at h
    simp only [Memory.set]
    split
    · rename_i e
      have hk : k ≠ a := by omega
      have := ih h.2
      simp only [Memory.get, tblGet, if_neg hk] at this ⊢
      exact this
    · split
      · rename_i e; subst e
        split
        · rename_i e; subst e; exact Memory.get_above h.2 h.1.2 (Nat.le_refl _)
        · simp [Memory.get, tblGet]
      · split
        · rename_i hv; subst hv
          exact Memory.get_above (a := a) h' (by simp [Memory.above]; omega) (Nat.le_refl _)
        · simp [Memory.get, tblGet]

/-- Where a byte is set in a memory that lies above b. -/
theorem Memory.above_set {m : List Host.Cell} {a b : Nat} {v : Byte} (hb : b < a) (h : Memory.above b m = true)
    (hw : Memory.wf m = true) : Memory.above b (Memory.set m a v) = true := by
  cases m with
  | nil => simp only [Memory.set]; split <;> simp [Memory.above, hb]
  | cons x r =>
    obtain ⟨k, w⟩ := x
    simp only [Memory.above, decide_eq_true_eq] at h
    simp only [Memory.set]
    split
    · simp [Memory.above, h]
    · split
      · split
        · simp only [Memory.wf, Bool.and_eq_true, decide_eq_true_eq] at hw
          cases r with
          | nil => rfl
          | cons y r => obtain ⟨j, u⟩ := y; simp only [Memory.above, decide_eq_true_eq] at hw ⊢; omega
        · simp [Memory.above, hb]
      · split <;> simp [Memory.above, hb, h]

/-- Writing one byte keeps the canonical form. -/
theorem Memory.wf_set {m : List Host.Cell} (a : Nat) (v : Byte) (h : Memory.wf m = true) :
    Memory.wf (Memory.set m a v) = true := by
  induction m with
  | nil => simp only [Memory.set]; split <;> simp_all [Memory.wf, Memory.above]
  | cons x r ih =>
    obtain ⟨k, w⟩ := x
    simp only [Memory.wf, Bool.and_eq_true, decide_eq_true_eq] at h
    simp only [Memory.set]
    split
    · simp only [Memory.wf, Bool.and_eq_true, decide_eq_true_eq]
      exact ⟨⟨h.1.1, Memory.above_set (by assumption) h.1.2 h.2⟩, ih h.2⟩
    · split
      · rename_i e; subst e
        split
        · exact h.2
        · simp_all [Memory.wf]
      · split
        · simp_all [Memory.wf]
        · simp_all [Memory.wf, Memory.above]; omega

/-- Storing a byte string keeps the canonical form. -/
theorem Memory.wf_write {m : List Host.Cell} (a : Nat) (bs : List Byte) (h : Memory.wf m = true) :
    Memory.wf (Memory.write m a bs) = true := by
  induction bs generalizing m a with
  | nil => exact h
  | cons b r ih => exact ih (a + 1) (Memory.wf_set a b h)

/-- A store leaves every byte outside it alone. -/
theorem Memory.get_write_other (m : List Host.Cell) (a b : Nat) (bs : List Byte) (h : b < a ∨ a + bs.length ≤ b) :
    Memory.get (Memory.write m a bs) b = Memory.get m b := by
  induction bs generalizing m a with
  | nil => rfl
  | cons x r ih =>
    simp only [List.length_cons] at h
    simp only [Memory.write]
    rw [ih _ _ (by omega), Memory.get_set_other _ _ _ _ (by omega)]

/-- A store puts its bytes where it says. -/
theorem Memory.get_write_at (m : List Host.Cell) (a i : Nat) (bs : List Byte) (h : Memory.wf m = true)
    (hi : i < bs.length) : Memory.get (Memory.write m a bs) (a + i) = bs[i] := by
  induction bs generalizing m a i with
  | nil => simp at hi
  | cons x r ih =>
    simp only [Memory.write]
    cases i with
    | zero =>
      rw [Memory.get_write_other _ _ _ _ (by omega), Nat.add_zero, Memory.get_set_same _ _ _ h]; rfl
    | succ i =>
      have := ih (Memory.set m a x) (a + 1) i (Memory.wf_set a x h) (by simpa using hi)
      rw [show a + (i + 1) = a + 1 + i by omega, this]; rfl

/-- Reading what a store has just written. -/
theorem Memory.read_write (m : List Host.Cell) (a : Nat) (bs : List Byte) (h : Memory.wf m = true) :
    Memory.read (Memory.write m a bs) a bs.length = bs := by
  apply List.ext_getElem
  · simp [Memory.read]
  · intro i h1 h2
    simp only [Memory.read, List.getElem_map, List.getElem_range]
    exact Memory.get_write_at m a i bs h h2

/-- The bytes of a number are as many as asked. -/
@[simp] theorem leBytes_length (n v : Nat) : (leBytes n v).length = n := by
  induction n generalizing v with
  | zero => rfl
  | succ n ih => simp [leBytes, ih]

/-- Reading back a number from its bytes. -/
theorem leNat_leBytes (n v : Nat) : leNat (leBytes n v) = v % 256 ^ n := by
  induction n generalizing v with
  | zero => simp [leBytes, leNat, Nat.mod_one]
  | succ n ih =>
    simp only [leBytes, leNat, ih, BitVec.toNat_ofNat]
    rw [show (256 : Nat) ^ (n + 1) = 256 * 256 ^ n by rw [Nat.pow_succ, Nat.mul_comm], Nat.mod_mul]

end Sys2Proof.Machine
end

