-- ==== Sys2Proof/Laws/PerInstr.lean ====
section
/-!
SUPPORT. Per command: no word spells it, since the opcode table gives no row any bits (log 2).
-/

namespace Sys2Proof.Laws.Shape

open Sys2Proof

/-- No word of any length spells the command. -/
def Statement (i : Instr) : Prop := ∀ nbits w : Nat, decodeTableWord nbits w ≠ some i

theorem none_spelled (i : Instr) : Statement i := by intro nbits w; simp [decodeTableWord]

theorem powerGoodStart (found : StartInfo) : Statement (.powerGoodStart found) := none_spelled _
theorem mainPowerLoss (returned : List (Nat × Option Nat)) : Statement (.mainPowerLoss returned) := none_spelled _
theorem perstAssert : Statement (.perstAssert) := none_spelled _
theorem pf0FunctionLevelReset : Statement (.pf0FunctionLevelReset) := none_spelled _
theorem vfFunctionLevelReset (vf : Nat) : Statement (.vfFunctionLevelReset vf) := none_spelled _
theorem busMasterEnableSet (vf : Nat) : Statement (.busMasterEnableSet vf) := none_spelled _
theorem atsInvalidation (func : Nat) (page : Nat) : Statement (.atsInvalidation func page) := none_spelled _
theorem hifDbSqTail (pg : DbPage) (width : Nat) (v : Word) : Statement (.hifDbSqTail pg width v) := none_spelled _
theorem hifDbCqHead (pg : DbPage) (width : Nat) (v : Word) : Statement (.hifDbCqHead pg width v) := none_spelled _
theorem hifDbIrqCtl (pg : DbPage) (width : Nat) (v : Word) : Statement (.hifDbIrqCtl pg width v) := none_spelled _
theorem hifQpCtlEn (qp : Nat) (v : Word) (hw : Nat) : Statement (.hifQpCtlEn qp v hw) := none_spelled _
theorem cplErrClear (qp : Nat) (translated : Bool) : Statement (.cplErrClear qp translated) := none_spelled _
theorem rcRegisterRead (r : RcReg) (hw : Nat) (hw2 : Nat) : Statement (.rcRegisterRead r hw hw2) := none_spelled _
theorem registerWrite (a : RegAddr) (width : Nat) (v : BitVec 64) (hw : Nat) : Statement (.registerWrite a width v hw) := none_spelled _
theorem suspend (via : Via) (p : Nat) : Statement (.suspend via p) := none_spelled _
theorem resume (via : Via) (p : Nat) : Statement (.resume via p) := none_spelled _
theorem drain (via : Via) (p : Nat) : Statement (.drain via p) := none_spelled _
theorem squash (via : Via) (p : Nat) : Statement (.squash via p) := none_spelled _
theorem create (path : Path) (p : Nat) : Statement (.create path p) := none_spelled _
theorem partRemove (path : Path) (p : Nat) : Statement (.partRemove path p) := none_spelled _
theorem drainDeadlineExpiry (q : Nat) (p : Nat) : Statement (.drainDeadlineExpiry q p) := none_spelled _
theorem partDisagree (p : Nat) : Statement (.partDisagree p) := none_spelled _
theorem tileDisagree (t : Nat) : Statement (.tileDisagree t) := none_spelled _
theorem mbxSubmit : Statement (.mbxSubmit) := none_spelled _
theorem mbxAbort : Statement (.mbxAbort) := none_spelled _
theorem descriptorFetch (qp : Nat) (n : Nat) : Statement (.descriptorFetch qp n) := none_spelled _
theorem descriptorArrival (qp : Nat) (r : FetchResult) : Statement (.descriptorArrival qp r) := none_spelled _
theorem descriptorHome (qp : Nat) (asn : Nat) : Statement (.descriptorHome qp asn) := none_spelled _
theorem nonceBlockReserve (q : Nat) (p : Nat) : Statement (.nonceBlockReserve q p) := none_spelled _
theorem keyCachePinGrant (qp : Nat) (asn : Nat) : Statement (.keyCachePinGrant qp asn) := none_spelled _
theorem vaultFill (qp : Nat) (asn : Nat) : Statement (.vaultFill qp asn) := none_spelled _
theorem vaultGrant (qp : Nat) (asn : Nat) : Statement (.vaultGrant qp asn) := none_spelled _
theorem stepFire (qp : Nat) (asn : Nat) (e : Engine) : Statement (.stepFire qp asn e) := none_spelled _
theorem laneStepDone (t : Nat) (pair : Nat) (agree : Bool) : Statement (.laneStepDone t pair agree) := none_spelled _
theorem pkeOplistDone (t : Nat) (k : Nat) (r : OplistEnd) : Statement (.pkeOplistDone t k r) := none_spelled _
theorem hashBlockDone (t : Nat) (parityOk : Bool) : Statement (.hashBlockDone t parityOk) := none_spelled _
theorem tokenArrival (c : Nat) (ticket : Nat) : Statement (.tokenArrival c ticket) := none_spelled _
theorem scriptBudgetExceeded (c : Nat) : Statement (.scriptBudgetExceeded c) := none_spelled _
theorem scriptCoreAssign (t : Nat) : Statement (.scriptCoreAssign t) := none_spelled _
theorem tenantScriptLoad (t : Nat) (qp : Nat) (asn : Nat) : Statement (.tenantScriptLoad t qp asn) := none_spelled _
theorem deadlineExpiry (qp : Nat) (asn : Nat) : Statement (.deadlineExpiry qp asn) := none_spelled _
theorem retryBackoffExpiry (qp : Nat) (asn : Nat) : Statement (.retryBackoffExpiry qp asn) := none_spelled _
theorem bucketRefillExpiry (q : Nat) (p : Nat) : Statement (.bucketRefillExpiry q p) := none_spelled _
theorem gateDeferralExpiry (qp : Nat) (asn : Nat) : Statement (.gateDeferralExpiry qp asn) := none_spelled _
theorem rngDeferralTick (q : Nat) : Statement (.rngDeferralTick q) := none_spelled _
theorem randomServe (qp : Nat) (asn : Nat) : Statement (.randomServe qp asn) := none_spelled _
theorem keyCacheEccError (t : Nat) : Statement (.keyCacheEccError t) := none_spelled _
theorem watchdogExpiry (t : Nat) : Statement (.watchdogExpiry t) := none_spelled _
theorem quarterStateError (q : Nat) : Statement (.quarterStateError q) := none_spelled _
theorem hostFabricSilence (q : Nat) : Statement (.hostFabricSilence q) := none_spelled _
theorem queuePairRehome (qp : Nat) : Statement (.queuePairRehome qp) := none_spelled _
theorem tileMatchingParity (qp : Nat) (asn : Nat) (core : Option Nat) : Statement (.tileMatchingParity qp asn core) := none_spelled _
theorem reseqRelease (qp : Nat) (translated : Bool) (outFail : Option Nat) : Statement (.reseqRelease qp translated outFail) := none_spelled _
theorem coalTimeExpiry (qp : Nat) : Statement (.coalTimeExpiry qp) := none_spelled _
theorem flushingReadReturn (func : Nat) (pasid : Option Nat) : Statement (.flushingReadReturn func pasid) := none_spelled _
theorem watermarkBatch : Statement (.watermarkBatch) := none_spelled _
theorem commitUnit : Statement (.commitUnit) := none_spelled _
theorem journalDeviceFail (dev : Nat) : Statement (.journalDeviceFail dev) := none_spelled _
theorem checkpoint (page : Nat) : Statement (.checkpoint page) := none_spelled _
theorem keyOpAction (path : Path) (action : Nat) : Statement (.keyOpAction path action) := none_spelled _
theorem modKeyOpAction (path : Path) (action : Nat) : Statement (.modKeyOpAction path action) := none_spelled _
theorem keyDestroyFree : Statement (.keyDestroyFree) := none_spelled _
theorem svcAcquire (c : Nat) : Statement (.svcAcquire c) := none_spelled _
theorem svcRelease (c : Nat) : Statement (.svcRelease c) := none_spelled _
theorem svcForce (c : Nat) : Statement (.svcForce c) := none_spelled _
theorem svcCancel (c : Nat) : Statement (.svcCancel c) := none_spelled _
theorem svcGrant : Statement (.svcGrant) := none_spelled _
theorem svcLockTimeout : Statement (.svcLockTimeout) := none_spelled _
theorem maskReseed (t : Nat) : Statement (.maskReseed t) := none_spelled _
theorem aesEcbEnc (qp : Nat) (asn : Nat) : Statement (.aesEcbEnc qp asn) := none_spelled _
theorem aesEcbDec (qp : Nat) (asn : Nat) : Statement (.aesEcbDec qp asn) := none_spelled _
theorem aesCbcEnc (qp : Nat) (asn : Nat) : Statement (.aesCbcEnc qp asn) := none_spelled _
theorem aesCbcDec (qp : Nat) (asn : Nat) : Statement (.aesCbcDec qp asn) := none_spelled _
theorem aesCtr (qp : Nat) (asn : Nat) : Statement (.aesCtr qp asn) := none_spelled _
theorem aesCtrHw (qp : Nat) (asn : Nat) : Statement (.aesCtrHw qp asn) := none_spelled _
theorem aesGcmEnc (qp : Nat) (asn : Nat) : Statement (.aesGcmEnc qp asn) := none_spelled _
theorem aesGcmDec (qp : Nat) (asn : Nat) : Statement (.aesGcmDec qp asn) := none_spelled _
theorem tdesEcbEnc (qp : Nat) (asn : Nat) : Statement (.tdesEcbEnc qp asn) := none_spelled _
theorem tdesEcbDec (qp : Nat) (asn : Nat) : Statement (.tdesEcbDec qp asn) := none_spelled _
theorem tdesCbcEnc (qp : Nat) (asn : Nat) : Statement (.tdesCbcEnc qp asn) := none_spelled _
theorem tdesCbcDec (qp : Nat) (asn : Nat) : Statement (.tdesCbcDec qp asn) := none_spelled _
theorem pinTranslate (qp : Nat) (asn : Nat) : Statement (.pinTranslate qp asn) := none_spelled _
theorem pinVerifyOffset (qp : Nat) (asn : Nat) : Statement (.pinVerifyOffset qp asn) := none_spelled _
theorem pinVerifyPvv (qp : Nat) (asn : Nat) : Statement (.pinVerifyPvv qp asn) := none_spelled _
theorem pinOffsetGenerate (qp : Nat) (asn : Nat) : Statement (.pinOffsetGenerate qp asn) := none_spelled _
theorem pvvGenerate (qp : Nat) (asn : Nat) : Statement (.pvvGenerate qp asn) := none_spelled _
theorem dukptPinTranslate (qp : Nat) (asn : Nat) : Statement (.dukptPinTranslate qp asn) := none_spelled _
theorem dukptMacGenerate (qp : Nat) (asn : Nat) : Statement (.dukptMacGenerate qp asn) := none_spelled _
theorem dukptMacVerify (qp : Nat) (asn : Nat) : Statement (.dukptMacVerify qp asn) := none_spelled _
theorem dukptEncrypt (qp : Nat) (asn : Nat) : Statement (.dukptEncrypt qp asn) := none_spelled _
theorem dukptDecrypt (qp : Nat) (asn : Nat) : Statement (.dukptDecrypt qp asn) := none_spelled _
theorem dukptIkExport (qp : Nat) (asn : Nat) : Statement (.dukptIkExport qp asn) := none_spelled _
theorem macAlg1Gen (qp : Nat) (asn : Nat) : Statement (.macAlg1Gen qp asn) := none_spelled _
theorem macAlg1Ver (qp : Nat) (asn : Nat) : Statement (.macAlg1Ver qp asn) := none_spelled _
theorem macAlg3Gen (qp : Nat) (asn : Nat) : Statement (.macAlg3Gen qp asn) := none_spelled _
theorem macAlg3Ver (qp : Nat) (asn : Nat) : Statement (.macAlg3Ver qp asn) := none_spelled _
theorem cmacGen (qp : Nat) (asn : Nat) : Statement (.cmacGen qp asn) := none_spelled _
theorem cmacVer (qp : Nat) (asn : Nat) : Statement (.cmacVer qp asn) := none_spelled _
theorem hmacGen (qp : Nat) (asn : Nat) : Statement (.hmacGen qp asn) := none_spelled _
theorem hmacVer (qp : Nat) (asn : Nat) : Statement (.hmacVer qp asn) := none_spelled _
theorem arqcVerify (qp : Nat) (asn : Nat) : Statement (.arqcVerify qp asn) := none_spelled _
theorem smMacGenerate (qp : Nat) (asn : Nat) : Statement (.smMacGenerate qp asn) := none_spelled _
theorem smPinChange (qp : Nat) (asn : Nat) : Statement (.smPinChange qp asn) := none_spelled _
theorem smDataEncipher (qp : Nat) (asn : Nat) : Statement (.smDataEncipher qp asn) := none_spelled _
theorem cvcGenerate (qp : Nat) (asn : Nat) : Statement (.cvcGenerate qp asn) := none_spelled _
theorem cvcVerify (qp : Nat) (asn : Nat) : Statement (.cvcVerify qp asn) := none_spelled _
theorem kbImport (qp : Nat) (asn : Nat) : Statement (.kbImport qp asn) := none_spelled _
theorem kbExport (qp : Nat) (asn : Nat) : Statement (.kbExport qp asn) := none_spelled _
theorem kbGenerate (qp : Nat) (asn : Nat) : Statement (.kbGenerate qp asn) := none_spelled _
theorem rklBuild (qp : Nat) (asn : Nat) : Statement (.rklBuild qp asn) := none_spelled _
theorem rklAccept (qp : Nat) (asn : Nat) : Statement (.rklAccept qp asn) := none_spelled _
theorem hotpGenerate (qp : Nat) (asn : Nat) : Statement (.hotpGenerate qp asn) := none_spelled _
theorem hotpVerify (qp : Nat) (asn : Nat) : Statement (.hotpVerify qp asn) := none_spelled _
theorem totpGenerate (qp : Nat) (asn : Nat) : Statement (.totpGenerate qp asn) := none_spelled _
theorem totpVerify (qp : Nat) (asn : Nat) : Statement (.totpVerify qp asn) := none_spelled _
theorem lockerTokenIssue (qp : Nat) (asn : Nat) : Statement (.lockerTokenIssue qp asn) := none_spelled _
theorem lockerTokenVerify (qp : Nat) (asn : Nat) : Statement (.lockerTokenVerify qp asn) := none_spelled _
theorem rsaSign (qp : Nat) (asn : Nat) : Statement (.rsaSign qp asn) := none_spelled _
theorem rsaVerify (qp : Nat) (asn : Nat) : Statement (.rsaVerify qp asn) := none_spelled _
theorem rsaOaepEncrypt (qp : Nat) (asn : Nat) : Statement (.rsaOaepEncrypt qp asn) := none_spelled _
theorem rsaOaepDecrypt (qp : Nat) (asn : Nat) : Statement (.rsaOaepDecrypt qp asn) := none_spelled _
theorem ecdsaSign (qp : Nat) (asn : Nat) : Statement (.ecdsaSign qp asn) := none_spelled _
theorem ecdsaVerify (qp : Nat) (asn : Nat) : Statement (.ecdsaVerify qp asn) := none_spelled _
theorem ecdhDerive (qp : Nat) (asn : Nat) : Statement (.ecdhDerive qp asn) := none_spelled _
theorem ed25519Sign (qp : Nat) (asn : Nat) : Statement (.ed25519Sign qp asn) := none_spelled _
theorem ed25519Verify (qp : Nat) (asn : Nat) : Statement (.ed25519Verify qp asn) := none_spelled _
theorem pkGenerate (qp : Nat) (asn : Nat) : Statement (.pkGenerate qp asn) := none_spelled _
theorem pkPublicExport (qp : Nat) (asn : Nat) : Statement (.pkPublicExport qp asn) := none_spelled _
theorem pkPublicImport (qp : Nat) (asn : Nat) : Statement (.pkPublicImport qp asn) := none_spelled _
theorem mlkemEncaps (qp : Nat) (asn : Nat) : Statement (.mlkemEncaps qp asn) := none_spelled _
theorem mlkemDecaps (qp : Nat) (asn : Nat) : Statement (.mlkemDecaps qp asn) := none_spelled _
theorem mldsaSign (qp : Nat) (asn : Nat) : Statement (.mldsaSign qp asn) := none_spelled _
theorem mldsaVerify (qp : Nat) (asn : Nat) : Statement (.mldsaVerify qp asn) := none_spelled _
theorem slhdsaVerify (qp : Nat) (asn : Nat) : Statement (.slhdsaVerify qp asn) := none_spelled _
theorem pqGenerate (qp : Nat) (asn : Nat) : Statement (.pqGenerate qp asn) := none_spelled _
theorem pqPublicExport (qp : Nat) (asn : Nat) : Statement (.pqPublicExport qp asn) := none_spelled _
theorem pqPublicImport (qp : Nat) (asn : Nat) : Statement (.pqPublicImport qp asn) := none_spelled _
theorem sha256 (qp : Nat) (asn : Nat) : Statement (.sha256 qp asn) := none_spelled _
theorem sha384 (qp : Nat) (asn : Nat) : Statement (.sha384 qp asn) := none_spelled _
theorem sha512 (qp : Nat) (asn : Nat) : Statement (.sha512 qp asn) := none_spelled _
theorem sha3_256 (qp : Nat) (asn : Nat) : Statement (.sha3_256 qp asn) := none_spelled _
theorem sha3_384 (qp : Nat) (asn : Nat) : Statement (.sha3_384 qp asn) := none_spelled _
theorem sha3_512 (qp : Nat) (asn : Nat) : Statement (.sha3_512 qp asn) := none_spelled _
theorem shake128 (qp : Nat) (asn : Nat) : Statement (.shake128 qp asn) := none_spelled _
theorem shake256 (qp : Nat) (asn : Nat) : Statement (.shake256 qp asn) := none_spelled _
theorem random (qp : Nat) (asn : Nat) : Statement (.random qp asn) := none_spelled _
theorem tenantScriptInvoke (qp : Nat) (asn : Nat) : Statement (.tenantScriptInvoke qp asn) := none_spelled _
theorem attestModule (qp : Nat) (asn : Nat) : Statement (.attestModule qp asn) := none_spelled _
theorem attestPartition (qp : Nat) (asn : Nat) : Statement (.attestPartition qp asn) := none_spelled _
theorem partInfo (qp : Nat) (asn : Nat) : Statement (.partInfo qp asn) := none_spelled _
theorem keyInfo (qp : Nat) (asn : Nat) : Statement (.keyInfo qp asn) := none_spelled _
theorem tryCounterCreate (qp : Nat) (asn : Nat) : Statement (.tryCounterCreate qp asn) := none_spelled _
theorem tryCounterReset (qp : Nat) (asn : Nat) : Statement (.tryCounterReset qp asn) := none_spelled _
theorem tryCounterRead (qp : Nat) (asn : Nat) : Statement (.tryCounterRead qp asn) := none_spelled _
theorem nop (c : Nat) (f : NopForm) : Statement (.nop c f) := none_spelled _
theorem add (c : Nat) (f : RForm) : Statement (.add c f) := none_spelled _
theorem adc (c : Nat) (rd : Reg) (ra : Reg) (rb : Reg) : Statement (.adc c rd ra rb) := none_spelled _
theorem sub (c : Nat) (f : RForm) : Statement (.sub c f) := none_spelled _
theorem sbc (c : Nat) (rd : Reg) (ra : Reg) (rb : Reg) : Statement (.sbc c rd ra rb) := none_spelled _
theorem and (c : Nat) (f : RForm) : Statement (.and c f) := none_spelled _
theorem or (c : Nat) (f : RForm) : Statement (.or c f) := none_spelled _
theorem xor (c : Nat) (f : RForm) : Statement (.xor c f) := none_spelled _
theorem andn (c : Nat) (rd : Reg) (ra : Reg) (rb : Reg) : Statement (.andn c rd ra rb) := none_spelled _
theorem shl (c : Nat) (rd : Reg) (ra : Reg) (rb : Reg) : Statement (.shl c rd ra rb) := none_spelled _
theorem shr (c : Nat) (rd : Reg) (ra : Reg) (rb : Reg) : Statement (.shr c rd ra rb) := none_spelled _
theorem sar (c : Nat) (rd : Reg) (ra : Reg) (rb : Reg) : Statement (.sar c rd ra rb) := none_spelled _
theorem ror (c : Nat) (rd : Reg) (ra : Reg) (rb : Reg) : Statement (.ror c rd ra rb) := none_spelled _
theorem rol (c : Nat) (rd : Reg) (ra : Reg) (rb : Reg) : Statement (.rol c rd ra rb) := none_spelled _
theorem mul (c : Nat) (rd : Reg) (ra : Reg) (rb : Reg) : Statement (.mul c rd ra rb) := none_spelled _
theorem mulhu (c : Nat) (rd : Reg) (ra : Reg) (rb : Reg) : Statement (.mulhu c rd ra rb) := none_spelled _
theorem mulhs (c : Nat) (rd : Reg) (ra : Reg) (rb : Reg) : Statement (.mulhs c rd ra rb) := none_spelled _
theorem divu (c : Nat) (rd : Reg) (ra : Reg) (rb : Reg) : Statement (.divu c rd ra rb) := none_spelled _
theorem divs (c : Nat) (rd : Reg) (ra : Reg) (rb : Reg) : Statement (.divs c rd ra rb) := none_spelled _
theorem remu (c : Nat) (rd : Reg) (ra : Reg) (rb : Reg) : Statement (.remu c rd ra rb) := none_spelled _
theorem rems (c : Nat) (rd : Reg) (ra : Reg) (rb : Reg) : Statement (.rems c rd ra rb) := none_spelled _
theorem cmp (c : Nat) (f : CForm) : Statement (.cmp c f) := none_spelled _
theorem tst (c : Nat) (f : CForm) : Statement (.tst c f) := none_spelled _
theorem sel (c : Nat) (rd : Reg) (ra : Reg) (rb : Reg) : Statement (.sel c rd ra rb) := none_spelled _
theorem crcw (c : Nat) (rd : Reg) (ra : Reg) : Statement (.crcw c rd ra) := none_spelled _
theorem addi (c : Nat) (f : IForm) : Statement (.addi c f) := none_spelled _
theorem andi (c : Nat) (rd : Reg) (ra : Reg) (imm : BitVec 14) : Statement (.andi c rd ra imm) := none_spelled _
theorem ori (c : Nat) (rd : Reg) (ra : Reg) (imm : BitVec 14) : Statement (.ori c rd ra imm) := none_spelled _
theorem xori (c : Nat) (rd : Reg) (ra : Reg) (imm : BitVec 14) : Statement (.xori c rd ra imm) := none_spelled _
theorem shli (c : Nat) (f : IForm) : Statement (.shli c f) := none_spelled _
theorem shri (c : Nat) (f : IForm) : Statement (.shri c f) := none_spelled _
theorem sari (c : Nat) (f : IForm) : Statement (.sari c f) := none_spelled _
theorem rori (c : Nat) (f : IForm) : Statement (.rori c f) := none_spelled _
theorem cmpi (c : Nat) (ra : Reg) (imm : BitVec 14) : Statement (.cmpi c ra imm) := none_spelled _
theorem movi (c : Nat) (f : UForm) : Statement (.movi c f) := none_spelled _
theorem movhi (c : Nat) (rd : Reg) (imm : BitVec 16) : Statement (.movhi c rd imm) := none_spelled _
theorem ldw (c : Nat) (f : IForm) : Statement (.ldw c f) := none_spelled _
theorem ldh (c : Nat) (rd : Reg) (ra : Reg) (imm : BitVec 14) : Statement (.ldh c rd ra imm) := none_spelled _
theorem ldhs (c : Nat) (rd : Reg) (ra : Reg) (imm : BitVec 14) : Statement (.ldhs c rd ra imm) := none_spelled _
theorem ldb (c : Nat) (f : IForm) : Statement (.ldb c f) := none_spelled _
theorem ldbs (c : Nat) (rd : Reg) (ra : Reg) (imm : BitVec 14) : Statement (.ldbs c rd ra imm) := none_spelled _
theorem stw (c : Nat) (f : IForm) : Statement (.stw c f) := none_spelled _
theorem sth (c : Nat) (rd : Reg) (ra : Reg) (imm : BitVec 14) : Statement (.sth c rd ra imm) := none_spelled _
theorem stb (c : Nat) (f : IForm) : Statement (.stb c f) := none_spelled _
theorem b (c : Nat) (cond : BitVec 4) (disp : BitVec 20) : Statement (.b c cond disp) := none_spelled _
theorem call (c : Nat) (disp : BitVec 20) : Statement (.call c disp) := none_spelled _
theorem callr (c : Nat) (ra : Reg) : Statement (.callr c ra) := none_spelled _
theorem jmpr (c : Nat) (ra : Reg) : Statement (.jmpr c ra) := none_spelled _
theorem ret (c : Nat) : Statement (.ret c) := none_spelled _
theorem iret (c : Nat) : Statement (.iret c) := none_spelled _
theorem wfi (c : Nat) : Statement (.wfi c) := none_spelled _
theorem mfc (c : Nat) (rd : Reg) (cr : Reg) : Statement (.mfc c rd cr) := none_spelled _
theorem mtc (c : Nat) (cr : Reg) (ra : Reg) : Statement (.mtc c cr ra) := none_spelled _
theorem kop (c : Nat) (rd : Reg) (ra : Reg) (rb : Reg) (func : BitVec 9) : Statement (.kop c rd ra rb func) := none_spelled _
theorem waitt (c : Nat) (rd : Reg) (ra : Reg) : Statement (.waitt c rd ra) := none_spelled _
theorem rdt (c : Nat) (rd : Reg) (ra : Reg) (rb : Reg) : Statement (.rdt c rd ra rb) := none_spelled _
theorem rnd (c : Nat) (rd : Reg) : Statement (.rnd c rd) := none_spelled _
theorem endOp (c : Nat) (ra : Reg) : Statement (.endOp c ra) := none_spelled _
theorem abort (c : Nat) (imm : BitVec 16) : Statement (.abort c imm) := none_spelled _
theorem mov (c : Nat) (f : ShortForm) : Statement (.mov c f) := none_spelled _
theorem not (c : Nat) (f : ShortForm) : Statement (.not c f) := none_spelled _
theorem neg (c : Nat) (f : ShortForm) : Statement (.neg c f) := none_spelled _
theorem push (c : Nat) (f : ShortForm) : Statement (.push c f) := none_spelled _
theorem pop (c : Nat) (f : ShortForm) : Statement (.pop c f) := none_spelled _
theorem par (c : Nat) (f : ShortForm) : Statement (.par c f) := none_spelled _
theorem parb (c : Nat) (f : ShortForm) : Statement (.parb c f) := none_spelled _
theorem brev (c : Nat) (f : ShortForm) : Statement (.brev c f) := none_spelled _
theorem brevb (c : Nat) (f : ShortForm) : Statement (.brevb c f) := none_spelled _
theorem bswap (c : Nat) (f : ShortForm) : Statement (.bswap c f) := none_spelled _
theorem luhn (c : Nat) (f : ShortForm) : Statement (.luhn c f) := none_spelled _
theorem dect (c : Nat) (f : ShortForm) : Statement (.dect c f) := none_spelled _
theorem crcb (c : Nat) (f : ShortForm) : Statement (.crcb c f) := none_spelled _
theorem kopEncBlock (c : Nat) (ticket : Nat) : Statement (.kopEncBlock c ticket) := none_spelled _
theorem kopDecBlock (c : Nat) (ticket : Nat) : Statement (.kopDecBlock c ticket) := none_spelled _
theorem kopCmacGen (c : Nat) (ticket : Nat) : Statement (.kopCmacGen c ticket) := none_spelled _
theorem kopCmacVer (c : Nat) (ticket : Nat) : Statement (.kopCmacVer c ticket) := none_spelled _
theorem kopHmacGen (c : Nat) (ticket : Nat) : Statement (.kopHmacGen c ticket) := none_spelled _
theorem kopHmacVer (c : Nat) (ticket : Nat) : Statement (.kopHmacVer c ticket) := none_spelled _
theorem pinOpen (c : Nat) (ticket : Nat) : Statement (.pinOpen c ticket) := none_spelled _
theorem pinSeal (c : Nat) (ticket : Nat) : Statement (.pinSeal c ticket) := none_spelled _
theorem kdfCmac (c : Nat) (ticket : Nat) : Statement (.kdfCmac c ticket) := none_spelled _
theorem kbOpen (c : Nat) (ticket : Nat) : Statement (.kbOpen c ticket) := none_spelled _
theorem kopHash (c : Nat) (ticket : Nat) : Statement (.kopHash c ticket) := none_spelled _
theorem pkeRun (c : Nat) (ticket : Nat) : Statement (.pkeRun c ticket) := none_spelled _
theorem inRead (c : Nat) (ticket : Nat) : Statement (.inRead c ticket) := none_spelled _
theorem evuEvent (u : Nat) (src : Nat) (level : Bool) : Statement (.evuEvent u src level) := none_spelled _
theorem evuPendSet (c : Nat) (k : Nat) (v : Word) : Statement (.evuPendSet c k v) := none_spelled _
theorem fmpHello (node : Nat) (role : Nat) (scope : Nat) (index : Nat) (body : List Byte) : Statement (.fmpHello node role scope index body) := none_spelled _
theorem fmpFinish (node : Nat) (sigEc : List Byte) (sigPq : List Byte) : Statement (.fmpFinish node sigEc sigPq) := none_spelled _
theorem fmpAck (node : Nat) (xfer : Nat) (next : Nat) (status : Nat) : Statement (.fmpAck node xfer next status) := none_spelled _
theorem fmpAckTimeout (node : Nat) : Statement (.fmpAckTimeout node) := none_spelled _
theorem fmpPartialTimeout (node : Nat) (segs : Nat) : Statement (.fmpPartialTimeout node segs) := none_spelled _
theorem fmpHeartbeat : Statement (.fmpHeartbeat) := none_spelled _
theorem fmpBusOff (tec : Nat) (rec : Nat) : Statement (.fmpBusOff tec rec) := none_spelled _
theorem fmpDupNode : Statement (.fmpDupNode) := none_spelled _
theorem fmpHandshakeTimeout (node : Nat) : Statement (.fmpHandshakeTimeout node) := none_spelled _
theorem fmpLockoutEnd (node : Nat) : Statement (.fmpLockoutEnd node) := none_spelled _
theorem fmpIdleExpiry (sid : Nat) : Statement (.fmpIdleExpiry sid) := none_spelled _
theorem fmpPortRestart (path : Path) (v : Nat) : Statement (.fmpPortRestart path v) := none_spelled _
theorem read (path : Path) (index : Nat) (sub : Nat) (first : Bool) (offset : Nat) : Statement (.read path index sub first offset) := none_spelled _
theorem write (path : Path) (index : Nat) (sub : Nat) (pc : Piece) : Statement (.write path index sub pc) := none_spelled _
theorem info (path : Path) (index : Nat) (sub : Nat) : Statement (.info path index sub) := none_spelled _
theorem cancel (path : Path) : Statement (.cancel path) := none_spelled _
theorem close (path : Path) : Statement (.close path) := none_spelled _
theorem segmentTimeout (path : Path) : Statement (.segmentTimeout path) := none_spelled _
theorem qrmApprove (path : Path) (reqNo : Nat) (index : Nat) (sigEc : List Byte) (sigPq : List Byte) : Statement (.qrmApprove path reqNo index sigEc sigPq) := none_spelled _
theorem qrqWithdraw (path : Path) (slot : Nat) : Statement (.qrqWithdraw path slot) := none_spelled _
theorem quorumExpiry (slot : Nat) : Statement (.quorumExpiry slot) := none_spelled _
theorem cerOpen (path : Path) (value : List Byte) : Statement (.cerOpen path value) := none_spelled _
theorem cerComponent (path : Path) (value : List Byte) : Statement (.cerComponent path value) := none_spelled _
theorem cerConfirm (path : Path) (kcv : List Byte) : Statement (.cerConfirm path kcv) := none_spelled _
theorem cerAbort (path : Path) : Statement (.cerAbort path) := none_spelled _
theorem cerTimeout : Statement (.cerTimeout) := none_spelled _
theorem scriptImage (path : Path) (p : Nat) (slot : Nat) (image : List Byte) : Statement (.scriptImage path p slot image) := none_spelled _
theorem scriptRemove (path : Path) (p : Nat) (slot : Nat) : Statement (.scriptRemove path p slot) := none_spelled _
theorem fwUpdStart (path : Path) (total : Nat) : Statement (.fwUpdStart path total) := none_spelled _
theorem fwUpdData (path : Path) (data : List Byte) : Statement (.fwUpdData path data) := none_spelled _
theorem fwUpdActivate (path : Path) : Statement (.fwUpdActivate path) := none_spelled _
theorem fwReadyTimeout : Statement (.fwReadyTimeout) := none_spelled _
theorem fwSecverRaise : Statement (.fwSecverRaise) := none_spelled _
theorem lcTarget (path : Path) (k : Nat) : Statement (.lcTarget path k) := none_spelled _
theorem lcTransition : Statement (.lcTransition) := none_spelled _
theorem dbgRequest (path : Path) (scope : Nat) : Statement (.dbgRequest path scope) := none_spelled _
theorem dbgResponse (path : Path) (value : List Byte) : Statement (.dbgResponse path value) := none_spelled _
theorem dbgClose (path : Path) : Statement (.dbgClose path) := none_spelled _
theorem dbgChallengeExpiry : Statement (.dbgChallengeExpiry) := none_spelled _
theorem attStatement (path : Path) : Statement (.attStatement path) := none_spelled _
theorem tamperSample (src : Nat) (a : Reading) (b : Reading) : Statement (.tamperSample src a b) := none_spelled _
theorem nightsideBurst (rs : List BurstReading) : Statement (.nightsideBurst rs) := none_spelled _
theorem backupUndervoltage (mv : Nat) : Statement (.backupUndervoltage mv) := none_spelled _
theorem shadowMismatch (g : ShadowGroup) : Statement (.shadowMismatch g) := none_spelled _
theorem tmpHaltRelease (path : Path) : Statement (.tmpHaltRelease path) := none_spelled _
theorem rngHealthFail (sampler : Nat) (apt : Bool) : Statement (.rngHealthFail sampler apt) := none_spelled _
theorem conditionerBlock : Statement (.conditionerBlock) := none_spelled _
theorem rngStartupTestDone (r : StartupResult) : Statement (.rngStartupTestDone r) := none_spelled _
theorem drbgReseed (n : Nat) : Statement (.drbgReseed n) := none_spelled _
theorem rngReseedStall (n : Nat) : Statement (.rngReseedStall n) := none_spelled _
theorem rngRestart (path : Path) : Statement (.rngRestart path) := none_spelled _
theorem rngRawMode (path : Path) (on : Bool) : Statement (.rngRawMode path on) := none_spelled _
theorem rngRawData (path : Path) : Statement (.rngRawData path) := none_spelled _
theorem evrFlush : Statement (.evrFlush) := none_spelled _
theorem evrCarrier (code : Nat) : Statement (.evrCarrier code) := none_spelled _
theorem evrAnchor : Statement (.evrAnchor) := none_spelled _
theorem evrWallClock (path : Path) (ms : Nat) : Statement (.evrWallClock path ms) := none_spelled _
theorem evrRecords (path : Path) : Statement (.evrRecords path) := none_spelled _
theorem recorderMemFail (dev : Nat) : Statement (.recorderMemFail dev) := none_spelled _
theorem opTimeSave : Statement (.opTimeSave) := none_spelled _
theorem gateCompute (mv : Nat) : Statement (.gateCompute mv) := none_spelled _
theorem capacitanceMeasure (charge : Nat) (rise : Nat) (clean : Bool) : Statement (.capacitanceMeasure charge rise clean) := none_spelled _
theorem esrPulse (stepUv : Nat) : Statement (.esrPulse stepUv) := none_spelled _
theorem powerCapCheck (dw : Nat) : Statement (.powerCapCheck dw) := none_spelled _
theorem thermalPredict (diodes : List Int) (dw : Nat) : Statement (.thermalPredict diodes dw) := none_spelled _
theorem clockStep (t : Nat) (pke : Bool) : Statement (.clockStep t pke) := none_spelled _
theorem wearMeasure (t : Nat) (slack : List Int) (ro : List Nat) : Statement (.wearMeasure t slack ro) := none_spelled _
theorem wearPlan : Statement (.wearPlan) := none_spelled _
theorem wearPlanNow (path : Path) : Statement (.wearPlanNow path) := none_spelled _
theorem backupLoadTest (rest : Nat) (load : Nat) : Statement (.backupLoadTest rest load) := none_spelled _
theorem batReplaced (path : Path) : Statement (.batReplaced path) := none_spelled _
theorem tilePower (path : Path) (t : Nat) (v : Nat) : Statement (.tilePower path t v) := none_spelled _
theorem eclipseDecision (t : Nat) (wake : BitVec 3) : Statement (.eclipseDecision t wake) := none_spelled _
theorem tileWake (t : Nat) (src : BitVec 3) : Statement (.tileWake t src) := none_spelled _
theorem tileEnable (path : Path) (t : Nat) (v : Nat) : Statement (.tileEnable path t v) := none_spelled _
theorem tileReset (path : Path) (t : Nat) : Statement (.tileReset path t) := none_spelled _
theorem atbRaw (path : Path) (reading : Nat) : Statement (.atbRaw path reading) := none_spelled _
theorem measureDrift (top : Nat) (bot : Nat) : Statement (.measureDrift top bot) := none_spelled _
theorem bypass : Statement (.bypass) := none_spelled _
theorem idcode : Statement (.idcode) := none_spelled _
theorem samplePreload (cells : BitVec 32) : Statement (.samplePreload cells) := none_spelled _
theorem extest (cells : BitVec 32) : Statement (.extest cells) := none_spelled _
theorem avbDbg (op : DbgOp) : Statement (.avbDbg op) := none_spelled _
theorem avbAtb (sel : Nat) (reading : Nat) : Statement (.avbAtb sel reading) := none_spelled _
theorem perstDeassert (speed : Nat) (width : Nat) : Statement (.perstDeassert speed width) := none_spelled _
theorem linkRetraining (speed : Nat) (width : Nat) : Statement (.linkRetraining speed width) := none_spelled _
theorem adminFollowsOper (p : Nat) : Statement (.adminFollowsOper p) := none_spelled _
theorem svcOperationDone (agree : Bool) (slot : Nat) : Statement (.svcOperationDone agree slot) := none_spelled _
theorem rngEstimatePublish (sampler : Nat) (e : Estimates) : Statement (.rngEstimatePublish sampler e) := none_spelled _
theorem inputReadReturn (qp : Nat) (asn : Nat) (r : ReadResult) : Statement (.inputReadReturn qp asn r) := none_spelled _

end Sys2Proof.Laws.Shape
end

