-- ==== Sys2Proof/Machine/Leds.lean ====
section
/-!
DEFINITION. The bracket LEDs: each shows the first condition of its list that holds (17 R458, R466).
-/

namespace Sys2Proof.Machine

open Sys2Proof

/-- The status LED, green and amber (17 R466). -/
def statusLed (s : State) : LedColour × LedMode :=
  if !s.power.main then (.green, .dark)
  else if s.hif.failed || lifeCycle s == 6 then (.amber, .blink 4)
  else if !s.boot.booted || s.boot.step != 11 then (.amber, .blink 1)
  else if !s.hif.dpOpen then (.amber, .steady)
  else if s.power.gate != 0 then (.green, .blink 1)
  else (.green, .steady)

/-- The tamper LED, red (17 R466). -/
def tamperLed (s : State) : LedColour × LedMode :=
  (.red,
    if !s.power.main then .dark
    else if s.life.zeroised then .blink 4
    else if s.tamper.latch then .steady
    else if !s.tamper.seen.isEmpty then .blink 1
    else .dark)

/-- The custodian LED, blue (17 R466). -/
def custodianLed (s : State) : LedColour × LedMode :=
  (.blue,
    if !s.power.main then .dark
    else if debugScope s != 0 then .blink 4
    else if cerBusy s then .blink 1
    else if s.fmp.sessions.any (fun x => x.role == 2) then .steady
    else .dark)

end Sys2Proof.Machine
end

