-- ==== Sys2Proof/Machine/VaultRegion.lean ====
section
/-!
DEFINITION. The key-update area of the MRAM devices and the pages of the NAND images: where they hold what, and its bytes (07 R224 to R226,
R230).
-/

namespace Sys2Proof.Machine

open Sys2Proof

/-- The DDR5 offset of a physical slot's record in the working copy (07 R224). -/
def workingAddr (phys : Nat) : Nat := 256 * phys

/-- Line i of the key-update area (07 R225). -/
def lineAddr (i : Nat) : Nat := 0x0F188000 + 576 * i

/-- The page map entry of a logical page of an image (07 R225). -/
def mapEntryAddr (image page : Nat) : Nat := 0x0F108000 + 4 * (65536 * image + page)

/-- A page map entry: the physical page in [16:0] (07 R225). -/
def mapEntryBytes (m : Tbl Nat) (page : Nat) : List Byte := leBytes 4 (mapOf m page % 2 ^ 17)

/-- The area header: layout version, line count and checkpoint cursor, a word each (07 R225; log 83). -/
def areaHeader (s : State) : List Byte := leBytes 4 1 ++ leBytes 4 Config.numLines ++ leBytes 4 s.vault.rrCkpt

/-- A sealed record as its 256 bytes (07 R217). -/
def Sealed.bytes (x : Sealed) : List Byte := x.head ++ x.ct ++ x.tag

/-- A slot of a line: zeros where nothing was written. -/
def slotArea (x : Option Sealed) : List Byte :=
  match x with
  | some v => fit 256 v.bytes
  | none => zeros 256

/-- A line as a device holds it (07 R226). -/
def lineBytes (l : Line) : List Byte :=
  leBytes 8 l.commit ++ leBytes 8 l.ckpt ++ leBytes 8 l.isnA ++ leBytes 8 l.isnB ++ leBytes 4 l.slot ++
    leBytes 2 (l.part % 4096 + 4096 * l.kind) ++ zeros 26 ++ slotArea l.slotA ++ slotArea l.slotB

/-- A logical page of an image: its 64 slots (07 R230). -/
def pageBytes (img : Tbl Sealed) (page : Nat) : List Byte := (List.range 64).flatMap (fun i => slotArea (tblFind img (64 * page + i)))

/-- VER of a slot of an image, 0 where it was never written. -/
def imageVer (img : Tbl Sealed) (phys : Nat) : Nat :=
  match tblFind img phys with
  | some x => x.ver
  | none => 0

/-- The spare area of a programmed page: logical page number, image, the VER of every slot and a CRC-32C over them (07 R230; log 83). -/
def spareBytes (img : Tbl Sealed) (image page : Nat) : List Byte :=
  let b := leBytes 4 page ++ leBytes 4 image ++ (List.range 64).flatMap (fun i => leBytes 8 (imageVer img (64 * page + i)))
  b ++ leBytes 4 (crc32c b)

end Sys2Proof.Machine
end

