-- ==== Sys2Proof/Tests/Slice0.lean ====
section
/-!
SUPPORT. Tests: the ill-formed terms that the well-formedness check refuses, expected values from the spec, and for each statement
a state and operands that meet its hypotheses.
-/

namespace Sys2Proof.Tests

open Sys2Proof Sys2Proof.Machine

/-- A state whose queue holds two commands, for the hypothesis of StepRunsTheFrontCommand. -/
theorem test_two_commands_wait :
    ({ State.reset with pending := [.mbxSubmit, .mbxAbort] } : State).pending = .mbxSubmit :: [.mbxAbort] := rfl

/-- The reset state waits for nothing: the hypothesis of IdleStepIsOneMicrosecond. -/
theorem test_reset_waits : State.reset.pending = [] := rfl

/-- A command that answers a next state: the hypothesis of ExecLeavesTheQueueAlone. -/
theorem test_exec_answers_next : ∃ t, exec .mbxSubmit State.reset = .next t := ⟨_, rfl⟩

/-- Core 65 after reset runs the word at its pc, with either carry: the hypotheses of the statements about words. -/
theorem test_mgmt_core_runs : Runs State.mgmtRuns 65 ∧ named [0, 8, 24] ∧ (coreOf State.mgmtRuns 65).ctl.c = false := by
  unfold Runs named; decide

/-- The same with the carry set. -/
theorem test_mgmt_core_runs_with_carry :
    let s := modCore State.mgmtRuns 65 (fun k => { k with ctl := { k.ctl with c := true } })
    Runs s 65 ∧ named [24, 0, 23] ∧ (coreOf s 65).ctl.c = true := by
  unfold Runs named; decide

/-- A count at each end of its range, with what test_mgmt_core_runs gives: the last hypothesis of
ShiftsAndRotatesFollowTheCount. -/
theorem test_shift_counts : (0 : BitVec 14).toNat < 32 ∧ (31 : BitVec 14).toNat < 32 := by decide

/-- A register that is zero and one that is not, on a core that runs: the two cases of DivisionsNeverTrap. -/
theorem test_divisors :
    let s := modCore State.mgmtRuns 65 (fun k => writeReg k 1 5)
    Runs s 65 ∧ reg (coreOf s 65) 0 = 0 ∧ reg (coreOf s 65) 1 ≠ 0 := by
  unfold Runs; decide

/-- The bytes of the ASCII string 123456789, for the check values of 09 R296. -/
def crcText : List Byte := [0x31, 0x32, 0x33, 0x34, 0x35, 0x36, 0x37, 0x38, 0x39]

set_option maxRecDepth 10000 in
/-- With PRESET 1 and an initial value of 0xFFFF the result is 0x29B1 (09 R296). -/
theorem test_crc_ccitt : crcSteps (crWrite CoreCtl.reset 1 0x40) 0xFFFF crcText = 0x29B1 := by decide

set_option maxRecDepth 10000 in
/-- With PRESET 2, an initial value of all ones and a final exclusive or of all ones the result is 0xE3069283
(09 R296). -/
theorem test_crc_32c : crcSteps (crWrite CoreCtl.reset 1 0x80) 0xFFFFFFFF crcText ^^^ 0xFFFFFFFF = 0xE3069283 := by decide

/-- A digit and a SUM at each side of 9, on a core that runs: the cases of LuhnAndDecimalisationSteps. -/
theorem test_luhn_cases :
    let s := modCore State.mgmtRuns 65 (fun k => writeReg (writeReg (writeReg k 1 9) 2 10) 3 0x19)
    Runs s 65 ∧ named [1, 2] ∧ (reg (coreOf s 65) 1).toNat % 16 ≤ 9 ∧ 9 < (reg (coreOf s 65) 2).toNat % 16 ∧
      (reg (coreOf s 65) 3).toNat / 16 % 2 = 1 := by
  unfold Runs named; decide

set_option maxRecDepth 10000 in
/-- Digits 6 and 9 of the PAN of the example after 09 R298, the second one doubled: SUM 5, ODD clear. -/
theorem test_luhn_two_digits : (aluLuhn (aluLuhn 0 6).1 9).1 = 0x05 := by decide

/-- The pair of the example after 09 R298 is legal and its reverse is not: both kinds of pair of
DependentPairsFaultBeforeAnythingElse. -/
theorem test_pair_of_the_example :
    let luhn : Short := { sop := 28, rd := 1, x := 11 }
    let shri : Short := { sop := 14, rd := 11, x := 4 }
    (writesReg shri 11 ∧ readsReg luhn 11) ∧ pairDependent shri luhn = true ∧ pairDependent luhn shri = false ∧
      shortRow 65 28 (.slotA 1 11 shri) = some (.luhn 65 (.slotA 1 11 shri)) ∧
      shortRow 65 14 (.slotB luhn 11 4) = some (.shri 65 (.short (.slotB luhn 11 4))) := by
  refine ⟨⟨.inl ⟨?_, rfl⟩, .inr (.inl ⟨?_, rfl⟩)⟩, by decide, by decide, rfl, rfl⟩
  · show (14 : Nat) ∈ _; decide
  · show (28 : Nat) ∈ _; decide

/-- The last word, halfword and byte of data memory, a zero address, and an empty data stack one word below the top: the
hypotheses of LoadsReadDataMemory and of the statements about stores and the stack. -/
theorem test_data_addresses :
    let s := modCore State.mgmtRuns 65 (fun k => writeReg (writeReg k 1 0x3FFFC) 24 0x3FFFC)
    Runs s 65 ∧ named [0, 1] ∧ accessAddr (coreOf s 65) 1 0 = 0x3FFFC ∧ accessAddr (coreOf s 65) 1 3 < dataBytes 65 ∧
      accessAddr (coreOf s 65) 0 0 = 0 ∧ (coreOf s 65).ds.toNat % 4 = 0 ∧ (coreOf s 65).ds.toNat < dataBytes 65 ∧
      Memory.wf (coreOf s 65).mem = true := by
  unfold Runs named; decide

/-- An odd ds, a ds of 0 (the word below is outside) and a ds past the end: the faulting cases of
PushAndPopUseTheDataStack. -/
theorem test_bad_stacks :
    let s (v : Word) := modCore State.mgmtRuns 65 (fun k => { k with ds := v })
    (Runs (s 2) 65 ∧ (coreOf (s 2) 65).ds.toNat % 4 ≠ 0) ∧ (Runs (s 0) 65 ∧ dataBytes 65 ≤ ((coreOf (s 0) 65).ds - 4).toNat) ∧
      (Runs (s 0x40000) 65 ∧ dataBytes 65 ≤ (coreOf (s 0x40000) 65).ds.toNat ∧
        ((coreOf (s 0x40000) 65).ds - 4).toNat < dataBytes 65) := by
  unfold Runs; decide

/-- A script core 3 of tile 0 with a descriptor, a misaligned address, one between the ranges and one in the event vector
unit's window: the cases of AccessesOffTheMapFault. -/
theorem test_addresses_off_the_map :
    let e : Entry := { Entry.fresh 5 0 0 [] with tile := some 0 }
    let k : EloaCore := { EloaCore.script with ctl := { CoreCtl.reset with budget := 10 }, desc := some (5, 0), g := [(1, 0x2002), (2, 0x10000)] }
    let s : State := { State.reset with entries := [e], cores := [(3, k)] }
    Runs s 3 ∧ accessAddr (coreOf s 3) 1 0 % 4 ≠ 0 ∧ ¬ onMap 3 (accessAddr (coreOf s 3) 1 2) ∧
      accessAddr (coreOf s 3) 1 2 % 4 = 0 ∧ accessAddr (coreOf s 3) 2 0 = 0x10000 := by
  unfold Runs onMap; decide

/-- Return stacks of 0, 31 and 32 addresses on a core that runs: the cases of CallsAndReturnsMoveTheWindow. -/
theorem test_return_stacks :
    let s (n : Nat) := modCore State.mgmtRuns 65 (fun k => { k with ret := List.replicate n 4, f := n })
    Runs (s 0) 65 ∧ (coreOf (s 0) 65).ret = [] ∧ Runs (s 31) 65 ∧ (coreOf (s 31) 65).ret.length < 32 ∧ Runs (s 32) 65 ∧
      32 ≤ (coreOf (s 32) 65).ret.length := by
  unfold Runs; decide

/-- From the state of 09 R282 calls 1 to 14 spill nothing and call 15 costs 18 cycles (09 R284). -/
theorem test_call_fifteen :
    let up (k : EloaCore) := addCycles (slideUp k 1) 2
    let k14 := (List.range 14).foldl (fun k _ => up k) EloaCore.script
    k14.ctl.cycle = 28 ∧ (up k14).ctl.cycle = 46 ∧ (up k14).b = 1 := by decide

/-- A script core 3 that runs a descriptor and a management core: registers that each may and may not reach, for the cases
of ControlRegistersFollowTheirTable. -/
theorem test_control_register_rights :
    let e : Entry := { Entry.fresh 5 0 0 [] with tile := some 0 }
    let s : State := { State.reset with entries := [e], cores := [(3, { EloaCore.script with ctl := { CoreCtl.reset with budget := 10 }, desc := some (5, 0) })] }
    Runs s 3 ∧ mayReadCr 3 8 ∧ ¬ mayReadCr 3 9 ∧ mayWriteCr 3 4 ∧ ¬ mayWriteCr 3 5 ∧ mayReadCr 65 13 ∧ mayWriteCr 65 13 ∧
      ¬ mayWriteCr 65 11 ∧ (controlWords (coreOf s 3) 3)[9]? = some 0xFFFFFFFF ∧ 13 < (14 : Reg).toNat := by
  unfold Runs mayReadCr mayWriteCr; decide

/-- A management core in a fault handler and in an interrupt handler: the cases of ReturnFromInterruptRestoresTheContext. -/
theorem test_handlers :
    let x (n : Nat) : ICtx := { pc := 8, flags := 1, f := 0, runpri := 31, source := n }
    let s (n : Nat) := modCore State.mgmtRuns 65 (fun k => { k with ictx := [x n], f := 2 })
    Runs (s 256) 65 ∧ (coreOf (s 256) 65).ictx = [x 256] ∧ Runs (s 5) 65 ∧ (coreOf (s 5) 65).ictx = [x 5] ∧
      selectSource (handlerEnded (s 5) 65 (x 5)) 16 1 = none ∧ Runs State.mgmtRuns 65 ∧ (coreOf State.mgmtRuns 65).ictx = [] := by
  unfold Runs; decide

/-- A handler of source 5 ends while source 9 waits for the same core: the last case. -/
theorem test_handler_taken_again :
    let x : ICtx := { pc := 8, flags := 1, f := 0, runpri := 31, source := 5 }
    let on : EvuSrc := { sense := 2, mask := false, prio := 3, target := 1, level := false }
    let m : Evu := { cfg := [(9, on)], pend := [9], active := [5], cores := [(1, { EvuCore.reset with thresh := 0, runpri := 4 })] }
    let s : State := { modCore State.mgmtRuns 65 (fun k => { k with ictx := [x], f := 2 }) with evus := [(16, m)] }
    Runs s 65 ∧ (coreOf s 65).ictx = [x] ∧ selectSource (handlerEnded s 65 x) 16 1 = some 9 := by
  unfold Runs; decide

/-- A register field of 25 names none, on a core that runs (test_mgmt_core_runs): the hypotheses of
UndefinedRegistersFault. -/
theorem test_register_25 : ¬ named [25, 0, 0] ∧ ¬ named [0, 31] ∧ ¬ named [25] ∧ 32 ≤ (32 : BitVec 14).toNat := by
  unfold named; decide

/-- A management core that runs with one return address, and a control register it may read and write: the hypotheses of
RegisterWordsTouchNothingElse. -/
theorem test_frame_premises :
    let s := modCore State.mgmtRuns 65 (fun k => { k with ret := [4], f := 1 })
    Runs s 65 ∧ named [0, 8, 24] ∧ (31 : BitVec 14).toNat < 32 ∧ mayReadCr 65 (13 : Reg).toNat ∧ mayWriteCr 65 (13 : Reg).toNat ∧
      0 < (coreOf s 65).ret.length ∧ (coreOf s 65).ret.length < 32 ∧ ∃ t, exec (.nop 65 .long) s = .next t := by
  refine ⟨by unfold Runs; decide, by unfold named; decide, by decide, by unfold mayReadCr; decide,
    by unfold mayWriteCr; decide, by decide, by decide, ⟨_, rfl⟩⟩

/-- A KOP_HASH block at address 0 of a script core's data memory, its address in register 2. -/
def kopState (c : Nat) (block : List Byte) (tickets : List Ticket) (a : Word) : State :=
  let e : Entry := { Entry.fresh 5 0 0 [] with tile := some (c / 4) }
  let k : EloaCore := { EloaCore.script with ctl := { CoreCtl.reset with budget := 10 }, desc := some (5, 0), mem := Memory.write [] 0 block, tickets := tickets, g := [(2, a)] }
  { State.reset with entries := [e], cores := [(c, k)] }

/-- A step of the hash unit that has not fired. -/
def hashTicket : Ticket :=
  { func := 0x50, key := 0, inA := none, inB := none, inline := [1], sensOut := false, param := 1, stage := 0, held := none, tok := none, arrived := false }

/-- A block for KOP_HASH that names no ticket, one that names ticket 0, and each address and number of tickets at which a
check of KopIssuesAStep changes its answer; on S3 sixteen steps with one entry each. -/
theorem test_kop_blocks :
    let good : List Byte := [0xFF, 0xFF, 0xFF, 0xFF, 1, 0, 1, 0, 7]
    let names : List Byte := [0, 0, 0xFF, 0xFF, 0, 0, 1, 0]
    let a (s : State) (n : Nat) := (reg (coreOf s n) 2).toNat
    let k (s : State) (n : Nat) := (coreOf s n).tickets.length
    Runs (kopState 0 good [] 0) 0 ∧ kopArgsOk (ticketOf 0x50 0 (good ++ zeros 31)) false = true ∧
      kopArgsOk (ticketOf 0x51 0 (good ++ zeros 31)) false = false ∧
      (ticketOf 0x50 0 (names ++ zeros 32)).waitsFor = [0] ∧ Runs (kopState 0 names [] 0) 0 ∧ k (kopState 0 names [] 0) 0 = 0 ∧
      Runs (kopState 0 good (List.replicate 64 hashTicket) 0) 0 ∧ k (kopState 0 good (List.replicate 64 hashTicket) 0) 0 = 64 ∧
      Runs (kopState 0 good [] 4) 0 ∧ a (kopState 0 good [] 4) 0 % 8 ≠ 0 ∧
      Runs (kopState 0 good [] 0x1FE0) 0 ∧ 0x2000 < a (kopState 0 good [] 0x1FE0) 0 + 40 ∧
      Runs (kopState 3 good (List.replicate 16 hashTicket) 0) 3 ∧
      16 < operandsHeld (coreOf (kopState 3 good (List.replicate 16 hashTicket) 0) 3) + operandCount hashTicket := by
  unfold Runs; decide

/-- Tokens that have arrived (plain and sensitive), one that has not, and a DRBG in each of its states, on a script core
that runs or waits: the cases of TokensAndRandomWordsReachScripts. -/
theorem test_tokens :
    let tok (b : Bool) : Token :=
      { ctx := 0, step := 0, opnd := 0, colour := 0, status := 0, kind := 0, sens := b, value := [1, 2, 3], name := none }
    let tk (b c : Bool) : Ticket := { hashTicket with tok := some (tok b), arrived := c }
    let s (a : Word) := kopState 0 [] [tk false true, tk true true, tk false false] a
    let r (x : Nat) : State := { s 0 with rng := { (s 0).rng with state := x, drbg := [(0, { Drbg.reset with state := 1 })] } }
    let b : State := { s 0 with rng := { (s 0).rng with state := 2 } }
    let w : State := modCore (s 0) 0 (fun k => { k with wait := .waitt 4 2 })
    Runs (s 0) 0 ∧ named [0, 1, 2] ∧ (coreOf (s 0) 0).tickets[0]? = some (tk false true) ∧ (reg (coreOf (s 0) 0) 2).toNat = 0 ∧
      Runs (s 1) 0 ∧ (coreOf (s 1) 0).tickets[(reg (coreOf (s 1) 0) 2).toNat]? = some (tk true true) ∧
      Runs (s 0x1FFE) 0 ∧ 0x2000 < (reg (coreOf (s 0x1FFE) 0) 2).toNat + 3 ∧
      Runs (s 2) 0 ∧ (coreOf (s 2) 0).tickets[(reg (coreOf (s 2) 0) 2).toNat]? = some (tk false false) ∧
      Runs (r 1) 0 ∧ (drbgOf (r 1) 0).state = 1 ∧ (drbgOf (r 1) 0).out < 2 ^ 30 ∧ Runs b 0 ∧ (drbgOf b 0).state = 0 ∧
      Runs State.mgmtRuns 65 ∧ (drbgOf State.mgmtRuns 4).state = 0 ∧ State.mgmtRuns.rng.state ≠ 2 ∧ State.mgmtRuns.rng.state ≠ 3 ∧
      (coreOf w 0).wait = .waitt 4 2 ∧ (coreOf w 0).tickets[2]? = some (tk false false) ∧ w.tamper.halt = false := by
  unfold Runs named; decide

/-- No source of a tile's unit is enabled after reset: the last hypothesis of the clause on TOKEN_ARRIVAL. -/
theorem test_sources_masked : ∀ n, (srcOf State.reset 0 n).mask = true := by
  intro n; rfl

/-- Core 3 runs the script of descriptor 0 of queue pair 5, with or without a commit unit, its budget at n and a result block
at a. -/
def endState (se : Bool) (n : Nat) (block : List Byte) (tickets : List Ticket) (a : Word) : State × Entry :=
  let e : Entry := { Entry.fresh 5 0 0 [] with tile := some 0, script := .core 3, se := se, budget := 4 }
  let k : EloaCore := { EloaCore.script with
    desc := some (5, 0), mem := Memory.write [] 0 block, tickets := tickets, g := [(2, a)], ctl := { CoreCtl.reset with budget := n } }
  ({ State.reset with entries := [e], cores := [(3, k)] }, e)

/-- Both kinds of descriptor, and a block whose two result bytes lie at 0x1000: cases of ScriptsEndWithOneCompletion. -/
theorem test_script_ends :
    let b : List Byte := [0, 0, 7, 0, 2, 0, 0, 0, 0, 0x10, 0, 0]
    let s (se : Bool) := endState se 4 b [] 0
    Runs (s false).1 3 ∧ coreHolds (s false).1 3 (s false).2 ∧ Runs (s true).1 3 ∧ coreHolds (s true).1 3 (s true).2 ∧
      Memory.read (coreOf (s true).1 3).mem 0 16 = b ++ zeros 4 := by
  unfold Runs coreHolds; decide

/-- A block that is not aligned, one past the end of data memory, a step that has not delivered, and a budget used up: the
other cases of ScriptsEndWithOneCompletion. -/
theorem test_script_waits :
    let s (n : Nat) (t : List Ticket) (a : Word) := endState true n [] t a
    (Runs (s 4 [] 4).1 3 ∧ coreHolds (s 4 [] 4).1 3 (s 4 [] 4).2) ∧
      (Runs (s 4 [] 0x1FF8).1 3 ∧ 0x2000 < (reg (coreOf (s 4 [] 0x1FF8).1 3) 2).toNat + 16) ∧
      (Runs (s 4 [hashTicket] 0).1 3 ∧ hashTicket.arrived = false) ∧
      (coreHolds (s 0 [] 0).1 3 (s 0 [] 0).2 ∧ (coreOf (s 0 [] 0).1 3).ctl.budget = 0 ∧ (s 0 [] 0).2.cpl = none) := by
  unfold Runs coreHolds; decide

/-- The key that ticket 0 of a script core has made ready: AES-128 with the given usage. -/
def stepKey (usage : Nat) : KeyRec := { KeyRec.reset with alg := 0x10, usage := usage, keyLen := 16, mat := zeros 16 }

/-- Ticket 0 holds a key with that usage, ticket 1 a token of 16 zero bytes, and ticket 2 is the step tk, whose key is that of
ticket 0. -/
def stepState (k : KeyRec) (tk : Ticket) : State × Entry :=
  let d : Ticket := { hashTicket with arrived := true }
  let n : CacheName := .transient 5 0 1
  let o : Token := blankTok State.reset (Entry.fresh 5 0 0 []) 0
  let s := kopState 0 [] [{ d with tok := some { o with kind := 1, name := some n } }, { d with tok := some { o with sens := true } }, tk] 0
  let e : Entry := { Entry.fresh 5 0 0 [] with
    tile := some 0, script := .core 0, input := some { ins := [], outs := [], data := List.replicate 40 0x30 } }
  let ent : CacheEnt := { colour := 0, name := n, blocks := 2, pins := [(5, 0)], pending := none, filled := true, hashes := [],
                          key := k }
  let pin : List Byte := [0x14, 0x12, 0x34] ++ zeros 5
  ({ s with entries := [e], tiles := [(0, { Tile.reset with pke0 := { PkeCore.reset with loaded := true } })], tmem := [(0, { TileMem.reset with cache := [ent], sens := [⟨5, 0, 1, pin⟩] })] }, e)

/-- A step with its key in ticket 0. -/
def keyedTicket (func param : Nat) (a : Option Nat) (inline : List Byte) : Ticket :=
  { hashTicket with func := func, param := param, key := 0xFFFFFFFF00000000, inA := a, inline := inline }

/-- The step of a ticket is ready, its key is held, and an engine takes it. -/
def heldFor (f : Nat) (k : KeyRec) (tk : Ticket) (n : KeyNeed) (alg : Nat → Bool) : Prop :=
  let s := (stepState k tk).1
  let e := (stepState k tk).2
  kopMayFire s 0 2 f e tk ∧ ∃ s', keyHeld s s' 0 2 e tk n alg k

/-- A block cipher step, a MAC and its check, and a step on a clear PIN field are ready and have their key: clauses of
StepsEmitTheirToken. -/
theorem test_keyed_steps :
    let t1 := keyedTicket 0x001 0 none (zeros 16)
    let t2 := keyedTicket 0x010 8 none [1, 2, 3]
    let t3 := keyedTicket 0x021 1 (some 1) (List.replicate 10 0xFF)
    (heldFor 0x001 (stepKey (2 ^ uEnc)) t1 (.use uEnc) blockAlg ∧ t1.inline.length = (stepKey (2 ^ uEnc)).cipher.size) ∧
      heldFor 0x010 (stepKey (2 ^ uMacGen)) t2 (.use uMacGen) blockAlg ∧
      sensIn (stepState (stepKey (2 ^ uPinXlate)) t3).1 0 t3.inA = true := by
  refine ⟨⟨⟨⟨by decide, rfl, rfl⟩, _, _, rfl, _, rfl⟩, rfl⟩,
    ⟨⟨by decide, rfl, rfl⟩, _, _, rfl, _, rfl⟩, by decide⟩

/-- A hash, an op-list without a key and a read of the input list are ready, and a step whose input failed is not: the
other clauses of StepsEmitTheirToken. -/
theorem test_plain_steps :
    let s (tk : Ticket) := (stepState (stepKey 0) tk).1
    let e := (stepState (stepKey 0) hashTicket).2
    let p : Ticket := { hashTicket with func := 0x060 }
    let r (n : Nat) : Ticket := { hashTicket with func := 0x070, inline := [39, 0, 0, 0], param := n }
    let bad : Ticket := { hashTicket with inA := some 0 }
    let t (x : State) := modCore x 0 (fun k => { k with tickets := k.tickets.map (fun y =>
      if y.tok.isSome then { y with tok := some { blankTok x e 0 with status := 9, kind := 2 } } else y) })
    let ready (tk : Ticket) (f : Nat) : Prop := kopMayFire (s tk) 0 2 f e tk ∧ ∃ u, engineTakes (s tk) u 0 2 e tk
    ready hashTicket 0x050 ∧ ready p 0x060 ∧ ready (r 1) 0x070 ∧ ready (r 2) 0x070 ∧ inputReady e = true ∧
      (kopReady (t (s bad)) 0 2 0x050 = some (e, bad) ∧ inputFailed (coreOf (t (s bad)) 0) bad = some 9) := by
  refine ⟨⟨⟨by decide, rfl, rfl⟩, _, _, rfl⟩, ⟨⟨by decide, rfl, rfl⟩, _, _, rfl⟩, ⟨⟨by decide, rfl, rfl⟩, _, _, rfl⟩,
    ⟨⟨by decide, rfl, rfl⟩, _, _, rfl⟩, by decide, rfl, rfl⟩

/-- Deciphering with either output, both HMACs and the check of a CMAC, KDF_CMAC, PIN_OPEN and an op-list with a key have
their keys: the remaining keyed clauses of StepsEmitTheirToken, KB_OPEN aside. -/
theorem test_more_keyed_steps :
    let hk (u : Nat) : KeyRec := { stepKey (2 ^ u) with alg := 0x20, keyLen := 20 }
    let tk (u : Nat) : KeyRec := { stepKey (2 ^ u) with alg := 0x01 }
    heldFor 0x002 (stepKey (2 ^ uDec)) (keyedTicket 0x002 0 none (zeros 16)) (.use uDec) blockAlg ∧
      heldFor 0x002 (stepKey (2 ^ uDec)) { keyedTicket 0x002 0 none (zeros 16) with sensOut := true } (.use uDec) blockAlg ∧
      heldFor 0x011 (stepKey (2 ^ uMacVer)) (keyedTicket 0x011 4 none [1]) (.use uMacVer) blockAlg ∧
      heldFor 0x012 (hk uMacGen) (keyedTicket 0x012 0x320 none [1]) (.use uMacGen) (· == 0x20) ∧
      heldFor 0x013 (hk uMacVer) (keyedTicket 0x013 0x00A none [1]) (.use uMacVer) (· == 0x20) ∧
      heldFor 0x020 (tk uPinXlate) (keyedTicket 0x020 1 none (zeros 16 ++ List.replicate 10 0xFF)) .pinIn (fmtAlg 1) ∧
      heldFor 0x030 (stepKey (2 ^ uDerive)) (keyedTicket 0x030 1 none [1]) (.use uDerive) blockAlg ∧
      heldFor 0x030 (stepKey (2 ^ uDerive)) (keyedTicket 0x030 1 none [1]) (.use uDerive) blockAlg := by
  refine ⟨?_, ?_, ?_, ?_, ?_, ?_, ?_, ?_⟩ <;>
    exact ⟨⟨by decide, rfl, rfl⟩, _, _, rfl, _, rfl⟩

/-- A key with every usage serves any op-list. -/
theorem usages_serve (no : Nat) : usageOk (oplistNeed no) (stepKey 0xFFF) = true := by
  have h : ∀ u < 12, bit (stepKey 0xFFF).usage u = true := by decide
  cases hl : (oplistNeed no).usages with
  | nil => simp [usageOk, hl]; rfl
  | cons u l =>
    have hu : u ∈ (oplistNeed no).usages := by simp [hl]
    have hu' : u < 12 := by simp [oplistNeed] at hu; exact hu.1
    simp [usageOk, hl, h u hu']; rfl

/-- An op-list with a key runs: the clause of PKE_RUN with a key. -/
theorem test_keyed_oplist : heldFor 0x060 (stepKey 0xFFF) (keyedTicket 0x060 1 none [1]) (oplistNeed 1) anyAlg := by
  refine ⟨⟨by decide, rfl, rfl⟩, _, (stepState (stepKey 0xFFF) (keyedTicket 0x060 1 none [1])).1, ?_, _, rfl⟩
  show kopHold _ _ _ _ _ _ = _
  simp only [kopHold, kopKey]
  rw [show keyTicket (keyedTicket 0x060 1 none [1]).key = some 0 from by decide]
  dsimp only
  rw [show ((tickOf (coreOf (stepState (stepKey 0xFFF) (keyedTicket 0x060 1 none [1])).1 0) 0).bind (fun x => x.tok)).bind
    (readyKey (stepState (stepKey 0xFFF) (keyedTicket 0x060 1 none [1])).1
      ((stepState (stepKey 0xFFF) (keyedTicket 0x060 1 none [1])).2.tile.getD 0)) = some (stepKey 0xFFF) from rfl]
  simp [usages_serve, anyAlg]

set_option maxRecDepth 100000 in
/-- A PIN block that opens to the clear field of stepState, and a sealed one: the hypotheses on the field in the clauses of
PIN_OPEN and PIN_SEAL. -/
theorem test_pin_steps :
    let c := ({ stepKey 1 with alg := 0x01 } : KeyRec).cipher
    let field : List Byte := [0x14, 0x12, 0x34] ++ zeros 5
    let block : List Byte := [0x39, 0x0E, 0x9E, 0xC0, 0xA3, 0xE3, 0xD4, 0xA0]
    pinOpenField 1 c [] block = field ∧ pinFieldBad 1 field = none ∧ (nibbles (slice field 0 1)).getD 0 0 = 1 ∧
      kopPan 1 (List.replicate 10 0xFF) = some [] := by
  decide

/-- A partition with room in the tile's cache: the hypothesis of the clause of KDF_CMAC. -/
theorem test_room_for_a_derived_key :
    let x := stepState (stepKey (2 ^ uDerive)) (keyedTicket 0x030 1 none [1])
    let s : State := { x.1 with parts := [(0, { Part.reset with quota := [(0, 4)] })] }
    (cacheFor s x.2 (fun m => { m with cache := stepEntry 0 x.2 (.transient 5 0 3) (stepKey 1) :: m.cache })).isSome = true ∧
      2 ≤ tblGet 0 (partOf s 0).quota x.2.quarter ∧ kopMayFire s 0 2 0x030 x.2 (keyedTicket 0x030 1 none [1]) := by
  refine ⟨by decide, by decide, by decide, rfl, rfl⟩

set_option maxRecDepth 100000 in
/-- A key block of 16 bytes at offset 24 of the input list that the tile holds: the clause of KB_OPEN. -/
theorem test_block_at_hand :
    let tk := keyedTicket 0x040 0 none [0, 0, 0, 0]
    let x := stepState (stepKey (2 ^ uUnwrap)) tk
    let blk : List Byte := [0x42, 0x30, 0x30, 0x31, 0x36] ++ List.replicate 11 0x30
    let e : Entry := { x.2 with input := some { ins := [], outs := [], data := blk } }
    let ent : CacheEnt := { colour := 0, name := .block (sha3_256 blk) 0, blocks := 2, pins := [], pending := none,
                            filled := true, hashes := [], key := stepKey 1 }
    let s : State := { modTmem x.1 0 (fun m => { m with cache := ent :: m.cache }) with entries := [e] }
    (kopMayFire s 0 2 0x040 e tk ∧ ∃ s', keyHeld s s' 0 2 e tk (.use uUnwrap) anyAlg (stepKey (2 ^ uUnwrap))) ∧
      slice blk 0 (blkLen blk) = blk ∧ findBlock (tmemOf s 0) 0 0 0 (sha3_256 blk) = some ent := by
  refine ⟨⟨⟨by decide, rfl, rfl⟩, _, _, rfl, _, rfl⟩, by decide, by decide⟩

/-- Unit 0 with a source of each sense in order, and the rest as after reset. -/
def eventUnit (m : Bool) : Evu :=
  let src (sense : Nat) (m : Bool) : EvuSrc := { sense := sense, mask := m, prio := 3, target := 0, level := false }
  { cfg := [(0, src 2 m), (1, src 3 true), (2, src 4 true)], pend := [], active := [],
    cores := [(0, { EvuCore.reset with thresh := 2 })] }

/-- Core 0 runs a descriptor in a tile with that unit. -/
def eventState (m : Bool) : State := { kopState 0 [] [] 0 with evus := [(0, eventUnit m)] }

/-- Every source of the unit is masked, or the first alone is not, and all are edge sources. -/
theorem test_event_sources : allMasked (eventState true) 0 ∧ ∀ m i, 2 ≤ (srcOf (eventState m) 0 i).sense := by
  refine ⟨fun n => ?_, fun m n => ?_⟩
  · match n with
    | 0 => rfl
    | 1 => rfl
    | 2 => rfl
    | n + 3 => rfl
  · match n with
    | 0 => cases m <;> decide
    | 1 => cases m <;> decide
    | 2 => cases m <;> decide
    | n + 3 => exact Nat.le_refl 2

/-- The other hypotheses of the three clauses of EventsBecomePendingAndAreDelivered. -/
theorem test_events :
    let s := eventState false
    (evuOf (eventState true) 0).pend.Pairwise (· < ·) ∧ sourceListed 0 33 = true ∧ (srcOf (eventState true) 0 33).sense ≤ 4 ∧
      (coreOf s 0).stopped = false ∧ (coreOf s 0).dbg = 0 ∧ (coreOf s 0).desc.isSome = true ∧ (evuOf s 0).pend = [] ∧
      0 ∉ (evuOf s 0).active ∧ (srcOf s 0 0).sense = 2 ∧ (srcOf s 0 0).level = false ∧ (srcOf s 0 0).mask = false ∧
      (srcOf s 0 0).target = 0 ∧ (evuCoreOf s 0 0).runpri = 31 ∧ (evuCoreOf s 0 0).thresh < (srcOf s 0 0).prio := by decide

/-- A descriptor of a command with CMD_PARAM p and n inline bytes b. -/
def mkDesc (code p n : Nat) (b : List Byte) : List Byte :=
  splice (splice (splice (splice (zeros 128) 0 (leBytes 2 code)) 4 (leBytes 1 n)) 0x38 (leBytes 8 p)) 0x40 b

/-- A module that runs descriptor 0 of queue pair 5 in tile 0 with everything in place for its work. -/
def dataState (desc : List Byte) : State × Entry :=
  let e : Entry := { Entry.fresh 5 0 0 desc with
    tile := some 0, keysReady := [0, 1, 2, 3], grant := true, script := .core 3, steps := templateSteps (dCmd desc) }
  ({ State.reset with entries := [e] }, e)

/-- What a piece of work ends in, by number. -/
def resNumber (r : Res) : Nat :=
  match r with
  | .fail _ _ => 0
  | .fin _ => 1
  | .commit _ _ => 2
  | .wait => 3

set_option maxRecDepth 20000 in
/-- TRY_COUNTER_READ ends well and, with a length that is not 0, fails; TRY_COUNTER_RESET commits: three cases of
DataCommandsAreAnswered. -/
theorem test_data_outcomes :
    let st (code n : Nat) := dataState (mkDesc code 0 n [])
    let ends (code n : Nat) (w : Work) : Nat := resNumber (w (st code n).1 (ctxOf (st code n).1 (st code n).2)).1
    (dataReady (st 0x0F12 0).1 5 0 0x0F12 (st 0x0F12 0).2 ∧ ends 0x0F12 0 tryCounterReadBody = 1) ∧
      (dataReady (st 0x0F12 1).1 5 0 0x0F12 (st 0x0F12 1).2 ∧ ends 0x0F12 1 tryCounterReadBody = 0) ∧
      (dataReady (st 0x0F11 0).1 5 0 0x0F11 (st 0x0F11 0).2 ∧ ends 0x0F11 0 tryCounterResetBody = 2) ∧
      (∃ x ∈ dataRows, x.code = 0x0F12 ∧ x.work = tryCounterReadBody) := by
  refine ⟨by unfold dataReady; decide, by unfold dataReady; decide, by unfold dataReady; decide,
    ⟨⟨0x0F12, .tryCounterRead, tryCounterReadBody⟩, ?_, rfl, rfl⟩⟩
  simp only [dataRows, adminRows, List.mem_append, List.mem_cons, true_or, or_true]

/-- A descriptor with lists: CMD_PARAM p, AUX, n bytes of room and the data read. -/
def listState (code p n : Nat) (aux data : List Byte) : State × Entry × Operands :=
  let d := splice (splice (splice (mkDesc code p 0 []) 2 [1]) 0x5C (leBytes 4 n)) 0x60 aux
  let o : Operands := { ins := [], outs := [], data := data }
  let e : Entry := { Entry.fresh 5 0 0 d with
    tile := some 0, keysReady := [0, 1, 2, 3], input := some o, nonce := some 9, steps := templateSteps code }
  ({ State.reset with entries := [e] }, e, o)

/-- The same with an AES-128 key of zeros behind key field 0. -/
def withAes (x : State × Entry) : State :=
  { x.1 with parts := [(0, { Part.reset with extents := [0] })],
             vault := { x.1.vault with slots := [(0, { KeyRec.reset with alg := 0x10, keyLen := 16, mat := zeros 16 })] } }

/-- What an inline descriptor of class 0x01 must meet, with its key. -/
def inlineOk (code n iv : Nat) : Prop :=
  let x := dataState (mkDesc code n (iv + n) [])
  dataReady (withAes x) 5 0 code x.2 ∧ unusedZero x.2.desc ∧ dSgl x.2.desc = false ∧ dParamN x.2.desc = n ∧
    dInLen x.2.desc = iv + n ∧ (keyAt (withAes x) (ctxOf (withAes x) x.2) 0).cipher.size = 16

/-- What a listed one must meet. -/
def listedOk (code p room : Nat) (data : List Byte) : Prop :=
  let x := listState code p room [] data
  dataReady (withAes (x.1, x.2.1)) 5 0 code x.2.1 ∧ unusedZero x.2.1.desc ∧ dSgl x.2.1.desc = true ∧ dParamN x.2.1.desc = p ∧
    x.2.1.input = some x.2.2 ∧ x.2.1.nonce.isSome ∧ dOutTotal x.2.1.desc = room ∧ zeroAt x.2.1.desc 0x60 0x80 = true

set_option maxRecDepth 20000 in
/-- One block inline in ECB and CBC, one byte in CTR, one to sixteen bytes with the hardware nonce, one block or byte listed,
and GCM with the least tag: the clauses of CipherCommandsApplyTheirMode. -/
theorem test_cipher_forms :
    inlineOk 0x0101 16 0 ∧ inlineOk 0x0103 16 16 ∧ inlineOk 0x0105 1 16 ∧ inlineOk 0x0106 16 0 ∧
      listedOk 0x0103 0 16 (zeros 16) ∧ listedOk 0x0106 0 1 [7] ∧ listedOk 0x0107 (256 * 12) 4 [1, 2, 3, 4] ∧
      listedOk 0x0108 (256 * 16) 0 [] := by
  refine ⟨?_, ?_, ?_, ?_, ?_, ?_, ?_, ?_⟩ <;> (first | unfold inlineOk | unfold listedOk) <;> unfold dataReady unusedZero <;> decide

set_option maxRecDepth 100000 in
/-- Under the zero key and nonce the tag of nothing is the first block of the standard's test case 1, so AES_GCM_DEC meets
both a tag that agrees and one that does not. -/
theorem test_gcm_tag :
    gcmTag (aesCipher (zeros 16)) (zeros 12) [] [] = [0x58, 0xE2, 0xFC, 0xCE, 0xFA, 0x7E, 0x30, 0x61, 0x36, 0x7F, 0x1D, 0x57,
      0xA4, 0xE7, 0x45, 0x5A] := by decide

/-- What a MAC or hash descriptor must meet: inline with n bytes and MAC_LEN len, or listed. -/
def digestOk (code p n inLen : Nat) : Prop :=
  let x := dataState (mkDesc code p inLen [])
  dataReady x.1 5 0 code x.2 ∧ unusedZero x.2.desc ∧ dSgl x.2.desc = false ∧ dParamN x.2.desc = p ∧ dInLen x.2.desc = inLen ∧
    n ≤ inLen

set_option maxRecDepth 20000 in
/-- Each MAC at its least length with and without a given one, each kind of hash inline and with a list of room for it or
not: the clauses of MacsAndHashesAnswerTheirDigest. -/
theorem test_digest_forms :
    digestOk 0x0401 (8 + 256 * 4 + 65536 * 2) 8 8 ∧ digestOk 0x0402 (8 + 256 * 4) 8 12 ∧ digestOk 0x0403 (8 + 256 * 8) 8 8 ∧
      digestOk 0x0410 (256 * 4) 0 0 ∧ digestOk 0x0420 (1 + 256 * 10 + 2 ^ 20 * 3) 1 1 ∧ digestOk 0x0B01 3 3 3 ∧
      digestOk 0x0B21 (3 + 256 * 32) 3 3 ∧
      (let x := listState 0x0B03 0 64 [] [1]
       dataReady x.1 5 0 0x0B03 x.2.1 ∧ unusedZero x.2.1.desc ∧ dParamN x.2.1.desc = 0 ∧ dOutTotal x.2.1.desc = 64) ∧
      (let x := listState 0x0B22 (256 * 33) 32 [] [1]
       dataReady x.1 5 0 0x0B22 x.2.1 ∧ unusedZero x.2.1.desc ∧ dParamN x.2.1.desc = 256 * 33 ∧ dOutTotal x.2.1.desc = 32) := by
  refine ⟨?_, ?_, ?_, ?_, ?_, ?_, ?_, ?_, ?_⟩ <;> try unfold digestOk
  all_goals unfold dataReady unusedZero; decide

/-- PERST# is asserted after reset with main power good, and not after it is deasserted: both cases of the statement about
resets and the link. -/
theorem test_perst :
    let s : State := { State.reset with hif := { State.reset.hif with perst := false } }
    State.reset.hif.perst = true ∧ State.reset.power.main = true ∧ s.hif.perst = false ∧ s.power.main = true ∧
      State.reset.hif.replayActive = false ∧ State.reset.hif.invals.length < 32 := by decide

/-- After reset main power is good and the module has not started: the hypotheses of PowerLossAndStartUpKeepWhatIsHeld. -/
theorem test_not_started : State.reset.power.main = true ∧ State.reset.boot.booted = false ∧ State.reset.boot.held = none ∧
    pendingTarget (otpWord State.reset.life) = 0 ∧ 
    pendingTarget (otpWord { State.reset.life with otpA := 0x7F, otpB := 0x7F }) = 4 := by decide

/-- Queue pair 5 of PF0 with a ring of 64, its pointers and whether its first head write is awaited. -/
def ringState (wm w tail head : Nat) (wait mask : Bool) (pend : Nat) : State :=
  { State.reset with qps := [(5, { Qp.reset with assigned := true, depthLog2 := 6, wm := wm, w := w, tail := tail, cqHead := head,
                                                 headWait := wait, irqMask := mask, pendCount := pend,
                                                 tailWritten := true, headWritten := true })] }

/-- A page that is not live and one that is; a tail and a head at the last value that is valid and one beyond; a first head at
each end of its range and one beyond; a mask that is cleared with and without a pending completion: the cases of
DoorbellsMoveTheirPointers. -/
theorem test_rings :
    let ahead (a b : Nat) : Nat := (a + (2 ^ 32 - b % 2 ^ 32)) % 2 ^ 32
    let s := ringState 10 12 20 11 false true 1
    pageOk (.pf0 5) = true ∧ pageQp State.reset (.pf0 5) = none ∧ pageQp s (.pf0 5) = some 5 ∧
      (ahead 74 10 ≤ 64 ∧ ahead 20 10 ≤ ahead 74 10) ∧ ¬ ahead 75 10 ≤ 64 ∧ ¬ ahead 20 10 ≤ ahead 19 10 ∧
      ahead 12 11 ≤ ahead 12 11 ∧ ¬ ahead 13 11 ≤ ahead 12 11 ∧
      pageQp (ringState 10 12 20 11 true false 0) (.pf0 5) = some 5 ∧
      (ahead 42 (10 + (2 ^ 48 - 64)) ≤ 96 ∧ ¬ ahead 43 (10 + (2 ^ 48 - 64)) ≤ 96) ∧ ahead (2 ^ 32 - 54) (10 + (2 ^ 48 - 64)) = 0 ∧
      (qpOf s 5).irqMask = true ∧ (qpOf s 5).pendCount ≠ 0 := by decide

/-- A queue pair that may and one that may not be enabled, one with CPL_ERR, one whose rings may not be written, a pending
masked vector, and a mailbox in each state: the cases of RegisterAccessesFollowTheirFields. -/
theorem test_registers :
    let s (en cpl : Bool) : State := { State.reset with qps := [(5, { Qp.reset with assigned := true, depthLog2 := 6, vector := 2,
                                                                                    en := en, cplErr := cpl })] }
    let m (b : Mailbox) : State := { State.reset with hif := { State.reset.hif with mbx := b } }
    enRefused (s false false) 5 = false ∧ enRefused State.reset 5 = true ∧ (qpOf State.reset 5).en = false ∧
      (qpOf (s true true) 5).cplErr = true ∧ pageQp (s false false) (.pf0 5) = some 5 ∧
      (qpOf (s false false) 5).wm = nextAsnReg (qpOf (s false false) 5) ∧ (qpOf (s true false) 5).en = true ∧
      (m { Mailbox.reset with reqLen := 2048 }).hif.mbx.busy = false ∧ (m { Mailbox.reset with busy := true }).hif.mbx.applied = false ∧
      (m { Mailbox.reset with busy := true }).vault.op = none ∧ (m { Mailbox.reset with busy := true, applied := true }).hif.mbx.applied = true ∧
      (let e : MsixEntry := { addr := 0, data := 0, masked := true, pending := true }
       tblGet { addr := 0, data := 0, masked := true, pending := false }
         (({ State.reset.hif with msix := [(7, e)] } : Hif).msix) (0 * 2048 + 7)).pending = true := by decide

/-- Partition 3 with queue pair 7 in quarter 1 and one accepted descriptor, in a state of both planes, and a manager session. -/
def partState (v : Nat) : State :=
  let p : Part := { Part.reset with created := true, admin := v, oper := [(1, v)], qps := [7], incarnation := 1, extents := [2] }
  let x : Session := { sid := 9, node := 4, role := 1, scope := 0, index := 0, opened := 0, last := 0, ctrIn := 0, ctrOut := 0, keys := [] }
  { State.reset with
    parts := [(3, p)], qps := [(7, { Qp.reset with assigned := true, partition := 3, home := 1, next := 1 })],
    entries := [Entry.fresh 7 0 1 (zeros 128)], fmp := { State.reset.fmp with sessions := [x] } }

/-- A partition in each of the four states, commanded through either register: the cases of PartitionCommandsRunAsPermitted. -/
theorem test_partition_states :
    (∀ v < 4, (partOf (partState v) 3).created = true ∧ effectiveOf (partState v) 3 = v ∧ homesOf (partState v) 3 = [1] ∧
      operIn (partState v) 3 1 = v ∧ (partState v).hif.pcmdBusy = false) ∧
      (∀ a < 5, ∃ r, askerOf (partState 0) (.session 9) 2 0x4003 5 = some r ∧
        writeRight (partState 0) r .wo 0x4003 0x05 (leBytes 1 a) = 0) := by
  refine ⟨by decide, fun a _ => ⟨.manager, rfl, rfl⟩⟩

/-- The state of a partition 3 with its planes at two values, in the life cycle of the given number. -/
def lifePart (lc admin oper : Nat) (c : Option PartCmd) : State :=
  let s := partState oper
  let k : BitVec 3 := BitVec.ofNat 3 lc
  { s with parts := s.parts.map (fun x => (x.1, { x.2 with admin := admin, cmd := c })),
           life := { s.life with regA := k, regB := k, regC := k } }

/-- A new partition in MANUFACTURE and in FIELD, a quiet one to be removed and one with work whose deadline is set, and planes
that differ: the cases of PartitionsAreCreatedRemovedAndKeptInStep. -/
theorem test_partition_life :
    let s := lifePart 1 2 2 none
    let homes := pickHomes (quartersUp s) ((List.range 4).map (fun q => (q, qpsHomed s q))) (objNat s 0x4004 0x10 1)
    let idle : State := { lifePart 1 1 1 none with entries := [], qps := [(7, { Qp.reset with assigned := true, partition := 3, home := 1 })] }
    let d : State := modQuarter s 1 (fun x => { x with drain := [(3, 5)] })
    let c : PartCmd := { action := 3, viaPcmd := false, drainMs := 0, deadlined := true }
    createCheck s 4 homes = none ∧ lifeCycle s = 1 ∧ (∃ r, askerOf s (.session 9) 2 0x4004 5 = some r ∧
      writeRight s r .wo 0x4004 0x05 (leBytes 1 5) = 0) ∧
    (∃ r, askerOf idle (.session 9) 2 0x4003 0xE0 = some r ∧ writeRight idle r .rwq 0x4003 0xE0 (leBytes 1 1) = 0) ∧
    (partOf idle 3).created = true ∧ effectiveOf idle 3 = 1 ∧ inflightOf idle 3 = 0 ∧ partQuiet idle 3 = true ∧
    lifeCycle (lifePart 3 1 1 none) = 3 ∧ (lifePart 3 1 1 none).dict.reqs = [] ∧
    (let x : State := { lifePart 3 1 1 none with entries := [], qps := idle.qps };
      lifeCycle x = 3 ∧ effectiveOf x 3 = 1 ∧ inflightOf x 3 = 0 ∧ partQuiet x 3 = true) ∧
    tblFind (quarterOf d 1).drain 3 = some 5 ∧ operIn d 3 1 = 2 ∧ workRemains d 3 1 = true ∧
    partDiffers (lifePart 1 2 1 (some c)) 3 = true ∧ (partOf (lifePart 1 2 1 (some c)) 3).disagree = false ∧
    partDiffers (lifePart 1 2 2 none) 3 = false ∧ createCheck s 3 homes = some 1 := by
  refine ⟨by decide, by decide, ⟨.manager, rfl, rfl⟩, ⟨.manager, rfl, rfl⟩, ?_⟩
  decide

/-- Queue pair 5 of partition 3, homed in quarter 0, with n descriptors between its next ASN and its tail. -/
def fetchState (n : Nat) : State :=
  let p : Part := { Part.reset with created := true, admin := 0, oper := [(0, 0)], qps := [5] }
  let q : Qp := { Qp.reset with assigned := true, partition := 3, en := true, tailWritten := true, headWritten := true, depthLog2 := 6, tail := n, allowance := 8 }
  { State.reset with
    parts := [(3, p)], qps := [(5, q)],
    hif := { Hif.reset with dpOpen := true, fetchEn := true }, power := { Power.reset with gate := 0 } }

/-- The same with reads outstanding, an allowance, and the gate in a state. -/
def awaitState (allowance gate : Nat) : State :=
  let s := withQp (fetchState 2) 5 (fun x => { x with fetching := 2, allowance := allowance })
  { s with power := { s.power with gate := gate } }

/-- A permitted fetch, a HASH accepted, an unknown code and an SE command in a RESTRICTED gate accepted, an exhausted
allowance, an empty bucket: the cases of DescriptorsAreFetchedAcceptedAndTimed that concern a queue pair. -/
theorem test_arrivals :
    let empty := modQuarter (awaitState 8 0) 0 (fun x => { x with ops := [(3, { tokens := 0, last := 0 })] })
    (fetchPermitted (fetchState 2) 5 = true ∧ fetchPaused (fetchState 2) 5 = false ∧ (qpOf (fetchState 2) 5).fetching = 0) ∧
      (awaits (awaitState 8 0) 5 ∧ awaits (awaitState 8 1) 5 ∧ awaits (awaitState 0 0) 5 ∧ awaits empty 5) ∧
      ((decision (awaitState 8 0) 5 (mkDesc 0x0B01 0 0 [])).1 = .yes ∧ earlyFail (awaitState 8 0) 3 (mkDesc 0x0B01 0 0 []) = none) ∧
      ((decision (awaitState 8 0) 5 (mkDesc 0x00FF 0 0 [])).1 = .yes ∧
        earlyFail (awaitState 8 0) 3 (mkDesc 0x00FF 0 0 []) = some (0x0005, 0)) ∧
      ((decision (awaitState 8 1) 5 (mkDesc 0x0F10 0 0 [])).1 = .yes ∧
        (rowOf (awaitState 8 1) 3 (mkDesc 0x0F10 0 0 [])).map (fun r => r.se) = some true) ∧
      ((decision (awaitState 0 0) 5 (mkDesc 0x0B01 0 0 [])).1 = .pause ∧ (awaitState 0 0).qps.length = 1) ∧
      ((decision empty 5 (mkDesc 0x0B01 0 0 [])).1 = .refill false 1 ∧ entryOf empty 5 0 = none ∧ doneRecord empty 5 0 = none) := by
  unfold awaits; decide

/-- A descriptor parked on L6, one with a deadline, and a partition on L5. -/
theorem test_expiries :
    let e : Entry := { Entry.fresh 5 0 0 (zeros 128) with park := .l6 7 0, deadline := some 9 }
    let s : State := { fetchState 2 with entries := [e] }
    let l := modQuarter s 0 (fun x => { x with l5 := [(6, (7, 0))] })
    entryOf s 5 0 = some e ∧ s.power.gate = 0 ∧ e.fired = false ∧ e.cpl = none ∧ unitQueued s 5 0 = false ∧
      l5Head l 0 = some (6, 7, 0) ∧ isHead (7, 0) (l6List s 0) = true ∧ isHead (9, 0) (deadlineList s e) = true := by decide

/-- A module with one accepted descriptor of queue pair 5 that f gives, on a tile with memories m. -/
def homeState (desc : List Byte) (f : Entry → Entry) (m : TileMem) : State × Entry :=
  let e := f (Entry.fresh 5 0 0 desc)
  ({ fetchState 0 with entries := [e], tmem := [(0, m)] }, e)

/-- A tenant-script invocation to be homed, and one that no tile has room for; quarters that ask for counters: the first
cases of HomedDescriptorsGetWhatTheyWaitFor. -/
theorem test_homing :
    let h := homeState (mkDesc 0x0D01 0 0 []) (fun e => { e with deadline := some 9 }) TileMem.reset
    let none4 : State := { h.1 with tiles := (List.range 4).map (fun i => (i, { Tile.reset with enable := false })) }
    let behind := modQuarter { h.1 with entries := [h.2, Entry.fresh 6 0 0 (mkDesc 0x0D01 0 0 [])] } 0 (fun x => { x with matchQ := [(6, 0)] })
    let late := homeState (mkDesc 0x0D01 0 0 []) (fun e => { e with deadline := some 0 }) TileMem.reset
    let ran := homeState (mkDesc 0x0D01 0 0 []) (fun e => { e with freshTile := true, tilesRun := [0, 1, 2, 3] }) TileMem.reset
    let gcm0 := homeState (mkDesc 0x0107 0 0 []) id TileMem.reset
    let gcm : State × Entry := (modJournal gcm0.1 (fun j => { j with nextA := [(3, 2 ^ 48 - 1)], nextB := [(3, 2 ^ 48 - 1)] }), gcm0.2)
    let half := modQuarter h.1 0 (fun x => { x with nonce := [(3, { block := some 0, used := 32768, further := none })] })
    ((rowOf h.1 3 h.2.desc).isSome ∧ homeable h.1 h.2 = true ∧ h.1.now < 9 ∧ noncesGone h.1 3 = false ∧
      homeable none4 h.2 = true ∧ h.2.freshTile = false ∧
      homeable late.1 late.2 = true ∧ late.2.deadline = some 0 ∧ homeable ran.1 ran.2 = true ∧ tilesOf ran.1 0 = [0, 1, 2, 3] ∧
      homeable gcm.1 gcm.2 = true ∧ noncesGone gcm.1 3 = true ∧ ((rowOf gcm.1 3 gcm.2.desc).map (fun r => r.nonce)) = some true ∧
      drawNonce (nonceHold gcm.1 0 3) = none) ∧
      chooseTile none4 h.2 3 16 = none ∧ (tilesOf none4 0).any (mayTake none4 h.2) = false ∧
      chooseTile behind h.2 3 16 = none ∧ (tilesOf behind 0).any (mayTake behind h.2) = true ∧ homeable behind h.2 = true ∧
       chooseTile h.1 h.2 3 16 = some (0, true) ∧ declaredFor 0x0D01 = 16 ∧
      ((rowOf h.1 3 h.2.desc).bind (secureNeeds h.1 h.2 3)).isSome = true ∧
      (journalUp h.1 = true ∧ (partOf h.1 3).created = true ∧ (quarterOf h.1 0).failed = false ∧ (nonceHold h.1 0 3).block = none) ∧
      ((nonceHold half 0 3).block.isSome = true ∧ (nonceHold half 0 3).further = none ∧ 32768 ≤ (nonceHold half 0 3).used) := by
  refine ⟨by decide, by decide, by decide, rfl, by decide, by decide, by decide⟩

/-- A descriptor of class 0x04 with the handle of slot 1 of partition 3 in KEY0, and the key there with a usage. -/
def keyState (usage : Nat) (m : TileMem) (f : Entry → Entry) : State × Entry :=
  let h := mkHandle 3 1 0 0
  let x := homeState (splice (mkDesc 0x0410 0 0 []) 0x18 (leBytes 8 h)) f m
  let k : KeyRec := { KeyRec.reset with
    handle := h, state := recActive, ownerPart := 3, alg := 0x10, keyLen := 16, usage := usage, worlds := 15, masters := 15,
    lcSet := 127, mat := zeros 16 }
  (modPart { x.1 with vault := { Vault.reset with slots := [(1, k)], grants := [⟨1, (5, 0), []⟩] } } 3
    (fun p => { p with extents := [0], quota := [(0, 8)] }), x.2)

/-- A descriptor that has waited for cache space, one whose key is filled and passes or fails, lists that check and that do
not, a grant and a waiter for a script core: the other cases. -/
theorem test_homed :
    let on (e : Entry) : Entry := { e with tile := some 0, capture := some 0 }
    let w := keyState 4 { TileMem.reset with pinQ := [(5, 0)] } on
    let f (u : Nat) := keyState u TileMem.reset on
    let bad (u : Nat) : Bool := (keysOf (f u).2.desc).all (fun x =>
      match checkKeyField (f u).1 3 0 (f u).2.desc x with
      | .ok _ => false
      | .error _ => true)
    let sgl : List Byte := splice (splice (splice (mkDesc 0x0B01 0 0 []) 2 [1]) 0x48 [1]) 0x4C [4]
    let g : Seg := { addr := 4096, len := 4, rsvd := 0 }
    let l := homeState sgl on TileMem.reset
    let c := homeState (mkDesc 0x0201 0 0 []) (fun e => { on e with script := .waiting }) TileMem.reset
    (((tmemOf w.1 0).pinQ.find? (fun x => (qpOf w.1 x.1).partition == 3)) = some (5, 0) ∧
      (pinAll w.1 0 3 (tblGet 0 (partOf w.1 3).quota 0) (5, 0) w.2.desc).isSome = true ∧ (keysNamed w.1 3 w.2.desc).length = 1) ∧
      (scanKeys (f 4).1 (f 4).2 0 = ([], .fill 0) ∧ (fillsPending (f 4).1 0).length = 1 ∧
        rrNext 0 ((fillsPending (f 4).1 0).foldl (fun l x => insertAsc (qpOf (f 4).1 x.qp).partition l) []) = some 3) ∧
      (bad 4 = false ∧ bad 1 = true ∧ (keysOf (f 4).2.desc).length = 1) ∧
      (inputReady l.2 = false ∧ ∃ o, checkLists l.2.desc (.lists [g] [] [1, 2, 3, 4]) = .ok o) ∧
      (checkLists l.2.desc (.error 2) = .error (0x0007, 2)) ∧
      (∃ x ∈ (f 4).1.vault.grants, x.holder = (5, 0)) ∧
      (freeCore c.1 0 = some 0 ∧ (coreWaiters c.1 0).length = 1 ∧ c.1.entries.all (fun e => entryOf c.1 e.qp e.asn == some e)) := by
  refine ⟨by decide, by decide, by decide, ⟨by decide, _, rfl⟩, rfl, by decide, by decide⟩

/-- A module with one descriptor of a code in tile 0, ready for its work with the steps of its template. -/
def readyState (code : Nat) (f : Entry → Entry) : State × Entry :=
  let x := homeState (mkDesc code 0 0 [])
    (fun e => f { e with tile := some 0, keysReady := [0, 1, 2, 3], grant := true, script := .core 0, steps := templateSteps code })
    TileMem.reset
  (modTile x.1 0 (fun y => { y with pke0 := { y.pke0 with loaded := true }, pke1 := { y.pke1 with loaded := true } }), x.2)

/-- Ready steps of each engine, and engines that run one: the cases of StepsRunAndAreCompared. -/
theorem test_steps :
    let c := readyState 0x0101 id
    let p := readyState 0x0803 (fun e => { e with input := some { ins := [], outs := [], data := [] } })
    let g := readyState 0x0830 (fun e => { e with input := some { ins := [], outs := [], data := [] } })
    let h := readyState 0x0B01 id
    let b := readyState 0x0E01 (fun e => { e with input := some { ins := [], outs := [], data := [] } })
    let run : StepRun := { qp := 5, asn := 0, step := 0 }
    let runs' (s : State) : State := modTmem s 0 (fun m => { m with pair0 := some run, hashRun := some run })
    let pke (s : State) : State := modPke s 0 1 (fun y => { y with busy := true, run := some run })
    let m := readyState 0x0101 (fun e => { e with mism := 1 })
    let alone : State := { runs' m.1 with tiles := [1, 2, 3].map (fun i => (i, { Tile.reset with enable := false })) }
    let l4 := homeState (mkDesc 0x0101 0 0 []) (fun e => { e with park := .l4 7 0 }) TileMem.reset
    (bodyReady c.1 c.2 = true ∧ nextStep c.2 .lane = some 0 ∧ readyFor c.1 0 .lane = [c.2] ∧
      turnOf c.1 0 (readyFor c.1 0 .lane) = some c.2 ∧ pairRun (tmemOf c.1 0) 0 = none ∧ pairQuar (tileOf c.1 0) 0 = false) ∧
      (bodyReady p.1 p.2 = true ∧ (nextStep p.2 .pke).isSome = true ∧ readyFor p.1 0 .pke = [p.2] ∧
        lowestOf p.1 (readyFor p.1 0 .pke) 3 = some p.2 ∧ (pkeTurn p.1 0 (readyFor p.1 0 .pke)).map (fun x => x.1) = some 3 ∧
        (pkeOf (tileOf p.1 0) 1).loaded = true ∧ (pkeOf (tileOf p.1 0) 1).busy = false ∧ isPkGenerate (dCmd p.2.desc) = false) ∧
      (bodyReady g.1 g.2 = true ∧ isPkGenerate (dCmd g.2.desc) = true ∧ (nextStep g.2 .pke).isSome = true) ∧
      (bodyReady h.1 h.2 = true ∧ nextStep h.2 .hash = some 0 ∧ (tmemOf h.1 0).hashRun = none ∧ (tmemOf h.1 0).hashWait = []) ∧
      (bodyReady b.1 b.2 = true ∧ nextStep b.2 .build = some 0) ∧
      (pairRun (tmemOf (runs' c.1) 0) 0 = some run ∧ c.2.cpl = none ∧ c.2.mism = 0 ∧ c.2.redispatched = false ∧
        (homedOn (runs' c.1) 0).all (fun x => x.retryOn == none) ∧ (tileOf (runs' c.1) 0).fenced = false) ∧
      (m.2.mism ≠ 0 ∧ 1 ∈ tilesOf (runs' m.1) 0 ∧ tilesOf alone 0 = [0]) ∧
      ((pkeOf (tileOf (pke p.1) 0) 1).run = some run ∧ (pkeOf (tileOf (pke p.1) 0) 1).checked = false ∧
        (homedOn (pke p.1) 0).all (fun x => x.retryOn == none) ∧ (pkeOf (tileOf (pke p.1) 0) 0).busy = false) ∧
      ((tmemOf (runs' h.1) 0).hashRun = some run ∧ (tmemOf (runs' h.1) 0).hashRetry = false ∧ h.2.steps = [{ kind := .hash, state := 0 }]) ∧
      (streamOpen (tmemOf (pke p.1) 0) 1 = false ∧ streamOpen (tmemOf (modTmem (pke p.1) 0 (fun m => { m with hashWait := [{ run with core := some 1 }] })) 0) 1 = true ∧
        ((coreEntry (modCore c.1 0 (fun y => { y with desc := some (5, 0) })) 0).bind (fun x => x.tile)).isSome = true) ∧
      (entryOf l4.1 5 0 = some l4.2 ∧ l4.2.park = .l4 7 0 ∧ isHead (7, 0) (l4List l4.1 0) = true) := by
  refine ⟨by decide, by decide, by decide, by decide, by decide, by decide, by decide, by decide, by decide, by decide, by decide⟩

/-- A tile that holds a descriptor, a quarter with a fetch to make, a queue pair of a failed quarter, and a tile whose mask
generator can be seeded: the cases of TilesAndQuartersFailAndRecover. -/
theorem test_failures :
    let c := readyState 0x0101 id
    let f := modPart (modQuarter (fetchState 2) 0 (fun x => { x with failed := true })) 3 (fun p => { p with quota := [(1, 64)] })
    let g : State := modTmem { State.reset with rng := { Rng.reset with drbg := [(0, { Drbg.reset with state := 1 })] } } 0
      (fun m => { m with moduleArea := some ⟨[], []⟩ })
    let x : State := { modTile c.1 0 (fun y => { y with fenced := true }) with boot := { c.1.boot with booted := true } }
    ((tileOf c.1 0).fenced = false ∧ homedOn c.1 0 = [c.2] ∧ c.1.tamper.halt = false ∧
      c.1.entries.all (fun e => entryOf c.1 e.qp e.asn == some e)) ∧
      (hasSend (fetchState 2) 0 = true ∧ (quarterOf (fetchState 2) 0).failed = false) ∧
      ((qpOf f 5).assigned = true ∧ (quarterOf f 0).failed = true ∧ f.journal.units = [] ∧ f.qps.length = 1 ∧
        minBy (qpsHomed f) (quartersUp f) = some 1 ∧ (tblFind (partOf f 3).quota 1).isSome = true ∧ operIn f 3 1 ≠ 3) ∧
      (tileDiffers x 0 = true ∧ x.boot.booted = true ∧ tileDiffers c.1 0 = false) ∧
      ((tmemOf g 0).moduleArea.isSome = true ∧ (tmemOf g 0).maskSeeded = false ∧ (tileOf g 0).power = 0 ∧
        (drbgOf g 0).state = 1 ∧ (drbgOf g 0).out < 2 ^ 30) := by
  refine ⟨by decide, by decide, by decide, by decide, by decide⟩

/-- A RANDOM descriptor of n bytes in quarter 0, whose generator is in a state with b bytes in its buffer, the source in one. -/
def randomState (n drbg b source : Nat) (f : Entry → Entry) : State × Entry :=
  let x := homeState (mkDesc 0x0A01 n 0 []) (fun e => f { e with records := 1 }) TileMem.reset
  ({ x.1 with rng := { Rng.reset with state := source, drbg := [(0, { Drbg.reset with state := drbg, buf := b })] } }, x.2)

/-- A descriptor served with every byte of the buffer, one that finds a byte too few, a blocked and a starting source, one
of no bytes, and one on L7: the cases of RandomDescriptorsAreServedInTurn. -/
theorem test_random :
    let served := randomState 8 1 8 1 id
    let few := randomState 9 1 8 1 id
    let stuck := randomState 8 0 0 2 id
    let starting := randomState 8 0 0 0 id
    let bad := randomState 0 1 8 1 id
    let tick := randomState 8 1 8 1 (fun e => { e with park := .l7 5 0 })
    let waits (x : State × Entry) : Prop := randomWaits x.1 5 0 x.2 ∧ x.2.records ≠ 0
    (waits served ∧ randomBad served.2.desc = none ∧ dParamN served.2.desc % 2 ^ 14 = 8 ∧ (drbgOf served.1 0).buf = 8) ∧
      (waits few ∧ randomBad few.2.desc = none ∧ dParamN few.2.desc % 2 ^ 14 = 9) ∧
      (waits stuck ∧ (drbgOf stuck.1 0).state = 0 ∧ stuck.1.rng.state = 2) ∧ (waits starting ∧ starting.1.rng.state = 0) ∧
      (waits bad ∧ randomBad bad.2.desc = some (0x0003, 0x38)) ∧
      (rrNext (quarterOf tick.1 0).rrL7 (l7Parts tick.1 0) = some 3 ∧ l7First tick.1 0 3 = some tick.2 ∧
        (drbgOf tick.1 0).state = 1 ∧ tick.1.entries.all (fun e => entryOf tick.1 e.qp e.asn == some e)) := by
  unfold randomWaits; refine ⟨by decide, by decide, by decide, by decide, by decide, by decide⟩

/-- A source in a state, testing or not, with fails failed tests, generator i and a manager session, in life-cycle state lc. -/
def sourceState (lc st fails : Nat) (testing : Bool) (drbg : Tbl Drbg) : State :=
  let k : BitVec 3 := BitVec.ofNat 3 lc
  { partState 0 with
    rng := { Rng.reset with state := st, fails := fails, testing := testing, drbg := drbg }, entries := [],
    life := { State.reset.life with regA := k, regB := k, regC := k } }

/-- Tests that fail for the second and the third time, first and second blocks, a full reseed, a stall, and a manager in
MANUFACTURE and FIELD with the source in each state: the cases of TheRandomSourceStartsFailsAndReseeds. -/
theorem test_source :
    let d (state blocks out : Nat) : Drbg := { Drbg.reset with state := state, blocks := blocks, out := out }
    let on := (List.range 5).map (fun i => (i, d 1 0 0))
    ((sourceState 1 0 1 true []).rng.testing = true ∧ (sourceState 1 0 2 true []).rng.fails = 2 ∧
      (sourceState 1 1 0 false []).entries = []) ∧
      (blockFor (condBlock <| sourceState 1 0 0 false []) = some 4 ∧ blockFor (condBlock <| sourceState 1 0 0 false [(4, d 0 1 0)]) = some 4 ∧
        blockFor (condBlock <| sourceState 1 0 0 false ((on.take 3).concat (3, d 0 1 0) ++ [(4, d 1 0 0)])) = some 3) ∧
      (blockFor (condBlock <| sourceState 1 1 0 false [(0, { d 1 1 0 with wants := true })]) = some 0) ∧
      ((drbgOf (sourceState 1 1 0 false [(0, d 1 2 0)]) 0).blocks = 2 ∧
        (drbgOf (sourceState 1 1 0 false [(0, d 1 0 (2 ^ 30))]) 0).out = 2 ^ 30) ∧
      (∀ st < 4, ∃ r, askerOf (sourceState 1 st 0 false []) (.session 9) 2 0x6800 4 = some r ∧
        writeRight (sourceState 1 st 0 false []) r .wo 0x6800 0x04 [1] = 0) ∧
      (lifeCycle (sourceState 1 3 0 false []) = 1 ∧ lifeCycle (sourceState 3 1 0 false []) = 3 ∧
        (sourceState 3 1 0 false []).dict.reqs = []) := by
  refine ⟨by decide, by decide, by decide, by decide, fun st _ => ⟨.manager, rfl, rfl⟩, by decide⟩

/-- The same manager may write RNG_RAW_MODE. -/
theorem test_raw_mode_right (lc st : Nat) (on : Bool) :
    granted (sourceState lc st 0 false []) (.session 9) .rwq 0x6800 0x07 [if on then 1 else 0] := ⟨.manager, rfl, rfl⟩

/-- A completion to be released with room in the ring, one without, a message due, and a unit of each effect: the cases of
CompletionsAreReleasedCountedAndCommitted. -/
theorem test_completions :
    let c : Cpl := listed [] [1, 2]
    let x := homeState (mkDesc 0x0B01 0 0 []) (fun e => { e with
      cpl := some c, committed := true, input := some { ins := [], outs := [⟨4096, 2, 0⟩], data := [] } }) TileMem.reset
    let full := withQp x.1 5 (fun q => { q with cqHead := 2 ^ 32 - 64 })
    let due := withQp x.1 5 (fun q => { q with coalTime := 9, pendCount := 1 })
    let unit (e : Effect) : State := { x.1 with journal := { Journal.reset with units := [
      { part := 3, quarter := 0, rcd := { isn := 0, qp := 5, asn := 0, cmd := 0, cpl := c, tag := [], effect := e, state := 1, stA := 0, stB := 0, pos := 0 },
        held := 1, line := none, extDone := 0 }] } }
    let ext := unit (.record 1 { KeyRec.reset with extCount := 1, extFirst := 2 } 0)
    let all (f : State → Bool) : Bool := [Effect.none, .record 1 KeyRec.reset 0, .nonceUse 7 0 0].all (fun e => f (unit e))
    (entryOf x.1 5 (qpOf x.1 5).w = some x.2 ∧ x.2.cpl = some c ∧ c.out ≠ [] ∧ releasableButHead x.1 (qpOf x.1 5) x.2 = true ∧
      headAllows (qpOf x.1 5) 0 = true ∧ (spread [⟨4096, 2, 0⟩] c.out).length = 1) ∧
      (releasableButHead full (qpOf full 5) x.2 = true ∧ headAllows (qpOf full 5) 0 = false) ∧
      ((qpOf due 5).coalTime ≠ 0 ∧ (qpOf due 5).pendCount ≠ 0 ∧ (qpOf due 5).irqMask = false) ∧
      (journalUp x.1 = true ∧ (qpOf x.1 5).assigned = true ∧ all (fun s => (nextUnit s).isSome && ((nextUnit s).bind (batchOf s)).isNone) = true ∧
        ((nextUnit ext).bind (batchOf ext)).isSome = true) := by
  refine ⟨by decide, by decide, by decide, by decide⟩

/-- The worked example of 07: the handle's partition, slot and GEN, its physical slot and record, and line 197. -/
theorem test_vault_addresses :
    (hPart 0x02A0001AC0002D81 = 0x02A ∧ hSlot 0x02A0001AC0002D81 = 0x6B ∧ hGen 0x02A0001AC0002D81 = 0) ∧
      0x153 * 512 + 0x6B = 0x2A66B ∧ workingAddr 0x2A66B = 0x02A66B00 ∧ lineAddr 197 = 0x0F1A3B40 := by decide

/-- The key of keyState with partition 3's manager and KEY_OP_HANDLE or MOD_KEY_OP_HANDLE naming it, in life-cycle state lc. -/
def opState (lc : Nat) (module : Bool) : State :=
  let x := (keyState 4 TileMem.reset id).1
  let k := lifePart lc 0 0 none
  let h := if module then mkHandle 0xFFF 5 0 0 else mkHandle 3 1 0 0
  let own (r : KeyRec) : KeyRec := if module then { r with handle := h, ownerPart := 0xFFF, ownerInc := 0xFFFFF } else r
  { x with fmp := k.fmp, life := k.life, entries := [],
           vault := { x.vault with slots := x.vault.slots.map (fun y => ((if module then 5 else 1), own y.2)), grants := [] },
           dict := { Dict.reset with store := [((if module then 0x5011 else 0x5010) * 256 + 1, leBytes 8 h)] } }

/-- A dirty line, a valid and an invalid handle, a module key before FIELD and in it, and a destruction that may end: the
cases of KeyOperationsAndCheckpointsRun. -/
theorem test_key_operations :
    let s := opState 1 false
    let none' : State := { s with dict := Dict.reset }
    let m := opState 1 true
    let l : Line := { Line.reset with commit := 4, isnA := 4, slot := 1, kind := 1, part := 3, slotA := some ⟨[], [], []⟩ }
    let d : State := modVault s (fun v => { v with lines := [(9, l)] })
    let busy : State := modVault s (fun v => { v with op := some (opOf s .tunnel false 2) })
    let may (s : State) (path : Path) (module : Bool) (action : Nat) : Prop := ∃ i r, canRevoke s (opOf s path module action) i r ∧
      r.extCount = 0 ∧ r.lgen < 65535
    (noKeyOps s ∧ noKeyOps none' ∧ noKeyOps m ∧ noKeyOps d) ∧
      (rrNext d.vault.rrCkpt (dirtyHolders d) = some (slotHolder d 0) ∧ lineDirty l = true ∧ (lineVersion l).isSome = true ∧
        d.vault.lines.length = 1 ∧ d.power.main = true) ∧
      opRecord none' (opOf none' .tunnel false 1) = none ∧
      (may s (.session 9) false 1 ∧ may s (.session 9) false 2 ∧ keyPinned s (mkHandle 3 1 0 0) = false) ∧
      (may m (.session 9) true 1 ∧ identityHandle m = false ∧ lifeCycle m = 1 ∧ lifeCycle (opState 3 true) = 3 ∧
        (opState 3 true).dict.reqs = []) ∧
      ((opRecord busy (opOf s .tunnel false 2)).isSome = true ∧ keyPinned busy (mkHandle 3 1 0 0) = false ∧
        ((opRecord busy (opOf s .tunnel false 2)).bind (fun x => trustedCommit busy x.1 (freedRecord x.2 (hSlot x.2.handle) (hGen x.2.handle) false))).isSome = true) := by
  unfold noKeyOps canRevoke
  refine ⟨by decide, by decide, by decide, ⟨⟨_, _, ⟨rfl, by decide, by decide, by decide, rfl⟩, rfl, by decide⟩,
    ⟨_, _, ⟨rfl, by decide, by decide, by decide, rfl⟩, rfl, by decide⟩, by decide⟩,
    ⟨⟨_, _, ⟨rfl, by decide, by decide, by decide, rfl⟩, rfl, by decide⟩, by decide⟩, by decide⟩

/-- The manager may write both actions. -/
theorem test_key_operation_rights (lc a : Nat) (m : Bool) :
    granted (opState lc m) (.session 9) .wo 0x5010 0x02 (leBytes 1 a) ∧
      granted (opState lc m) (.session 9) .rwq 0x5011 0x02 (leBytes 1 a) := by
  refine ⟨⟨.manager, rfl, ?_⟩, ⟨.manager, rfl, ?_⟩⟩ <;> cases m <;> rfl

/-- A lock held by M2 with a key slot of its world and one of the other, and one asked for by M1 and M3 after M2 had it. -/
theorem test_service_lock :
    let h := withSvc State.reset (fun v => { v with
      held := true, owner := 2, op := some ⟨2, true, none⟩, slots := [(3, ⟨false, 9, []⟩), (4, ⟨true, 9, []⟩)] })
    let f := withSvc State.reset (fun v => { v with owner := 2, req := 0b1010 })
    (h.svc.held = true ∧ h.svc.owner = 2 ∧ h.svc.op = some ⟨2, true, none⟩ ∧ tblFind h.svc.slots 3 = some ⟨false, 9, []⟩ ∧
      tblFind h.svc.slots 4 = some ⟨true, 9, []⟩) ∧
      (f.svc.held = false ∧ f.svc.req.getLsbD ((f.svc.owner + 1) % 4) = true) := by decide

/-- The attempt of node 4, as a manager. -/
def portAttempt : Attempt := { node := 4, sid := 1, role := 1, scope := 0, index := 0, since := 0, th2 := [], keys := [] }

/-- A serving port with an attempt, a transfer, a partial message and a lock-out of node 4, and a manager session 9 there. -/
def portState (resends acked sent : Nat) (fails : List (Nat × Nat)) : State :=
  let s := partState 0
  { s with
    rng := { Rng.reset with drbg := [(4, { Drbg.reset with state := 1 })] }, entries := [],
    fmp := { s.fmp with
      serving := true, attempts := [portAttempt], tx := [⟨4, 7, 40, acked, sent, resends, 0, 4, []⟩],
      rx := [⟨4, 0, 0, 0⟩], ignored := [(5, 9)], fails := fails } }

/-- A HELLO heard and one shut out, a FINISH that opens and that fails for the first and the fifth time, an ACK of part and
of the last segment, and what stands at its time-out: the cases of TheManagementPortServesItsBus. -/
theorem test_port :
    let s := portState 0 0 32 []
    let late := portState 3 32 40 (List.replicate 4 (4, 0))
    (helloOk 1 0 0 = true ∧ shutOut s 4 = false ∧ shutOut s 5 = true ∧ freeSid (withoutAttempt s 4) = some 1 ∧
      (drbgOf s 4).state = 1 ∧ (drbgOf s 4).out < 2 ^ 30) ∧
      (s.fmp.attempts.find? (fun x => x.node == 4) = some portAttempt ∧ finishOk s portAttempt [] [] = false ∧ s.fmp.fails = [] ∧
        4 ≤ (late.fmp.fails.filter (fun x => x.1 == 4 && decide (late.now < x.2 + 60000000))).length) ∧
      (txOf s 4 = some ⟨4, 7, 40, 0, 32, 0, 0, 4, []⟩ ∧ 0 + (32 + 64 - 0 % 64) % 64 ≤ 32 ∧
        txOf late 4 = some ⟨4, 7, 40, 32, 40, 3, 0, 4, []⟩ ∧ 32 + (40 + 64 - 32 % 64) % 64 = 40) ∧
      (s.fmp.rx.find? (fun y => y.node == 4) = some ⟨4, 0, 0, 0⟩ ∧ s.fmp.ignored.find? (fun y => y.1 == 5) = some (5, 9) ∧
        (sessionOf s 9).isSome = true ∧ s.fmp.serving = true) := by
  refine ⟨by decide, by decide, by decide, by decide⟩

/-- A HELLO's body with a point of the curve and an encapsulation key, and a FINISH without signatures before FIELD. -/
theorem test_handshake :
    helloBodyOk (zeros 32 ++ p384.pubOf 1 ++ zeros 1184) = true ∧ finishOk (portState 0 0 32 []) portAttempt (zeros 96) (zeros 3309) = true := by
  decide +kernel

/-- The manager may restart the port. -/
theorem test_port_right (v : Nat) : granted (portState 0 0 32 []) (.session 9) .rwb 0x1100 0x04 (leBytes 1 v) :=
  ⟨.manager, rfl, rfl⟩

/-- A request as the mailbox carries it (10 R331): FIRST in bit 0 and LAST in bit 1 of FLAGS. -/
def requestBytes (op flags idx sub off : Nat) (v : List Byte) : List Byte :=
  leBytes 1 op ++ leBytes 1 flags ++ leBytes 2 idx ++ leBytes 1 sub ++ zeros 3 ++ leBytes 4 off ++ leBytes 4 v.length ++ v

/-- s with a request that SUBMIT has sent. -/
def submitted (s : State) (b : List Byte) : State :=
  { s with hif := { s.hif with mbx := { s.hif.mbx with busy := true, reqBuf := Memory.write [] 0 b, reqLen := b.length } } }

/-- A manager session 9 in life-cycle state 1 with a transfer in pieces through the tunnel. -/
def requestState : State :=
  let s := lifePart 1 0 0 none
  { submitted s (requestBytes 1 1 0x2040 1 0 []) with
           dict := { Dict.reset with xfers := [⟨.tunnel, false, 0x1001, 1, zeros 4000, 2032, 0⟩] }, entries := [] }

/-- Objects of each kind exist and may be read or written by the manager or through the tunnel: hypotheses of
RequestsAreAnsweredWithTheObject. -/
theorem test_requests :
    let s := requestState
    let ok (path : Path) (idx sub : Nat) : Bool :=
      match askerOf s path 1 idx sub, reqObj s path idx sub with
      | some r, .ok o => readBar s r path idx sub o == 0 && readRight r idx
      | _, _ => false
    (ok (.session 9) 0x6800 9 ∧ ok (.session 9) 0x2040 3 ∧ ok (.session 9) 0x7001 3 ∧ ok (.session 9) 0xA0F0 2 ∧ ok .tunnel 0x2040 1) ∧
      (tunnelOff s .tunnel = false ∧ tunnelOff s (.session 9) = false ∧ s.dict.xfers.length = 1 ∧
        readRight (.custodian 0 0) 0x7000 = false ∧ mbxAt s true 0 = true ∧ s.fw.recovery = false ∧
        readRight .manager 0xF000 = true ∧ diagReach s 0xF000 false = true ∧ diagReach (lifePart 3 0 0 none) 0xF100 false = false) := by
  refine ⟨⟨by decide, by decide, by decide, by decide, by decide⟩, by decide⟩

/-- A later piece, a WRITE, a CANCEL and a CLOSE in the mailbox. -/
theorem test_mailbox :
    let s := requestState
    let b := submitted s (requestBytes 1 2 0x1001 1 2032 [])
    let w := submitted s (requestBytes 2 3 0x2040 2 0 (zeros 32))
    (askerOf b .tunnel 1 0x1001 1 = some .tunnel ∧ mbxAt b false 2032 = true) ∧
      (askerOf w .tunnel 2 0x2040 2 = some .tunnel ∧ mbxCarries w (inOne (zeros 32)) = true) ∧
      askerOf (submitted s (requestBytes 4 3 0 0 0 [])) .tunnel 4 0 0 = some .tunnel ∧
      askerOf (submitted s (requestBytes 5 3 0 0 0 [])) .tunnel 5 0 0 = some .tunnel := by
  decide

/-- A write of the attestation nonce that is kept, one of a wrong length, one of a read-only object, and one that a command
of its own serves. -/
theorem test_writes :
    let s := requestState
    let u := received s (.session 9) 2 0x2040 2 32
    let o : Obj := octets 32 .rw
    names s (.session 9) 2 0x2040 2 o .manager ∧ writeRight s .manager o.acc 0x2040 2 (zeros 32) = 0 ∧
      keepsValue (.session 9) 0x2040 2 (zeros 32) u ∧ accessBar u 0x2040 2 = false ∧ valueCode u 0x2040 2 o (zeros 32) = 0 ∧
      stateBar u 0x2040 2 (zeros 32) = false ∧ valueCode u 0x2040 2 o (zeros 31) = 0x0007 ∧
      writeRight s .manager .ro 0x2040 3 [] = 0x0006 ∧ (ownRow (.session 9) 0x6800 4 [1] s).isSome = true := by
  refine ⟨⟨rfl, rfl⟩, rfl, ⟨rfl, rfl⟩, rfl, rfl, rfl, rfl, rfl, rfl⟩

/-- A custodian session 9 of the module's scope, index 1, in life-cycle state 1, with a request in slot 1 and a ceremony in a
state with values given. -/
def cerState (st : Nat) (values : List (Nat × List Byte)) (approvals : List Nat) : State :=
  let s := lifePart 1 0 0 none
  let r : QReq :=
    { reqNo := 1, scope := 0xFFFF, index := 0x5011, sub := 2, value := [1], digest := sha3_384 [1], expires := 9,
      incarnation := 0, need := 2, state := 1, approvals := approvals, result := 0, origin := .session 9, live := true, due := none }
  let c : Ceremony := { Ceremony.reset with
    state := st, scope := 0xFFFF, alg := 0x10, count := 2, template := ascii "D0000P0AE00N0000", values := values,
    key := zeros 15 ++ [1], kcv := [1, 2, 3, 4, 5] }
  { s with fmp := { s.fmp with sessions := [{ sid := 9, node := 4, role := 2, scope := 0xFFFF, index := 1, opened := 0, last := 0, ctrIn := 0, ctrOut := 0, keys := [] }] },
           dict := { Dict.reset with reqs := [(1, r)], cer := c }, entries := [] }

/-- Component n of cerState's ceremony with key k and its check value. -/
def component (n : Byte) (k : List Byte) : List Byte := [n, 0, 0, 0] ++ k ++ zeros 16 ++ kcvOf 0x10 k ++ zeros 3

/-- A first, a second and a repeated approval, a withdrawal, an open, an abort, a confirmation: hypotheses of
QuorumCeremonyAndScriptSlotsFollowTheirWrites. -/
theorem test_quorum :
    let s := cerState 1 [] []
    let v : List Byte := leBytes 2 0xFFFF ++ [0x10, 2] ++ zeros 4 ++ ascii "D0000P0AE00N0000"
    let r := tblFind s.dict.reqs 1
    (custodianOf s (.session 9) = some (0xFFFF, 1) ∧ s.evr.opMs < 9 ∧ (insertAsc 1 []).length < max 2 (quorumM s 0xFFFF) ∧
      max 2 (quorumM s 0xFFFF) ≤ (insertAsc 1 [7]).length) ∧
      (r.map (fun x => (x.reqNo, x.state, x.scope, x.due)) = some (1, 1, 0xFFFF, none)) ∧
      (v.length = 24 ∧ cerOpenOk v = true ∧ cerBusy (requestState) = false ∧ field v 0 2 = 0xFFFF ∧ cerBusy s = true ∧
        (partOf requestState 5).created = false) ∧
      (cerTemplate 0x10 (cerState 2 [] []).dict.cer.template).isSome = true := by
  refine ⟨by decide, by decide, by decide, by decide⟩

/-- A withdrawal by the proposing manager and by another path, and a completed request whose tick has come, with its quorum and without. -/
theorem test_due :
    let q : QReq :=
      { reqNo := 1, scope := 0xFFFF, index := 0x5011, sub := 2, value := [1], digest := [], expires := 9, incarnation := 0, need := 2,
        state := 1, approvals := [1, 7], result := 0, origin := .session 9, live := true, due := some 1 }
    let d (r : QReq) : State := { requestState with dict := { Dict.reset with reqs := [(1, r)] } }
    granted (d q) (.session 9) .wo 0x5221 7 [1] ∧ (d q).pending = [] ∧
      tblFind (pumpKeyOps (elapse (d q) 1)).dict.reqs 1 = some q ∧ 1 ≤ (pumpKeyOps (elapse (d q) 1)).now ∧
      quorumReached (pumpKeyOps (elapse (d q) 1)) q = true ∧
      quorumReached (pumpKeyOps (elapse (d q) 1)) { q with approvals := [1] } = false ∧ Path.tunnel ≠ q.origin := by
  refine ⟨⟨.manager, rfl, rfl⟩, rfl, by decide, by decide, by decide, by decide, by decide⟩

/-- The custodian may approve, write a component and confirm; the manager may open a ceremony and write script slots. -/
theorem test_quorum_rights (v w : List Byte) :
    granted (cerState 1 [] []) (.session 9) .rwb 0x5210 0x01 [] ∧ ceremonyWriter (cerState 1 [] []) (.session 9) 0x04 v 1 1 ∧
      ceremonyWriter (cerState 2 [] []) (.session 9) 0x06 v 2 1 ∧ granted (cerState 1 [] []) (.session 9) .rwb 0x5100 0x08 [1] ∧
      granted requestState (.session 9) .rwq 0x5100 0x01 w ∧ granted requestState (.session 9) .wo 0x4003 0x50 w ∧
      granted requestState (.session 9) .wo 0x4003 0xD0 (leBytes 1 1) := by
  refine ⟨⟨.custodian 0xFFFF 1, rfl, rfl⟩, ⟨⟨.custodian 0xFFFF 1, rfl, rfl⟩, rfl, rfl⟩, ⟨⟨.custodian 0xFFFF 1, rfl, rfl⟩, rfl, rfl⟩,
    ⟨.custodian 0xFFFF 1, rfl, rfl⟩, ⟨.manager, rfl, rfl⟩, ⟨.manager, rfl, rfl⟩, ⟨.manager, rfl, rfl⟩⟩

set_option maxRecDepth 100000 in
/-- A first component, a second one that makes a key and one that makes a weak key. -/
theorem test_components :
    let k := zeros 15 ++ [1]
    let ok (s : State) (n : Byte) : Bool :=
      (component n k).length == 44 && componentOk s.dict.cer (component n k) && slice (component n k) 36 5 == kcvOf 0x10 k &&
        slice (component n k) 4 (cerKeyLen 0x10) == k
    ok (cerState 1 [] []) 1 = true ∧ ok (cerState 1 [(1, zeros 16)] []) 2 = true ∧
      weakKey 0x10 (combine { (cerState 1 [] []).dict.cer with values := [(1, zeros 16), (2, k)] }) = false ∧
      weakKey 0x10 (combine { (cerState 1 [] []).dict.cer with values := [(1, k), (2, k)] }) = true := by
  decide

/-- A ceremony whose key can be committed, and an image that a slot refuses for its length. -/
theorem test_confirm :
    let s := cerState 2 [] []
    ((cerTemplate 0x10 s.dict.cer.template).bind (fun h => cerRecord s (cerNewKey s.dict.cer h))).isSome = true ∧
      (∀ i r, (trustedCommit s i r).isSome = true) ∧ scriptBar requestState 3 1 [] = 0x0007 := by
  refine ⟨rfl, fun i r => rfl, rfl⟩

set_option maxRecDepth 100000 in
/-- An entry that enrols no algorithm is met by signature fields of zeros and by no others. -/
theorem test_approval :
    let s := cerState 1 [] []
    let m (r : QReq) := reqStatement s r
    (∀ r, entrySigsOk (rosterEntry s 0xFFFF 1) (m r) (zeros 96) (zeros 3309) = true) ∧
      (∀ r, entrySigsOk (rosterEntry s 0xFFFF 1) (m r) (1 :: zeros 95) (zeros 3309) = false) := by
  refine ⟨fun r => ?_, fun r => ?_⟩ <;> rfl

set_option maxRecDepth 100000 in
/-- An image for slot 1 of a created partition that has enrolled one signer, without a signature that verifies. -/
theorem test_script_image :
    let v : List Byte := ascii "YQS1" ++ [1, 0, 1, 0] ++ leBytes 4 4 ++ leBytes 4 0 ++ leBytes 4 1000 ++ leBytes 4 16 ++ [0, 1] ++
      zeros 6 ++ zeros 16 ++ leBytes 4 1 ++ zeros 12 ++ zeros 100
    let s := modPart requestState 3 (fun p => { p with created := true })
    let t := setObj s 0x4003 0x40 (zeros 96 ++ [1])
    v.length = 164 ∧ signersOf t 3 = 1 ∧ scriptBar t 3 1 v = 0x000F := by decide

/-- An invocation of queue pair 5 on tile 0 with a given slot content and script state, KEY1 naming a key. -/
def tenantState (x : Option Script) (h : ScriptHold) : State × Entry :=
  homeState (splice (mkDesc 0x0D01 0 0 []) 0x20 (leBytes 8 7)) (fun e => { e with tile := some 0, image := x, script := h }) TileMem.reset

/-- A script that permits KEY1, or no key. -/
def tenantScript (keys : Nat) : Script :=
  { image := zeros 64, addr := scriptAreaBase, len := 64, id := zeros 16, version := 1, budget := 10, maxOut := 0, flags := 0, keys := keys,
    sigAlgs := 1, meas := sha3_384 (zeros 64), code := zeros 4, data := [] }

set_option maxRecDepth 100000 in
/-- A DDR5 that holds the image, and one that does not. -/
theorem test_tenant_image :
    let w := (tenantState (some (tenantScript 2)) .waiting).1
    sha3_384 (Memory.read w.ddr scriptAreaBase 64) = (tenantScript 2).meas ∧
      sha3_384 (Memory.read [(scriptAreaBase, 1)] scriptAreaBase 64) ≠ (tenantScript 2).meas := by
  decide +kernel

/-- An empty slot, a permitted and a forbidden key field, and an invocation whose turn it is on a free S3. -/
theorem test_tenant :
    let n := tenantState none .none
    let i := tenantState (some (tenantScript 2)) .none
    let w := tenantState (some (tenantScript 2)) .waiting
    (entryOf n.1 5 0 = some n.2 ∧ invokeReady n.1 n.2 = true ∧ entryOf i.1 5 0 = some i.2 ∧ invokeReady i.1 i.2 = true) ∧
      (dKey i.2.desc 1 = 7 ∧ bit 2 1 = true ∧ (∀ k < 4, bit 2 k = true ∨ dKey i.2.desc k = 0) ∧ bit 0 1 = false ∧
        dKey i.2.desc 0 = 0) ∧
      (tenantTurn w.1 0 = some w.2 ∧ (coreOf w.1 3).desc = none ∧ (tmemOf w.1 0).scriptImage = none ∧
        w.1.entries.all (fun e => entryOf w.1 e.qp e.asn == some e)) := by
  refine ⟨by decide +kernel, by decide, by decide +kernel⟩

/-- A manager session 9 in a life-cycle state, with an update in state st of total bytes of which got have come into bank 1. -/
def fwState (lc st total got : Nat) (i0 i1 : List FwImage) : State :=
  let s := lifePart lc 0 0 none
  { s with entries := [], dict := Dict.reset,
           fw := { Fw.reset with state := st, total := total, recv := zeros got, boot := 0, newSince := some 5, previous := some 1,
                                 bank0 := { present := true, images := i0 },
                                 bank1 := { present := true, images := i1 } } }

/-- An image of a kind and version that verifies. -/
def fwImage (kind version : Nat) : FwImage :=
  { kind := kind, version := version, secVersion := version, minRom := 0, sigsOk := true, body := [] }

/-- A bank that verifies and one without open firmware; images that differ in the open firmware alone, and in the patch. -/
theorem test_firmware :
    let a := [fwImage 1 1, fwImage 2 1, fwImage 3 1, fwImage 4 1]
    let b := [fwImage 1 1, fwImage 2 2, fwImage 3 1, fwImage 4 1]
    let c := [fwImage 1 2, fwImage 2 1, fwImage 3 1, fwImage 4 1]
    (bankResult (fwState 1 1 8 4 a a) 1 = 0 ∧ bankResult (fwState 1 1 8 4 a [fwImage 1 1]) 1 = 0x0007) ∧
      ((fwState 1 2 0 0 a b).fw.state = 2 ∧ transitioning (fwState 1 2 0 0 a b) = false ∧ lifeCycle (fwState 1 2 0 0 a b) = 1 ∧
        (∀ k ∈ [1, 3, 4], imageOf (fwState 1 2 0 0 a b) 0 k = imageOf (fwState 1 2 0 0 a b) 1 k)) ∧
      (∃ k ∈ [1, 3, 4], imageOf (fwState 1 2 0 0 a c) 0 k ≠ imageOf (fwState 1 2 0 0 a c) 1 k) ∧
      (lifeCycle (fwState 3 2 0 0 a b) = 3 ∧ (fwState 3 2 0 0 a b).dict.reqs = []) ∧
      transitioning { fwState 1 2 0 0 a b with life := { (fwState 1 2 0 0 a b).life with request := some 2 } } = true := by
  refine ⟨by decide, by decide, ⟨1, by decide, by decide⟩, by decide, by decide⟩

/-- The manager may write the update objects. -/
theorem test_firmware_rights (lc n : Nat) :
    granted (fwState lc 0 0 0 [] []) (.session 9) .wo 0x2020 0x02 (leBytes 4 n) ∧
      granted (fwState lc 0 0 0 [] []) (.session 9) .wo 0x2020 0x03 (leBytes 4 n) ∧
      granted (fwState lc 0 0 0 [] []) (.session 9) .rwq 0x2020 0x06 (leBytes 1 1) :=
  ⟨⟨.manager, rfl, rfl⟩, ⟨.manager, rfl, rfl⟩, ⟨.manager, rfl, rfl⟩⟩

/-- A manager session 9 in a life-cycle state, with a request, an OTP word and a challenge for a scope. -/
def lcState (lc : Nat) (otp : Word) (req : Option Nat) (drbg scope : Nat) : State :=
  let s := lifePart lc 0 0 none
  { s with entries := [], dict := Dict.reset, parts := [],
           life := { s.life with otpA := otp, otpB := otp, otpC := otp, request := req, scope := 2,
                                 challenge := some { scope := scope, digest := [1], since := 0, lc := lc } },
           rng := { Rng.reset with drbg := [(4, { Drbg.reset with state := drbg })] } }

/-- A transition that is listed and one that is not, one in progress, ones with and without random bytes, responses of each
kind: the cases of LifeCycleTransitionsAndDebugAccess. -/
theorem test_life :
    (lifeCycle (lcState 1 3 none 1 1) = 1 ∧ transitioning (lcState 1 3 none 1 1) = false ∧ mayTarget (lcState 1 3 none 1 1) 2 ∧
      ¬ mayTarget (lcState 1 3 none 1 1) 4 ∧ transitioning (lcState 1 3 (some 2) 1 1) = true) ∧
      (lifeCycle (lcState 3 0x3F none 1 1) = 3 ∧ lifeCycle (lcState 4 0xFF none 1 1) = 4) ∧
      (max (pendingTarget (otpWord (lcState 1 3 (some 2) 1 1).life)) 2 = 2 ∧ kekReady (lcState 1 3 (some 2) 1 1) 2 = true ∧
        (lcState 1 3 (some 2) 1 1).boot.held = none ∧ kekReady (lcState 1 3 (some 2) 0 1) 2 = false ∧
        (lcState 1 3 (some 2) 0 1).rng.state ≠ 3 ∧ pendingTarget (otpWord (lcState 1 7 none 1 1).life) = 2) ∧
      (transitionBar (lcState 4 0xFF none 1 0x15) 5 true = 0 ∧
        transitioning (lcState 4 0xFF none 1 0x15) = false) ∧
      (leavesTo 4 5 true = true ∧ (lcState 4 0xFF none 1 0x15).life.challenge.map (fun c => c.scope) = some 0x15 ∧
        (drbgOf (lcState 4 0xFF none 1 1) 4).out < 2 ^ 30) := by
  refine ⟨⟨by decide, by decide, by unfold mayTarget; decide, by unfold mayTarget; decide, by decide⟩, by decide, by decide,
    by decide, by decide⟩

/-- The manager may write LC_TARGET and the debug objects. -/
theorem test_life_rights (lc n d sc : Nat) (otp : Word) (req : Option Nat) :
    let s := lcState lc otp req d sc
    granted s (.session 9) .rwq 0x2000 0x04 (leBytes 1 n) ∧ granted s (.session 9) .rwb 0x2010 0x01 (leBytes 1 n) ∧
      granted s (.session 9) .rwb 0x2010 0x03 (leBytes 1 n) ∧ granted s (.session 9) .rwb 0x2010 0x05 (leBytes 1 1) :=
  ⟨⟨.manager, rfl, rfl⟩, ⟨.manager, rfl, rfl⟩, ⟨.manager, rfl, rfl⟩, ⟨.manager, rfl, rfl⟩⟩

/-- A manager session 9 in a life-cycle state, at a time, with source i as f leaves it. -/
def tamperState (lc now : Nat) (main : Bool) (i : Nat) (f : TamperSrc → TamperSrc) : State :=
  let s := lifePart lc 0 0 none
  modSrc { s with entries := [], dict := Dict.reset, now := now, power := { s.power with main := main },
                  tamper := { Tamper.reset with halt := true, latch := true } } i f

/-- A reading that is an excursion, and one of a detector at the low bound of its calibration. -/
def loud : Reading := { beyond := true, plausible := true, sample := 0 }
def calm (i : Nat) (second : Bool) : Reading := { beyond := false, plausible := true, sample := calLow i second }

theorem le_two (b c : Byte) : leNat [b, c] < 65536 := by
  have := b.isLt; have := c.isLt
  simp [leNat]; omega

theorem low_bounds (i : Nat) (second : Bool) : calLow i second < 65536 := by
  have h (b : Bool) : (if b = true then 0 else calRaw i (2 * b2n second)) < 65536 := by
    cases b
    · exact le_two _ _
    · show 0 < 65536; omega
  exact h _

theorem low_high (i : Nat) (second : Bool) : calLow i second ≤ calHigh i second ∨ (second = false ∧ uncoded i = true) := by
  have h := low_bounds i second
  unfold calHigh
  split
  · rename_i u; exact .inr (by simpa using u)
  · left
    have g (b : Bool) : calLow i second ≤ if b = true then 0xFFFF else max (calLow i second) (calRaw i (2 * b2n second + 1)) := by
      cases b
      · exact Nat.le_max_left _ _
      · show _ ≤ 0xFFFF; omega
    exact g _

theorem test_calm (i : Nat) : quietPair i (calm i false) (calm i true) ∧ loudPair i loud loud := by
  have h := low_bounds i
  refine ⟨⟨rfl, rfl, ?_, ?_⟩, rfl, rfl, rfl, rfl⟩
  · rcases low_high i false with l | ⟨_, l⟩ <;> simp [excursion, calm, Nat.mod_eq_of_lt (h false), l]
  · rcases low_high i true with l | ⟨l, _⟩
    · simp [excursion, calm, Nat.mod_eq_of_lt (h true), l]
    · simp at l

/-- A count that completes and one that does not, a source in alarm, backup power, mismatches and bars to a release: the cases of
TamperEventsAreCountedAndAnswered. -/
theorem test_tamper :
    let c := sampleDue (tamperState 3 9000000 true 2 (fun x => { x with history := [8999000], sampledAt := 8999900 })) 2
    let n := sampleDue (tamperState 3 9000000 true 2 (fun x => { x with sampledAt := 8999900, runs := 15 })) 2
    let k := sampleDue (tamperState 3 9000000 true 2 (fun x => { x with history := [8999000], kOk := false })) 2
    let z := tamperState 1 9000000 true 10 id
    let q := tamperState 1 9000000 true 2 id
    (((c.now :: (srcT c 2).history).take 15)[kOf c 2 - 1]? = some 8999000 ∧ c.now ≤ 8999000 + windowOf c 2 ∧ rankFor c 2 = 2 ∧
      (srcT c 2).alarm = false ∧ respOf c 2 = 2 ∧ ((n.now :: (srcT n 2).history).take 15)[kOf n 2 - 1]? = none) ∧
      (rankFor (tamperState 3 0 true 0 id) 0 = 4 ∧ rankFor (tamperState 0 0 true 0 id) 0 = 1 ∧
        rankFor (tamperState 3 0 true 5 id) 5 = 3 ∧ (srcT n 9).alarm = false ∧ respOf n 9 = 2 ∧ compareDue n 2 = true ∧
        (srcT n 2).runs = 15 ∧ (srcT k 2).history[kOf k 2 - 1]? = some 8999000 ∧ (srcT n 2).history = []) ∧
      (respOf z 10 = 3 ∧ (srcT z 10).alarm = false ∧ groupOk (.keyTag 2 7) = true ∧ groupOk (.response 10) = true ∧
        leavesMismatch z .latch = true ∧ leavesMismatch z (.lifeCycle 0 2 5) = true ∧
        lifeCycle (shadowEffect (settleLogic z) .latch) = 1) ∧
      (lifeCycle q = 1 ∧ q.tamper.halt = true ∧ (∀ i ≤ 10, (srcT q i).alarm = false ∧ (srcT q i).history = []) ∧
        (srcT c 2).history = 8999000 :: [] ∧ c.now ≤ 8999000 + 1000000 ∧ 2 ≤ respOf c 2) := by
  refine ⟨by decide, by decide, by decide, by decide⟩

/-- A state at the time of a burst on backup power, with two events of TEMP_HIGH in its window. -/
def burstState : State :=
  let s : State := tamperState 3 9000000 false 3 (fun x => { x with history := [8999000, 8998000] })
  let b : State := { s with power := { s.power with backupMv := 3000 } }
  advanceTo b (b.power.lostAt.max b.tamper.burstAt + 2000)

theorem burst_sources : burstSources burstState = [0, 1, 2, 3, 4, 8] := by decide

/-- A burst on backup power whose source TEMP_HIGH completes its count and the others are quiet. -/
theorem test_burst :
    let u := burstState
    let l := (burstSources u).map (fun i => if i = 3 then BurstReading.mk 3 loud loud else ⟨i, calm i false, calm i true⟩)
    quietBurst u l 3 ∧ burstSources u = [0, 1, 2, 3, 4, 8] ∧ burstReading l 3 = some ⟨3, loud, loud⟩ ∧ standsInAlarm u 3 true true ∧
      (srcT u 3).alarm = false ∧ u.tamper.zeroedBackup = false ∧ rankFor u 3 = 4 := by
  refine ⟨?_, burst_sources, rfl, ?_, rfl, rfl, by decide⟩
  · intro i hi
    have hs := hi
    rw [burst_sources] at hs
    fin_cases hs
    all_goals first
      | exact ⟨_, rfl, fun _ => ⟨(test_calm _).1, .inl (by unfold standsInAlarm; decide)⟩⟩
      | exact ⟨_, rfl, fun h => absurd rfl h⟩
  · exact ⟨8998000, by decide, by decide⟩

/-- The manager may release HALT. -/
theorem test_halt_right (lc n i : Nat) (m : Bool) : granted (tamperState lc n m i id) (.session 9) .rwq 0x6000 0x04 (leBytes 1 1) :=
  ⟨.manager, rfl, rfl⟩

/-- A manager session 9 and a recorder with devices, a clock and a pending count of a code. -/
def evrState (a b : Bool) (wall : Option (Nat × Nat)) (pending tokens : Nat) : State :=
  let s := lifePart 1 0 0 none
  { s with dict := Dict.reset, power := { s.power with main := true },
           evr := { Evr.reset with mode := 0, devA := a, devB := b, wall := wall,
                                   limits := [(0x3001, { rate := 10, burst := 5, tokens := tokens, last := 0, pending := pending, lastEvent := 0 })] } }

/-- Pending counts with and without a token, a clock set and not set, devices of each kind: the cases of
TheRecorderFlushesAnchorsAndDegrades. -/
theorem test_recorder :
    let s := evrState true true (some (5, 0)) 3 0
    let u := carrierDue s 0x3001
    let w := advanceOp s (s.evr.lastAnchor + 86400000)
    (0x3001 ∈ evCodes ∧ (evLimitOf s 0x3001).pending = 3 ∧ 1000 ≤ (evRefill u (evLimitOf u 0x3001)).tokens ∧
      u.evr.buffer.length < 254 ∧ u.evr.held.length + 256 ≤ 262144) ∧
      (s.evr.wall ≠ none ∧ s.evr.mode = 0 ∧ s.power.main = true ∧ w.evr.buffer.length < 254 ∧ w.evr.held.length + 256 ≤ 262144 ∧
        1000 ≤ (evRefill w (evLimitOf w 0x1003)).tokens ∧ s.evr.buffer.length < 254 ∧
        1000 ≤ (evRefill s (evLimitOf s 0x7002)).tokens ∧ 1000 ≤ (evRefill s (evLimitOf s 0x7003)).tokens) := by decide

/-- The manager may set the clock. -/
theorem test_clock_right (a b : Bool) (w : Option (Nat × Nat)) (p n ms : Nat) :
    granted (evrState a b w p n) (.session 9) .rw 0x7000 0x0B (leBytes 6 ms) := ⟨.manager, rfl, rfl⟩

/-- A manager session 9, a bank at a gate level with counts, throttle bits, and tile 1 in a power state. -/
def powerState (gate up : Nat) (throttle tile : Nat) (main ext : Bool) : State :=
  let s := lifePart 1 0 0 none
  { s with dict := Dict.reset, ident := { Ident.reset with external := ext },
           tiles := [(1, { Tile.reset with power := tile, volt := 850 })],
           power := { Power.reset with gate := gate, upCount := up, throttle := throttle, main := main } }

/-- Energies between the thresholds, throttle bits, tiles, slacks and voltages: the cases of
PowerThrottleWearAndBackupAreMeasured. -/
theorem test_power :
    let s := powerState 2 9 0 0 true true
    (s.power.tRestr ≤ s.power.tOpen ∧ s.power.gate ≤ 2 ∧ energyAt 2500 6000 0 < 4000 ∧ 4000 ≤ energyAt 2500 6000 3300 ∧
      energyAt 2500 6000 3300 < 8000 ∧ 8000 ≤ energyAt 2500 6000 5400) ∧
      (10 * objNat s 0x7800 0x03 110 = 1100 ∧ bit s.power.throttle 0 = false ∧ s.therm.hard = false ∧
        bit (powerState 2 9 3 0 true true).power.throttle 1 = true) ∧
      ((tileOf s 1).power ≤ 1 ∧ (tileOf s 1).volt = 850 ∧ (tileOf (powerState 2 9 0 2 true true) 1).power = 2 ∧
        (tileOf s 2).volt < 850 ∨ 850 ≤ (tileOf s 2).volt) ∧
      (s.ident.external = true ∧ respOf s 8 ≤ 2 ∧ s.therm.drift = false ∧ s.power.bankMv + 20 < 2700 + 2700) := by decide

/-- The manager may ask for a plan and tell that the battery is new. -/
theorem test_power_rights (g u th ti : Nat) (m e : Bool) :
    granted (powerState g u th ti m e) (.session 9) .wo 0x7830 0x02 (leBytes 1 1) ∧
      granted (powerState g u th ti m e) (.session 9) .wo 0x7840 0x08 (leBytes 1 1) :=
  ⟨⟨.manager, rfl, rfl⟩, ⟨.manager, rfl, rfl⟩⟩

/-- A manager session 9 in a life-cycle state, with tile 1 as f leaves it. -/
def tileState (lc : Nat) (f : Tile → Tile) : State :=
  let s := lifePart lc 0 0 none
  { s with dict := Dict.reset, entries := [], tiles := [(1, f Tile.reset)] }

/-- Tiles in every power state, the last in service, a fenced one, and the scopes of the test port: the cases of
TilesSleepWakeAndAreTested. -/
theorem test_tiles :
    let run := tileState 1 (fun x => { x with wakeEn := 1 })
    let ecl := tileState 1 (fun x => { x with wakeEn := 1, power := 2 })
    let ent := tileState 1 (fun x => { x with wakeEn := 5, power := 1 })
    let last : State := { run with tiles := [0, 2, 3].map (fun i => (i, { Tile.reset with enable := false })) }
    let alone : State := { ent with tiles := (1, { Tile.reset with power := 1, wakeEn := 5 }) :: last.tiles }
    ((tileOf run 1).power = 0 ∧ (tileOf run 1).wakeEn ≠ 0 ∧ tilesOf run 0 ≠ [1] ∧ tilesOf last 0 = [1] ∧ (tileOf run 1).enable = true) ∧
      ((tileOf ecl 1).power = 2 ∧ (tileOf ecl 1).wakeEn.getLsbD 0 = true ∧ (1 : BitVec 3) &&& (tileOf ecl 1).wakeEn ≠ 0) ∧
      ((tileOf ent 1).power = 1 ∧ homedOn ent 1 = [] ∧ tilesOf ent 0 ≠ [] ∧ (2 : BitVec 3) &&& (tileOf ent 1).wakeEn = 0 ∧
        ((4 : BitVec 3) &&& (tileOf ent 1).wakeEn).getLsbD 2 = true ∧ tilesOf alone 0 = [] ∧ (tileOf alone 1).fenced = false) ∧
      (debugScope run = 2 ∧ dbgReaches run 65 false = true ∧ dbgReaches run 0 true = true ∧ coreAsleep run 65 = false ∧ coreAsleep run 0 = false ∧
        dbgReaches ecl 4 true = true ∧ coreAsleep ecl 4 = true ∧ dbgReaches (tileState 3 id) 65 false = false ∧
        opReaches (tileState 3 id) (.halt 65) = false ∧ (mramByte run 0 0).isSome = true ∧ mramByte run 0 (2 ^ 28 - 1) = none) ∧
      dataBytes 0 = 8192 := by decide

/-- The manager may write the objects of a tile, and a word of a core's memory can be read. -/
theorem test_tile_rights (v : Nat) (f : Tile → Tile) :
    granted (tileState 1 f) (.session 9) .rw 0x8001 0x02 (leBytes 1 v) ∧ granted (tileState 1 f) (.session 9) .rw 0x8001 0x01 (leBytes 1 v) ∧
      granted (tileState 1 f) (.session 9) .wo 0x8001 0x06 (leBytes 1 1) ∧ ∃ v u, loadAt (tileState 1 id) 65 4 4 = .ok (v, u) :=
  ⟨⟨.manager, rfl, rfl⟩, ⟨.manager, rfl, rfl⟩, ⟨.manager, rfl, rfl⟩, _, _, rfl⟩

/-- Well-formed commands of several families: the hypothesis of WellFormedCommandsNeverFault. -/
theorem test_well_formed :
    wellFormed (.descriptorHome 16383 (2 ^ 48 - 1)) = true ∧ wellFormed (.nop 67 .long) = true ∧
      wellFormed (.tileReset (.session 32) 15) = true ∧ wellFormed (.shadowMismatch (.lifeCycle 2 5 7)) = true := by decide

/-- Each check of WellFormed refuses an ill-formed command: queue pair to source. -/
theorem test_ill_formed_units :
    wellFormed (.descriptorHome 16384 0) = false ∧ wellFormed (.descriptorHome 0 (2 ^ 48)) = false ∧
      wellFormed (.partDisagree 4096) = false ∧ wellFormed (.maskReseed 16) = false ∧ wellFormed (.quarterStateError 4) = false ∧
      wellFormed (.ret 68) = false ∧ wellFormed (.inRead 64 0) = false ∧ wellFormed (.journalDeviceFail 2) = false ∧
      wellFormed (.fmpAckTimeout 0) = false ∧ wellFormed (.fmpAckTimeout 128) = false ∧ wellFormed (.busMasterEnableSet 0) = false ∧
      wellFormed (.cancel (.session 33)) = false ∧ wellFormed (.evuEvent 17 0 true) = false ∧ wellFormed (.evuEvent 0 256 true) = false := by
  decide

/-- Each check of WellFormed refuses an ill-formed command: sampler to time. -/
theorem test_ill_formed_fields :
    wellFormed (.rngHealthFail 8 true) = false ∧ wellFormed (.drbgReseed 5) = false ∧ wellFormed (.quorumExpiry 64) = false ∧
      wellFormed (.scriptImage .tunnel 0 65 []) = false ∧ wellFormed (.info .tunnel 65536 0) = false ∧
      wellFormed (.info .tunnel 0 256) = false ∧ wellFormed (.checkpoint 65536) = false ∧ wellFormed (.laneStepDone 0 2 true) = false ∧
      wellFormed (.lcTarget .tunnel 256) = false ∧ wellFormed (.evrCarrier 65536) = false ∧
      wellFormed (.registerWrite (.bar2 (2 ^ 20)) 4 0 0) = false ∧ wellFormed (.registerWrite (.bar2 0) 2 0 0) = false ∧
      wellFormed (.shadowMismatch (.lifeCycle 3 0 0)) = false ∧ wellFormed (.avbDbg (.readReg 0 25)) = false ∧
      wellFormed (.fmpAck 1 0 64 0) = false ∧ wellFormed (.thermalPredict [] 0) = false ∧
      wellFormed (.evrWallClock .tunnel (2 ^ 48)) = false := by decide

/-- A store of M1 to an offset of the open world's half that no chapter gives: the hypotheses of
NothingIsRefusedAndUnlistedStoresChangeNothing. -/
theorem test_unlisted_register :
    let s : State := { State.mgmtRuns with cores := [(65, { EloaCore.mgmt with g := [(1, 0x40009000)] })] }
    (Runs s 65 ∧ named [0, 1]) ∧
      (let a := accessAddr (coreOf s 65) 1 0
       a % 4 = 0 ∧ 0x40008000 ≤ a ∧ a < 0x40010000 ∧ ¬ offsetGiven (a - 0x40000000)) := by
  unfold Runs named offsetGiven; decide

/-- The reset state has canonical memories, and it steps: the hypotheses of EveryStepKeepsMemoriesCanonical. -/
theorem test_canonical : memoriesCanonical State.reset ∧ ∃ t, step State.reset = .next t := by
  refine ⟨⟨rfl, rfl, rfl, fun c => ?_⟩, _, rfl⟩
  unfold coreOf; split <;> exact ⟨rfl, rfl⟩

/-- A module whose fuses show FIELD, and that steps: the hypotheses of NoStepClearsAFuse. -/
theorem test_fuses : fusesBurnt 0x3F 0x3F 0x3F (lcState 3 0x3F none 1 1) ∧ ∃ t, step (lcState 3 0x3F none 1 1) = .next t :=
  ⟨by unfold fusesBurnt; decide, _, rfl⟩

/-- A source that is not fixed: the hypothesis in TheResetStateIsAsGiven. -/
theorem test_free_source : (16 : Nat) ≠ 16 ∨ (0x10 : Nat) ∉ fixedSources := by decide
/-- The LEDs of 17 R466 at reset: start-up in progress, no tamper event, and FULL debug access, which TEST has from reset. -/
theorem test_leds : statusLed State.reset = (.amber, .blink 1) ∧ tamperLed State.reset = (.red, .dark) ∧
    tamperLed { State.reset with tamper := { Tamper.reset with latch := true } } = (.red, .steady) ∧
    custodianLed State.reset = (.blue, .blink 4) := by
  decide

/-- A command that answers a next state and leaves components out, and commands of one descriptor, queue pair, tile and partition that
do so beside another: the hypotheses of CommandsChangeOnlyTheirComponents. -/
theorem test_frame_of_commands :
    let x := dataState (mkDesc 0x0F12 0 0 [])
    (∃ t, exec (.tryCounterRead 5 0) x.1 = .next t) ∧ entryOf x.1 5 0 = some x.2 ∧ Component.ddr ∉ mayChange (.tryCounterRead 5 0) ∧
      (∃ t, exec (.vaultGrant 5 0) x.1 = .next t) ∧ (∃ t, exec (.coalTimeExpiry 16383) x.1 = .next t) ∧
      (∃ t, exec (.tileDisagree 15) x.1 = .next t) ∧ ∃ t, exec (.partDisagree 4095) x.1 = .next t :=
  ⟨⟨_, rfl⟩, by decide, by decide, ⟨_, rfl⟩, ⟨_, rfl⟩, ⟨_, rfl⟩, ⟨_, rfl⟩⟩

end Sys2Proof.Tests
end

section
/-!
SUPPORT. Where a word that changes its core alone lands, what two changes of one core come to, and what a register reads.
-/

namespace Sys2Proof.Machine

open Sys2Proof

/-- A word that only changes its core lands there. -/
theorem runs_modCore {s : State} {c : Nat} {f : State → Except Stop State} {g : EloaCore → EloaCore} (h : Runs s c)
    (hf : f s = .ok (modCore s c g)) : execWord c f s = .next (landed s c (g (coreOf s c))) :=
  (runs_word h hf).trans rfl

@[simp] theorem addCycles_addCycles (k : EloaCore) (m n : Nat) : addCycles (addCycles k m) n = addCycles k (m + n) := by
  simp [addCycles, BitVec.ofNat_add, BitVec.add_assoc, Nat.sub_sub]

@[simp] theorem tblSet_tblSet {α : Type} (t : Tbl α) (k : Nat) (v w : α) : tblSet (tblSet t k v) k w = tblSet t k w := by
  induction t with
  | nil => simp [tblSet]
  | cons x r ih =>
    obtain ⟨j, u⟩ := x
    by_cases hj : j = k
    · simp [tblSet, hj]
    · by_cases hk : k < j <;> simp [tblSet, hj, hk, ih]

@[simp] theorem coreOf_modCore_same (s : State) (c : Nat) (f : EloaCore → EloaCore) :
    coreOf (modCore s c f) c = f (coreOf s c) := by
  unfold coreOf
  simp only [modCore_cores, tblGet_tblSet_same, coreOf]

theorem coreOf_modCore_other (s : State) {c d : Nat} (f : EloaCore → EloaCore) (h : d ≠ c) :
    coreOf (modCore s c f) d = coreOf s d := by
  simp [coreOf, tblGet_tblSet_other _ _ _ _ _ h]

theorem modCore_modCore (s : State) (c : Nat) (f g : EloaCore → EloaCore) :
    modCore (modCore s c f) c g = modCore s c (fun k => g (f k)) := by
  have h : tblSet (tblSet s.cores c (f (coreOf s c))) c (g (coreOf (modCore s c f) c)) =
      tblSet s.cores c (g (f (coreOf s c))) := by simp
  unfold modCore at h ⊢
  rw [h]

/-- The globals (09 R279). -/
theorem reg_global (k : EloaCore) {r : Nat} (h : r < 8) : reg k r = tblGet 0 k.g r := by
  simp [reg, readReg, h]

/-- The registers of the visible window (09 R279, R283). -/
theorem reg_window (k : EloaCore) {r : Nat} (h : r < 16) : reg k (8 + r) = tblGet 0 k.win (8 * k.f + r) := by
  have h1 : ¬ 8 + r < 8 := by omega
  have h2 : 8 + r < 24 := by omega
  simp [reg, readReg, h1, h2]

end Sys2Proof.Machine
end

section
/-!
PROOFS. The branch: the condition of B is the entry of R293's table that its cond field names.
-/

namespace Sys2Proof.Machine

open Sys2Proof

/-- The conditions of R293 in the order of their numbers. -/
def conditions (k : CoreCtl) : List Bool :=
  [true, k.z, !k.z, k.c, !k.c, k.n, !k.n, k.v, !k.v, k.c && !k.z, !k.c || k.z, k.n == k.v, k.n != k.v, !k.z && k.n == k.v,
   k.z || k.n != k.v, k.dz]

theorem conditions_getElem (k : CoreCtl) (cond : BitVec 4) :
    (conditions k)[cond.toNat]? = some (condHolds k cond.toNat) := by
  have h : cond.toNat < 16 := cond.isLt
  generalize cond.toNat = n at h
  interval_cases n <;> rfl

/-- The core that B with this condition and displacement makes of k (09 R291). -/
def branched (k : EloaCore) (cond : BitVec 4) (disp : BitVec 20) : EloaCore :=
  if condHolds k.ctl cond.toNat then addCycles { k with pc := branchTo k.pc disp } 2
  else addCycles { k with pc := k.pc + 4 } 1

theorem exec_b {s : State} {c : Nat} (h : Runs s c) (cond : BitVec 4) (disp : BitVec 20) :
    exec (.b c cond disp) s = .next (landed s c (branched (coreOf s c) cond disp)) :=
  runs_modCore (f := fun s => .ok (modCore s c (fun k => branched k cond disp))) (g := fun k => branched k cond disp) h rfl

/-- Settles O16: the table of conditions is condHolds, and the branch goes by it. -/
theorem branchTakesItsCondition : Obligations.BranchTakesItsCondition := by
  intro s c cond disp h k holds
  have ht : holds[cond.toNat]? = some (condHolds k.ctl cond.toNat) := conditions_getElem k.ctl cond
  refine ⟨fun hc => ?_, fun hc => ?_⟩
  · have hk : condHolds k.ctl cond.toNat = true := Option.some.inj (ht.symm.trans hc)
    rw [exec_b h, branched, if_pos hk]; rfl
  · have hk : condHolds k.ctl cond.toNat = false := Option.some.inj (ht.symm.trans hc)
    rw [exec_b h, branched, if_neg (by rw [hk]; decide)]

end Sys2Proof.Machine
end

section
/-!
PROOFS. Calls, jumps by a register and returns: what the window shows after a slide, and the return stack.
-/

namespace Sys2Proof.Machine

open Sys2Proof

theorem tblGet_tblErase {α : Type} (d : α) (t : Tbl α) (k j : Nat) :
    tblGet d (tblErase t k) j = if j = k then d else tblGet d t j := by
  induction t with
  | nil => simp [tblErase, tblGet]
  | cons x r ih =>
    obtain ⟨i, v⟩ := x
    by_cases hi : i = k
    · rw [tblErase, if_pos hi, ih, tblGet, hi]
      split
      · rfl
      · rw [if_neg (Ne.symm ‹_›)]
    · by_cases hj : i = j
      · simp [tblErase, tblGet, hj, hj ▸ hi]
      · simp [tblErase, hi, tblGet, hj, ih]

/-- Erasing the keys m + i for i in a list. -/
theorem tblGet_eraseAll {α : Type} (d : α) (m : Nat) (l : List Nat) (t : Tbl α) (j : Nat) :
    tblGet d (l.foldl (fun w i => tblErase w (m + i)) t) j = if ∃ i ∈ l, j = m + i then d else tblGet d t j := by
  induction l generalizing t with
  | nil => simp
  | cons i r ih =>
    rw [List.foldl_cons, ih, tblGet_tblErase]
    by_cases h : ∃ x ∈ r, j = m + x <;> simp [h]

/-- A zeroed frame reads as zero, and every other register of the window as before (09 R283). -/
theorem zeroFrame_window (k : EloaCore) (n j : Nat) :
    tblGet 0 (zeroFrame k n).win j = if 8 * n ≤ j ∧ j < 8 * n + 8 then 0 else tblGet 0 k.win j := by
  have h : (∃ i ∈ List.range 8, j = 8 * n + i) ↔ 8 * n ≤ j ∧ j < 8 * n + 8 := by
    refine ⟨fun ⟨i, hi, e⟩ => ?_, fun ⟨h1, h2⟩ => ⟨j - 8 * n, List.mem_range.mpr (by omega), by omega⟩⟩
    have := List.mem_range.mp hi
    omega
  simp only [zeroFrame, tblGet_eraseAll, h]

/-- The core that a call to t makes of k (09 R283, R285). -/
def called (k : EloaCore) (t : Word) : EloaCore :=
  addCycles { slideUp { k with ret := (k.pc + 4) :: k.ret } 1 with pc := t } 2

theorem called_win (k : EloaCore) (t : Word) : (called k t).win = (zeroFrame k (k.f + 1 + 1)).win := rfl

theorem called_f (k : EloaCore) (t : Word) : (called k t).f = k.f + 1 := rfl

/-- The registers after a call: the caller's upper half as the lower half, a zeroed upper half, the globals (09 R283). -/
theorem called_reg (k : EloaCore) (t : Word) {r : Nat} (h : r < 8) :
    reg (called k t) (8 + r) = reg k (16 + r) ∧ reg (called k t) (16 + r) = 0 ∧ reg (called k t) r = reg k r := by
  have e : 16 + r = 8 + (8 + r) := by omega
  refine ⟨?_, ?_, ?_⟩
  · rw [e, reg_window _ (by omega), reg_window _ (by omega), called_win, called_f, zeroFrame_window, if_neg (by omega)]
    congr 1; omega
  · rw [e, reg_window _ (by omega), called_win, called_f, zeroFrame_window, if_pos (by omega)]
  · rw [reg_global _ h, reg_global _ h]; rfl

theorem called_spec (k : EloaCore) (t : Word) : Called k (called k t) t := by
  refine ⟨rfl, rfl, rfl, rfl, fun r hr => called_reg k t hr, rfl, ?_, rfl, rfl⟩
  show k.ctl.cycle + BitVec.ofNat 32 (16 * ((called k t).b - k.b)) + BitVec.ofNat 32 2 = _
  rw [BitVec.add_assoc, ← BitVec.ofNat_add, Nat.add_comm]

theorem callTo_room {s : State} {c : Nat} (target : EloaCore → Word) (h : (coreOf s c).ret.length < 32) :
    callTo c target s = .ok (modCore s c (fun k => called k (target k))) :=
  if_neg (by omega)

/-- A call with room on the return stack lands as a core that has been called. -/
theorem callTo_lands {s : State} {c : Nat} (h : Runs s c) (target : EloaCore → Word) (hr : (coreOf s c).ret.length < 32) :
    execWord c (callTo c target) s = .next (landed s c (called (coreOf s c) (target (coreOf s c)))) :=
  runs_modCore (g := fun k => called k (target k)) h (callTo_room target hr)

theorem callTo_full {s : State} {c : Nat} (target : EloaCore → Word) (h : 32 ≤ (coreOf s c).ret.length) :
    callTo c target s = .error (.fault 3) :=
  if_pos h

theorem withRegs_named {α : Type} {l : List Reg} (h : named l) (x : Except Stop α) : withRegs l x = x :=
  if_pos (regs_named h)

theorem retWord_empty {s : State} {c : Nat} (h : (coreOf s c).ret = []) : retWord c s = .error (.fault 4) := by
  simp [retWord, h]

/-- The core that a return to p makes of k, with rest left on the return stack (09 R283 to R285). -/
def returned (k : EloaCore) (p : Word) (rest : List Word) : EloaCore :=
  addCycles { k with pc := p, ret := rest, f := k.f - 1, b := min k.b (k.f - 1) } (2 + 16 * (k.b - (k.f - 1)))

/-- RET pops its address, and the window moves down by a frame (09 R283, R285). -/
theorem ret_lands {s : State} {c : Nat} {p : Word} {rest : List Word} (h : Runs s c) (hr : (coreOf s c).ret = p :: rest) :
    execWord c (retWord c) s = .next (landed s c (returned (coreOf s c) p rest)) := by
  have hk (k : EloaCore) : addCycles { slideDown { k with ret := rest } 1 with pc := p } 2 = returned k p rest := by
    rw [returned, Nat.add_comm, ← addCycles_addCycles]; rfl
  exact runs_modCore (g := fun k => returned k p rest) h (by simp only [retWord, hr, hk])

theorem exec_call (c : Nat) (disp : BitVec 20) (s : State) :
    exec (.call c disp) s = execWord c (callTo c (fun k => branchTo k.pc disp)) s := rfl

theorem exec_callr {ra : Reg} (hn : named [ra]) (c : Nat) (s : State) :
    exec (.callr c ra) s = execWord c (callTo c (fun k => reg k ra.toNat)) s := by
  show execWord c (fun s => withRegs [ra] (callTo c (fun k => reg k ra.toNat) s)) s = _
  simp only [withRegs_named hn]

theorem exec_jmpr {ra : Reg} (hn : named [ra]) (c : Nat) (s : State) :
    exec (.jmpr c ra) s =
      execWord c (fun s => .ok (modCore s c (fun k => addCycles { k with pc := reg k ra.toNat } 2))) s := by
  show execWord c (fun s => withRegs [ra] (.ok (modCore s c (fun k => addCycles { k with pc := reg k ra.toNat } 2)))) s = _
  simp only [withRegs_named hn]

theorem exec_ret (c : Nat) (s : State) : exec (.ret c) s = execWord c (retWord c) s := rfl

/-- Settles O17: a call is callTo, whose result called_spec describes; JMPR and RET land as their words say. -/
theorem callsAndReturnsMoveTheWindow : Obligations.CallsAndReturnsMoveTheWindow := by
  intro s c ra disp h hn k a
  rw [exec_call, exec_callr hn, exec_jmpr hn, exec_ret]
  refine ⟨fun hr => ⟨⟨_, called_spec _ _, callTo_lands h _ hr⟩, ⟨_, called_spec _ _, callTo_lands h _ hr⟩⟩,
    fun hr => ⟨?_, ?_⟩, ?_, fun p rest hr => ?_, fun hr => ?_⟩
  · exact runs_fault h (callTo_full _ hr)
  · exact runs_fault h (callTo_full _ hr)
  · exact runs_modCore (g := fun k => addCycles { k with pc := reg k ra.toNat } 2) h rfl
  · exact ret_lands h hr
  · exact runs_fault h (retWord_empty hr)

end Sys2Proof.Machine
end

section
/-!
SUPPORT. A pair of a slot and a NOP, in either order, does what the slot does.
-/

namespace Sys2Proof.Machine

open Sys2Proof

theorem slot_nop (s : State) (c : Nat) (k : EloaCore) : slot s c k nopSlot = .ok (SlotRes.none, s) := rfl

theorem pairDependent_nop_right (x : Short) : pairDependent x nopSlot = false := by
  simp [pairDependent, slotWrites, slotReads, slotUse, sopUse, nopSlot]

theorem pairDependent_nop_left (x : Short) : pairDependent nopSlot x = false := by
  simp [pairDependent, slotWrites, slotUse, sopUse, nopSlot]

theorem slotStore_none {s : State} {c : Nat} {r : SlotRes} (h : r.store = none) : slotStore s c r = none := by
  simp [slotStore, h]

/-- A slot that completes, with a NOP after it or before it. -/
theorem pairWord_beside_nop {s : State} {c : Nat} {x : Short} {r : SlotRes} (hx : slot s c (coreOf s c) x = .ok (r, s))
    (hs : slotStore s c r = none) :
    pairWord c x nopSlot s = commitWord s c (if slotLoads x then 2 else 1) r ∧
      pairWord c nopSlot x s = commitWord s c (if slotLoads x then 2 else 1) r := by
  have hn : slotLoads nopSlot = false := rfl
  constructor
  · simp [pairWord, pairDependent_nop_right, hx, hs, slot_nop, hn, SlotRes.none]
  · simp [pairWord, pairDependent_nop_left, hx, slot_nop, hn, slotStore_none, SlotRes.none]

/-- A slot that faults, with a NOP after it or before it. -/
theorem pairWord_fault_beside_nop {s : State} {c : Nat} {x : Short} {e : Stop} (hx : slot s c (coreOf s c) x = .error e) :
    pairWord c x nopSlot s = .error e ∧ pairWord c nopSlot x s = .error e := by
  constructor
  · simp [pairWord, pairDependent_nop_right, hx]
  · simp [pairWord, pairDependent_nop_left, hx, slot_nop, slotStore_none, SlotRes.none]

theorem commitWord_no_store {s : State} {c n : Nat} {r : SlotRes} (h : r.store = none) :
    commitWord s c n r = .ok (modCore s c (fun k => pairCore k r.regs r.flags n)) := by
  simp [commitWord, h, pairCore]

/-- The rows of the table whose constructor is mk execute the short operation sop. -/
def executesShort (mk : ShortForm → Instr) (c : Nat) (sop : BitVec 5) : Prop :=
  ∀ (f : ShortForm) (s : State), exec (mk f) s = execWord c (shortWord c sop f) s

section
variable {mk : ShortForm → Instr} {s : State} {c : Nat} {sop rd x : BitVec 5}

/-- A short operation whose commit changes its core alone lands there from either slot beside a NOP. -/
theorem inPair_of_commit {r : SlotRes} {g : EloaCore → EloaCore} (hm : executesShort mk c sop) (h : Runs s c)
    (hx : slot s c (coreOf s c) { sop := sop, rd := rd, x := x } = .ok (r, s)) (hs : slotStore s c r = none)
    (hc : commitWord s c (if slotLoads { sop := sop, rd := rd, x := x } then 2 else 1) r = .ok (modCore s c g)) :
    inPair mk s c rd x (g (coreOf s c)) := by
  obtain ⟨ha, hb⟩ := pairWord_beside_nop hx hs
  unfold inPair
  rw [hm, hm]
  exact ⟨runs_modCore h (ha.trans hc), runs_modCore h (hb.trans hc)⟩

/-- A short operation that stores nothing writes its registers and flags. -/
theorem inPair_of_slot {r : SlotRes} (hm : executesShort mk c sop) (h : Runs s c)
    (hx : slot s c (coreOf s c) { sop := sop, rd := rd, x := x } = .ok (r, s)) (hs : r.store = none) :
    inPair mk s c rd x (pairCore (coreOf s c) r.regs r.flags (if slotLoads { sop := sop, rd := rd, x := x } then 2 else 1)) :=
  inPair_of_commit (g := fun k => pairCore k r.regs r.flags _) hm h hx (slotStore_none hs) (commitWord_no_store hs)

/-- A short operation that faults takes its fault from either slot beside a NOP. -/
theorem faults_beside_nop {n : Nat} (hm : executesShort mk c sop) (h : Runs s c)
    (hx : slot s c (coreOf s c) { sop := sop, rd := rd, x := x } = .error (.fault n)) :
    exec (mk (.slotA rd x nopSlot)) s = .next (faulted s c n) ∧ exec (mk (.slotB nopSlot rd x)) s = .next (faulted s c n) := by
  obtain ⟨ha, hb⟩ := pairWord_fault_beside_nop hx
  rw [hm, hm]
  exact ⟨runs_fault h ha, runs_fault h hb⟩

end

/-- A slot whose registers are defined passes the check for UNDEF (09 R290). -/
theorem not_undefined {x : Short} (hr : ∀ n ∈ slotReads x ++ slotWrites x, n ≤ 24) (h0 : x.sop ≠ 0) :
    ¬ ((slotReads x ++ slotWrites x).any (fun n => !regOk n) = true ∨ (x.sop = 0 ∧ (x.rd ≠ 0 ∨ x.x ≠ 0))) := by
  rintro (hu | ⟨hz, _⟩)
  · obtain ⟨n, hn, hv⟩ := List.any_eq_true.mp hu
    simp [regOk, hr n hn] at hv
  · exact h0 hz

/-- What a slot does whose registers are defined and that is no access to memory (09 R288, R292). -/
theorem slot_alu {s : State} {c : Nat} {k : EloaCore} {x : Short} {r : SlotRes}
    (hr : ∀ n ∈ slotReads x ++ slotWrites x, n ≤ 24) (h0 : x.sop ≠ 0) (hm : ¬ usesMemory x.sop.toNat)
    (ha : shortAlu k.ctl x.sop.toNat x.rd.toNat (reg k x.rd.toNat) (reg k x.x.toNat) x.x = some r) :
    slot s c k x = .ok (r, s) := by
  unfold usesMemory at hm
  unfold slot
  dsimp only
  rw [if_neg (not_undefined hr h0)]
  split
  case h_7 => rw [ha]
  all_goals exact absurd ‹x.sop.toNat = _› (by omega)

end Sys2Proof.Machine
end

section
/-!
PROOFS. LUHN: with a digit above 9 it writes its register back, and a register that the state's table of globals did not
list is listed afterwards.
-/

namespace Sys2Proof.Machine

open Sys2Proof

/-- The table of globals of core c after a command. -/
def globalsAfter (c : Nat) (o : Host.Outcome State Fault Refusal) : Tbl Word :=
  match o with
  | .next t => (coreOf t c).g
  | _ => []

/-- Core 65 runs with 10 in g1, and its table lists no other global: g0 reads 0. -/
def badDigit : State := modCore State.mgmtRuns 65 (fun k => { k with g := [(1, 10)] })

theorem badDigit_runs : Runs badDigit 65 ∧ named [0, 1] ∧ 9 < (reg (coreOf badDigit 65) 1).toNat % 16 := by
  unfold Runs named; decide

/-- LUHN g0, g1 lists g0 with its value 0. -/
theorem luhn_lists_its_register :
    globalsAfter 65 (exec (.luhn 65 (.slotA 0 1 nopSlot)) badDigit) = [(0, 0), (1, 10)] := by decide

/-- A core whose word writes flags alone keeps its table. -/
theorem flagCore_lists_as_before (f : FlagSet) (n : Nat) :
    globalsAfter 65 (.next (landed badDigit 65 (flagCore (coreOf badDigit 65) f n))) = [(1, 10)] := by
  have hd : ¬ (coreOf (modCore badDigit 65 (fun _ => flagCore (coreOf badDigit 65) f n)) 65).dbg = 2 := by
    rw [coreOf_modCore_same]; show ¬ (coreOf badDigit 65).dbg = 2; decide
  show (coreOf (stepped (modCore badDigit 65 (fun _ => flagCore (coreOf badDigit 65) f n)) 65) 65).g = _
  rw [stepped, if_neg hd, coreOf_modCore_same]
  show (coreOf badDigit 65).g = _
  decide

/-- Refutes O10 in its clause on a digit or SUM above 9, with g0 as rd and 10 in g1: the statement asks for a state with the flag V
alone written, and LUHN writes the value of rd back, which adds the entry (0, 0) to a table of globals that did not list g0. The
register reads the same before and after; the two states differ. -/
theorem not_luhnAndDecimalisationSteps : ¬ Obligations.LuhnAndDecimalisationSteps := by
  intro h
  obtain ⟨hr, hn, hd⟩ := badDigit_runs
  obtain ⟨hl, -⟩ := (h.1 badDigit 65 0 1 hr hn).2.1 (.inl hd)
  have hg := congrArg (globalsAfter 65) hl
  rw [luhn_lists_its_register, flagCore_lists_as_before] at hg
  exact absurd hg (by decide)

end Sys2Proof.Machine
end

section
/-!
SUPPORT. Words in data memory: a store to data memory, its bytes, and the word that four bytes spell.
-/

namespace Sys2Proof.Machine

open Sys2Proof

theorem placeOf_data {s : State} {c a : Nat} (h : a < dataBytes c) : placeOf s c a = .ok (.data a) := by
  unfold dataBytes at h
  unfold placeOf
  split at h
  · rw [if_pos ‹_›, if_pos h]
  · rw [if_neg ‹_›, if_pos h]

/-- A store to data memory changes the core's memory alone (09 R281). -/
theorem storeAt_data {s : State} {c a n : Nat} (v : Nat) (hn : a % n = 0) (h : a < dataBytes c) :
    storeAt s c a n v = .ok (modCore s c (fun k => { k with mem := Memory.write k.mem a (leBytes n v) })) := by
  simp [storeAt, accessOf, hn, placeOf_data h]

/-- The core that commits registers, flags and a store of n bytes to data memory. -/
def storeCore (k : EloaCore) (r : SlotRes) (n a v : Nat) : EloaCore :=
  { pairCore k r.regs r.flags 1 with mem := Memory.write (pairCore k r.regs r.flags 1).mem a (leBytes n v) }

theorem commitWord_store {s : State} {c n m a v : Nat} {r : SlotRes} (hr : r.store = some (m, a, v)) :
    commitWord s c n r = storeAt (modCore s c (fun k => pairCore k r.regs r.flags n)) c a m v := by
  simp [commitWord, hr, pairCore]

theorem commitWord_data_store {s : State} {c n a v : Nat} {r : SlotRes} (hr : r.store = some (n, a, v)) (hn : a % n = 0)
    (h : a < dataBytes c) : commitWord s c 1 r = .ok (modCore s c (fun k => storeCore k r n a v)) := by
  rw [commitWord_store hr, storeAt_data v hn h, modCore_modCore]
  rfl

theorem slotStore_data {s : State} {c n a v : Nat} {r : SlotRes} (hr : r.store = some (n, a, v)) (hn : a % n = 0)
    (h : a < dataBytes c) : slotStore s c r = none := by
  simp only [slotStore, hr, storeAt_data v hn h]

theorem leBytes_getElem (n v i : Nat) (h : i < (leBytes n v).length) : (leBytes n v)[i] = BitVec.ofNat 8 (v / 256 ^ i) := by
  induction n generalizing v i with
  | zero => simp at h
  | succ n ih =>
    cases i with
    | zero => simp [leBytes]
    | succ i => simp [leBytes, ih, Nat.div_div_eq_div_mul, Nat.pow_succ, Nat.mul_comm]

/-- The bytes of a word, low byte first (00 R9). -/
theorem leBytes_word (n i : Nat) (v : Word) (h : i < (leBytes n v.toNat).length) :
    (leBytes n v.toNat)[i] = (v >>> (8 * i)).setWidth 8 := by
  rw [leBytes_getElem]
  apply BitVec.eq_of_toNat_eq
  simp [Nat.shiftRight_eq_div_pow, Nat.pow_mul]

/-- A write of a word's low bytes is a store in the sense of the statements. -/
theorem stored_write {m : List Host.Cell} (h : Memory.wf m = true) (a n : Nat) (v : Word) :
    Stored m (Memory.write m a (leBytes n v.toNat)) a n v := by
  refine ⟨Memory.wf_write a _ h, fun b => ?_⟩
  split
  next hb =>
    obtain ⟨i, rfl⟩ : ∃ i, b = a + i := ⟨b - a, by omega⟩
    rw [Memory.get_write_at _ _ _ _ h (by rw [leBytes_length]; omega), leBytes_word, Nat.add_sub_cancel_left]
  next hb => exact Memory.get_write_other _ _ _ _ (by rw [leBytes_length]; omega)

/-- Four bytes, low byte first, as a word (00 R9). -/
theorem word_of_read (m : List Host.Cell) (a : Nat) :
    BitVec.ofNat 32 (leNat (Memory.read m a 4)) =
      Memory.get m (a + 3) ++ Memory.get m (a + 2) ++ Memory.get m (a + 1) ++ Memory.get m a := by
  have hr : Memory.read m a 4 = [Memory.get m a, Memory.get m (a + 1), Memory.get m (a + 2), Memory.get m (a + 3)] := rfl
  rw [hr]
  generalize Memory.get m a = x0
  generalize Memory.get m (a + 1) = x1
  generalize Memory.get m (a + 2) = x2
  generalize Memory.get m (a + 3) = x3
  apply BitVec.eq_of_toNat_eq
  rw [BitVec.toNat_append, BitVec.toNat_append, BitVec.toNat_append, ← Nat.shiftLeft_add_eq_or_of_lt x2.isLt,
    ← Nat.shiftLeft_add_eq_or_of_lt x1.isLt, ← Nat.shiftLeft_add_eq_or_of_lt x0.isLt]
  simp only [leNat, BitVec.toNat_ofNat, Nat.shiftLeft_eq]
  omega

end Sys2Proof.Machine
end

section
/-!
SUPPORT. The data stack pointer of every core through the delivery of interrupts and the taking of faults: only the words of a
core's own program move it.
-/

namespace Sys2Proof.Machine

open Sys2Proof

/-- Every core has the ds in t that it has in s. -/
def SameDs (s t : State) : Prop := ∀ d : Nat, (coreOf t d).ds = (coreOf s d).ds

theorem SameDs.trans {s t u : State} (h : SameDs s t) (g : SameDs t u) : SameDs s u := fun d => (g d).trans (h d)

theorem SameDs.of_cores {s t : State} (h : t.cores = s.cores) : SameDs s t := fun d => by simp only [coreOf, h]

/-- What does not change the cores leaves ds alone. -/
theorem SameDs.of_frame {l : List Component} {s t : State} (h : SameBut l s t) (hl : Component.cores ∉ l) : SameDs s t :=
  SameDs.of_cores (h .cores hl)

theorem SameDs.modCore (s : State) (c : Nat) {f : EloaCore → EloaCore} (hf : ∀ k, (f k).ds = k.ds) :
    SameDs s (modCore s c f) := by
  intro d
  by_cases hd : d = c
  · rw [hd, coreOf_modCore_same, hf]
  · rw [coreOf_modCore_other _ _ hd]

theorem SameDs.foldl {α : Type} {f : State → α → State} (hf : ∀ s x, SameDs s (f s x)) (l : List α) (s : State) :
    SameDs s (l.foldl f s) := by
  induction l generalizing s with
  | nil => exact fun _ => rfl
  | cons x r ih => exact (hf s x).trans (ih (f s x))

theorem slideUp_ds (k : EloaCore) (n : Nat) : (slideUp k n).ds = k.ds := by
  unfold slideUp
  dsimp only
  split <;> rfl

theorem pendEdge_sameDs (s : State) (u n : Nat) : SameDs s (pendEdge s u n) := by
  unfold pendEdge
  dsimp only
  split
  · exact SameDs.of_cores rfl
  · exact fun _ => rfl

theorem lookTimers_sameDs (s : State) (c : Nat) : SameDs s (lookTimers s c) := by
  unfold lookTimers
  split
  · exact fun _ => rfl
  · refine (SameDs.modCore s c ?_).trans (SameDs.foldl (fun t n => pendEdge_sameDs t _ n) _ _)
    exact fun _ => rfl

theorem deliver_sameDs (s : State) (u k : Nat) : SameDs s (deliver s u k) := by
  unfold deliver
  dsimp only
  split
  · exact fun _ => rfl
  next n _ =>
    have hc : SameDs s (commitDelivery s u k n) := SameDs.of_cores (by simp [commitDelivery, modEvuCore])
    refine (hc.trans (SameDs.modCore _ _ ?_)).trans (lookTimers_sameDs _ _)
    exact fun _ => slideUp_ds _ _

theorem deliverMany_sameDs (s : State) (u n : Nat) : SameDs s (deliverMany s u n) := by
  induction n generalizing s with
  | zero => exact fun _ => rfl
  | succ n ih =>
    unfold deliverMany
    split
    · exact fun _ => rfl
    · exact (deliver_sameDs s u _).trans (ih _)

theorem raiseModule_sameDs (s : State) (n : Nat) : SameDs s (raiseModule s n) :=
  (pendEdge_sameDs s 16 n).trans (deliverMany_sameDs _ 16 64)

theorem recordOpen_sameDs (s : State) (kind src : Nat) : SameDs s (recordOpen s kind src) := by
  have hf : SameDs s (takeFree (takeFree s).2).2 := SameDs.of_cores (by simp)
  unfold recordOpen
  dsimp only
  exact hf.trans (SameDs.of_frame (record_frame _ _ _ _ _) (by decide))

theorem moduleFailure_sameDs (s : State) : SameDs s (moduleFailure s) :=
  SameDs.of_cores (by simp [moduleFailure, nsAppend, modTamper])

/-- A management core that takes a fault keeps its ds, whether it enters its handler or stops (09 R306). -/
theorem takeFault_mgmt_sameDs (s : State) {c : Nat} (n : Nat) (h : 64 ≤ c) : SameDs s (takeFault s c n) := by
  have hs (m : Nat) : SameDs s (raiseModule (modCore s c (fun x => { x with stopped := true })) m) :=
    (SameDs.modCore s c (f := fun x => { x with stopped := true }) (fun _ => rfl)).trans (raiseModule_sameDs _ _)
  unfold takeFault
  dsimp only
  rw [if_neg (by omega)]
  split
  · split
    · exact (hs _).trans ((recordOpen_sameDs _ _ _).trans (moduleFailure_sameDs _))
    · exact hs _
  · have hr (x : State) (f : EvuCore → EvuCore) : SameDs x (modEvuCore x 16 (c - 64) f) := SameDs.of_cores (by simp [modEvuCore])
    refine (hr _ _).trans (SameDs.modCore _ _ ?_)
    exact fun _ => slideUp_ds _ _

theorem stepped_sameDs (s : State) (c : Nat) : SameDs s (stepped s c) := by
  unfold stepped
  split
  · exact SameDs.modCore s c (fun _ => rfl)
  · exact fun _ => rfl

theorem faulted_mgmt_ds (s : State) {c : Nat} (n : Nat) (h : 64 ≤ c) : (coreOf (faulted s c n) c).ds = (coreOf s c).ds :=
  ((takeFault_mgmt_sameDs s n h).trans (stepped_sameDs _ c)) c

end Sys2Proof.Machine
end

section
/-!
PROOFS. PUSH and POP beside a NOP.
-/

namespace Sys2Proof.Machine

open Sys2Proof

theorem slot_push (s : State) (c : Nat) (k : EloaCore) {rd : Reg} (x : BitVec 5) (h : rd.toNat ≤ 24) :
    slot s c k { sop := 21, rd := rd, x := x } = (pushAt c k.ds (reg k rd.toNat)).map (fun r => (r, s)) := by
  unfold slot
  dsimp only
  rw [if_neg (not_undefined (by simp [slotReads, slotWrites, slotUse, sopUse, h]) (show (21 : BitVec 5) ≠ 0 by decide))]
  cases pushAt c k.ds (reg k rd.toNat) <;> rfl

theorem slot_pop (s : State) (c : Nat) (k : EloaCore) {rd : Reg} (x : BitVec 5) (h : rd.toNat ≤ 24) :
    slot s c k { sop := 22, rd := rd, x := x } = (popAt k c rd.toNat).map (fun r => (r, s)) := by
  unfold slot
  dsimp only
  rw [if_neg (not_undefined (by simp [slotReads, slotWrites, slotUse, sopUse, h]) (show (22 : BitVec 5) ≠ 0 by decide))]
  cases popAt k c rd.toNat <;> rfl

theorem push_executes (c : Nat) : executesShort (.push c) c 21 := fun _ _ => rfl
theorem pop_executes (c : Nat) : executesShort (.pop c) c 22 := fun _ _ => rfl

/-- ds and another register may be written in either order. -/
theorem writeReg_then_ds (k : EloaCore) {r : Nat} (h : r < 24) (v w : Word) :
    writeReg (writeReg k r v) 24 w = writeReg { k with ds := w } r v := by
  by_cases h8 : r < 8 <;> simp [writeReg, h8, h]

/-- What PUSH of v does to a core with this ds, where the word below it, at a, is in data memory. -/
def pushRes (ds v : Word) (a : Nat) : SlotRes :=
  { regs := [(24, ds - 4)], flags := FlagSet.keep, store := some (4, a, v.toNat) }

theorem storeCore_pushRes (k : EloaCore) (v : Word) (a : Nat) :
    storeCore k (pushRes k.ds v a) 4 a v.toNat =
      addCycles { k with ds := k.ds - 4, pc := k.pc + 4, mem := Memory.write k.mem a (leBytes 4 v.toNat) } 1 := rfl

section
variable {s : State} {c : Nat} {rd : Reg}

/-- PUSH where the word below ds is in data memory (09 R286). -/
theorem push_lands (h : Runs s c) (hn : rd.toNat ≤ 24) (hp : (coreOf s c).ds.toNat % 4 = 0)
    (hq : ((coreOf s c).ds - 4).toNat < dataBytes c) :
    let k := coreOf s c
    inPair (.push c) s c rd 0 (addCycles { k with
      ds := k.ds - 4, pc := k.pc + 4, mem := Memory.write k.mem (k.ds - 4).toNat (leBytes 4 (reg k rd.toNat).toNat) } 1) := by
  have hq4 : ((coreOf s c).ds - 4).toNat % 4 = 0 := by bv_omega
  generalize hv : reg (coreOf s c) rd.toNat = v
  generalize ha : ((coreOf s c).ds - 4).toNat = a at hq hq4
  have hx : pushAt c (coreOf s c).ds v = .ok (pushRes (coreOf s c).ds v a) := by
    subst ha
    exact (if_neg (not_not.mpr hp)).trans (if_neg (Nat.not_le.mpr hq))
  have hs : slot s c (coreOf s c) { sop := 21, rd := rd, x := 0 } = .ok (pushRes (coreOf s c).ds v a, s) := by
    rw [slot_push _ _ _ _ hn, hv, hx]; rfl
  have hl := inPair_of_commit (push_executes c) h hs (slotStore_data rfl hq4 hq) (commitWord_data_store rfl hq4 hq)
  rw [storeCore_pushRes] at hl
  subst hv ha
  exact hl

/-- POP where the word at ds is in data memory (09 R286). -/
theorem pop_lands (h : Runs s c) (hn : rd.toNat < 24) (hp : (coreOf s c).ds.toNat % 4 = 0)
    (hq : (coreOf s c).ds.toNat < dataBytes c) :
    let k := coreOf s c
    inPair (.pop c) s c rd 0 (addCycles { writeReg { k with ds := k.ds + 4 } rd.toNat
      (BitVec.ofNat 32 (leNat (Memory.read k.mem k.ds.toNat 4))) with pc := k.pc + 4 } 2) := by
  intro k
  have hx : popAt k c rd.toNat = .ok { SlotRes.none with
      regs := [(rd.toNat, BitVec.ofNat 32 (leNat (Memory.read k.mem k.ds.toNat 4))), (24, k.ds + 4)] } :=
    (if_neg (not_not.mpr hp)).trans (if_neg (Nat.not_le.mpr hq))
  have hl := inPair_of_slot (pop_executes c) h (x := 0) (by rw [slot_pop _ _ _ _ (Nat.le_of_lt hn), hx]; rfl) rfl
  rw [← writeReg_then_ds k hn]
  exact hl

end

/-- Settles O14: each slot is pushAt or popAt, whose three branches are the statement's; a fault on a management core moves no
ds. -/
theorem pushAndPopUseTheDataStack : Obligations.PushAndPopUseTheDataStack := by
  intro s c rd h hn hw k ds m p q faults
  have hr : rd.toNat ≤ 24 := hn rd (List.mem_singleton.mpr rfl)
  have push_faults {n : Nat} (he : pushAt c ds (reg k rd.toNat) = .error (.fault n)) : faults (.push c) n :=
    faults_beside_nop (push_executes c) h (by rw [slot_push _ _ _ _ hr, he]; rfl)
  have pop_faults {n : Nat} (he : popAt k c rd.toNat = .error (.fault n)) : faults (.pop c) n :=
    faults_beside_nop (pop_executes c) h (by rw [slot_pop _ _ _ _ hr, he]; rfl)
  refine ⟨fun hp => ⟨push_faults (if_pos hp), pop_faults (if_pos hp)⟩, fun hp hq => push_faults ?_, fun hp hq => pop_faults ?_,
    fun hp hq => ⟨_, stored_write hw q 4 _, push_lands h hr hp hq⟩, fun hp hq h24 => ?_,
    fun hc n _ => faulted_mgmt_ds s n hc⟩
  · exact (if_neg (not_not.mpr hp)).trans (if_pos hq)
  · exact (if_neg (not_not.mpr hp)).trans (if_pos hq)
  · rw [← word_of_read]
    exact pop_lands h (by omega) hp hq

end Sys2Proof.Machine
end

section
/-!
SUPPORT. What a short operation reads and writes: the model's table of uses against the lists of R292, and the four checks of R289.
-/

namespace Sys2Proof.Machine

open Sys2Proof

/-- The table of uses is R292's, for every sop. -/
theorem sopUse_regs : ∀ sop < 32, ((sopUse sop).readsD = true ↔ readsRd sop) ∧ ((sopUse sop).readsA = true ↔ readsRa sop) ∧
    ((sopUse sop).writesD = true ↔ writesRd sop) ∧ ((sopUse sop).stack = true ↔ usesStack sop) ∧
    ((sopUse sop).mem = true ↔ usesMemory sop) := by
  unfold readsRd readsRa writesRd usesStack usesMemory
  decide

theorem sopUse_flags_lt : ∀ sop < 32, (sopUse sop).flags < 16 := by decide

/-- Bit b of the table's flags says whether the operation writes flag b. -/
theorem sopUse_flags_testBit {sop : Nat} (h : sop < 32) (b : Nat) : (sopUse sop).flags.testBit b = true ↔ writesFlag sop b := by
  by_cases hb : b < 4
  · unfold writesFlag
    interval_cases b
    all_goals
      revert sop
      decide
  · have hl : (sopUse sop).flags < 2 ^ b :=
      Nat.lt_of_lt_of_le (sopUse_flags_lt sop h) (Nat.pow_le_pow_right (n := 2) (by decide) (Nat.le_of_not_lt hb))
    have hn : ¬ writesFlag sop b := by unfold writesFlag; omega
    simp [Nat.testBit_lt_two_pow hl, hn]

theorem mem_slotReads {x : Short} {r : Nat} : r ∈ slotReads x ↔ readsReg x r := by
  obtain ⟨hd, ha, -, hs, -⟩ := sopUse_regs x.sop.toNat x.sop.isLt
  simp only [slotReads, List.mem_append, List.mem_ite_nil_right, List.mem_singleton, or_assoc]
  simp only [slotUse, hd, ha, hs, readsReg, eq_comm (a := r)]

theorem mem_slotWrites {x : Short} {r : Nat} : r ∈ slotWrites x ↔ writesReg x r := by
  obtain ⟨-, -, hw, hs, -⟩ := sopUse_regs x.sop.toNat x.sop.isLt
  simp only [slotWrites, List.mem_append, List.mem_ite_nil_right, List.mem_singleton]
  simp only [slotUse, hw, hs, writesReg, eq_comm (a := r)]

/-- Two slots share a flag that both write exactly where their masks meet. -/
theorem shared_flag_iff (a b : Short) : ((slotUse a).flags &&& (slotUse b).flags) ≠ 0 ↔
    ∃ f, writesFlag a.sop.toNat f ∧ writesFlag b.sop.toNat f := by
  simp only [slotUse, ← sopUse_flags_testBit a.sop.isLt, ← sopUse_flags_testBit b.sop.isLt, ← Bool.and_eq_true,
    ← Nat.testBit_and]
  refine ⟨Nat.exists_testBit_of_ne_zero, fun ⟨f, hf⟩ h => ?_⟩
  rw [h, Nat.zero_testBit] at hf
  exact absurd hf (by decide)

/-- The four checks of independence are those of R289. -/
theorem pairDependent_iff (a b : Short) : pairDependent a b = true ↔
    (∃ r, writesReg a r ∧ writesReg b r) ∨ (∃ r, writesReg a r ∧ readsReg b r) ∨
      (∃ f, writesFlag a.sop.toNat f ∧ writesFlag b.sop.toNat f) ∨ (usesMemory a.sop.toNat ∧ usesMemory b.sop.toNat) := by
  obtain ⟨-, -, -, -, ha⟩ := sopUse_regs a.sop.toNat a.sop.isLt
  obtain ⟨-, -, -, -, hb⟩ := sopUse_regs b.sop.toNat b.sop.isLt
  simp only [pairDependent, Bool.or_eq_true, Bool.and_eq_true, List.any_eq_true, List.contains_iff_mem, mem_slotReads, mem_slotWrites,
    bne_iff_ne, shared_flag_iff, or_assoc]
  simp only [slotUse, ha, hb]

end Sys2Proof.Machine
end

section
/-!
SUPPORT. The flags that a short register operation writes are among those of R292, so that two independent slots write theirs in
either order.
-/

namespace Sys2Proof.Machine

open Sys2Proof

/-- A set of flags writes no flag but those that R292 lists for sop. -/
structure FlagSet.Within (f : FlagSet) (sop : Nat) : Prop where
  z : f.z.isSome → writesFlag sop 0
  n : f.n.isSome → writesFlag sop 1
  c : f.c.isSome → writesFlag sop 2
  v : f.v.isSome → writesFlag sop 3
  dz : f.dz = none

theorem aluLuhn_flags (d a : Word) : ∃ b, (aluLuhn d a).2 = FlagSet.ov b := by
  unfold aluLuhn
  dsimp only
  split
  · exact ⟨true, rfl⟩
  · exact ⟨false, rfl⟩

/-- A register operation of a slot stores nothing and writes no flag but its own (09 R292). -/
theorem shortAlu_within {k : CoreCtl} {sop rd : Nat} {d a : Word} {x : BitVec 5} {r : SlotRes}
    (h : shortAlu k sop rd d a x = some r) : r.store = none ∧ r.flags.Within sop := by
  obtain ⟨b, hl⟩ := aluLuhn_flags d a
  unfold shortAlu at h
  dsimp only at h
  split at h <;> cases h
  -- In each row the flags are written out, and R292's list of the row is a list of numerals.
  all_goals
    refine ⟨rfl, ?_, ?_, ?_, ?_, ?_⟩ <;>
      simp [SlotRes.none, SlotRes.alu, SlotRes.val, FlagSet.keep, FlagSet.zn, FlagSet.ov, aluAdd, aluSub, aluLogic, aluShl, aluShr,
        aluSar, aluRor, aluDect, hl, writesFlag]

/-- Every short operation that is no access to memory computes a result. -/
theorem shortAlu_isSome {sop : Nat} (h : sop < 31) (hm : ¬ usesMemory sop) (k : CoreCtl) (rd : Nat) (d a : Word) (x : BitVec 5) :
    ∃ r, shortAlu k sop rd d a x = some r := by
  unfold usesMemory at hm
  by_cases hl : sop < 17
  · interval_cases sop <;> exact ⟨_, rfl⟩
  · have hu : 23 ≤ sop := by omega
    interval_cases sop <;> exact ⟨_, rfl⟩

/-- One flag after two writes of which at most one is made. -/
theorem pick_orElse {a b : Option Bool} (h : ¬ (a.isSome ∧ b.isSome)) (x : Bool) : pick (a <|> b) x = pick b (pick a x) := by
  cases a with
  | none => rfl
  | some y => cases b with
    | none => rfl
    | some z => exact absurd ⟨rfl, rfl⟩ h

/-- The flags of two slots that share none, written together or one after the other (09 R289). -/
theorem FlagSet.join_apply {f g : FlagSet} {m n : Nat} (hf : f.Within m) (hg : g.Within n)
    (hi : ¬ ∃ b, writesFlag m b ∧ writesFlag n b) (k : CoreCtl) : (f.join g).apply k = g.apply (f.apply k) := by
  unfold FlagSet.apply FlagSet.join
  simp only [pick_orElse (fun h => hi ⟨0, hf.z h.1, hg.z h.2⟩), pick_orElse (fun h => hi ⟨1, hf.n h.1, hg.n h.2⟩),
    pick_orElse (fun h => hi ⟨2, hf.c h.1, hg.c h.2⟩), pick_orElse (fun h => hi ⟨3, hf.v h.1, hg.v h.2⟩), hf.dz, hg.dz]
  rfl

end Sys2Proof.Machine
end

section
/-!
PROOFS. Pairs: a dependent pair faults with PAIRX whatever else is wrong with it, and an independent pair of register operations
commits both slots.
-/

namespace Sys2Proof.Machine

open Sys2Proof

/-- The rows of the table that are short operations execute their pair. -/
theorem exec_shortRow {c : Nat} {sop : BitVec 5} {f : ShortForm} {i : Instr} (h : shortRow c sop.toNat f = some i) (s : State) :
    exec i s = execWord c (shortWord c sop f) s := by
  have hs : sop = BitVec.ofNat 5 sop.toNat := by simp
  generalize sop.toNat = n at h hs
  subst hs
  unfold shortRow at h
  split at h <;> cases h <;> rfl

/-- Only the short operations 0 to 30 have a row. -/
theorem sop_lt_of_shortRow {c : Nat} {sop : BitVec 5} {f : ShortForm} {i : Instr} (h : shortRow c sop.toNat f = some i) :
    sop.toNat < 31 := by
  have hs := sop.isLt
  by_contra hn
  have he : sop.toNat = 31 := by omega
  rw [he] at h
  exact absurd h (by simp [shortRow])

theorem not_slotLoads {x : Short} (h : ¬ usesMemory x.sop.toNat) : slotLoads x = false := by
  unfold usesMemory at h
  simp only [slotLoads, Bool.or_eq_false_iff, beq_eq_false_iff_ne]
  bv_omega

/-- A slot of a register operation with defined registers, and what it computes. -/
theorem register_slot {s : State} {c : Nat} {x : Short} (k : EloaCore) (hl : x.sop.toNat < 31) (hm : ¬ usesMemory x.sop.toNat)
    (h0 : x.sop ≠ 0) (hr : ∀ r, readsReg x r ∨ writesReg x r → r ≤ 24) :
    ∃ r, shortAlu k.ctl x.sop.toNat x.rd.toNat (reg k x.rd.toNat) (reg k x.x.toNat) x.x = some r ∧ slot s c k x = .ok (r, s) := by
  obtain ⟨r, ha⟩ := shortAlu_isSome hl hm k.ctl x.rd.toNat (reg k x.rd.toNat) (reg k x.x.toNat) x.x
  refine ⟨r, ha, slot_alu (fun n hn => hr n ?_) h0 hm ha⟩
  rwa [List.mem_append, mem_slotReads, mem_slotWrites] at hn

theorem writeRegs_append (k : EloaCore) (l m : List (Nat × Word)) : writeRegs k (l ++ m) = writeRegs (writeRegs k l) m :=
  List.foldl_append

/-- Settles O11: the check of a pair is R289's, and both slots of an independent one commit their own results. -/
theorem dependentPairsFaultBeforeAnythingElse : Obligations.DependentPairsFaultBeforeAnythingElse := by
  intro s c a b i j h hi hj dependent
  refine ⟨fun hd => ?_, fun hd ma mb ha0 hb0 hr => ?_⟩
  · rw [exec_shortRow hi, exec_shortRow hj]
    have hp := pair_faults h ((pairDependent_iff a b).mpr hd)
    exact ⟨hp, hp⟩
  · intro k
    obtain ⟨ra, ha, sa⟩ := register_slot (s := s) (c := c) k (sop_lt_of_shortRow hi) ma ha0
      (fun r h => hr r (h.imp_right .inl))
    obtain ⟨rb, hb, sb⟩ := register_slot (s := s) (c := c) k (sop_lt_of_shortRow hj) mb hb0 (fun r h => hr r (.inr (.inr h)))
    obtain ⟨na, wa⟩ := shortAlu_within ha
    obtain ⟨nb, wb⟩ := shortAlu_within hb
    have hind : pairDependent a b = false := Bool.eq_false_iff.mpr (fun hp => hd ((pairDependent_iff a b).mp hp))
    have hp := pair_word h hind sa sb na nb
    rw [pairCore, writeRegs_append, FlagSet.join_apply wa wb (fun hf => hd (.inr (.inr (.inl hf)))), not_slotLoads ma,
      not_slotLoads mb] at hp
    exact ⟨ra, rb, ha, hb, (exec_shortRow hi s).trans hp, (exec_shortRow hj s).trans hp⟩

end Sys2Proof.Machine
end
